-- ==== Sys2Proof/Word.lean ====
section
/-! DEFINITION. The word types of the line's messages (spec/11, R205): a byte, and the two, three and four byte fields. -/

namespace Sys2Proof

/-- One byte of a frame (R193). -/
abbrev Byte := BitVec 8

end Sys2Proof
end

