-- ==== Sys2Proof/Syntax.lean ====
section
/-! DEFINITION. The commands the block takes: one constructor of `Instr` per row of spec/opcode_table.json, with the row's
operands. Request fields are the raw bytes of the request body (R205), so that every refusal of the spec can be asked for. -/

namespace Sys2Proof

/-- The three tape speeds (00, section 2.2). -/
inductive Grade where
  | full | half | third
  deriving DecidableEq, Repr, Inhabited

/-- The four positions the mode switch reports (01, section 1.2): `inn` is IN. -/
inductive ModePos where
  | out | inn | thread | between
  deriving DecidableEq, Repr

/-- A reading of the AFC discriminator (R91). -/
inductive Disc where
  | centre | low | high
  deriving DecidableEq, Repr

/-- The two reels. -/
inductive Reel where
  | supply | takeup
  deriving DecidableEq, Repr

/-- The two clear-leader sensors (01, section 1.2). -/
inductive LeaderSensor where
  | endSensor | beginSensor
  deriving DecidableEq, Repr

/-- What the wake detector sees on the receive line (R188): the line held low for at least 1 ms, or a falling edge
that is no such break. -/
inductive WakeSignal where
  | breakLow | edge
  deriving DecidableEq, Repr

/-- The capstan's phase in a frame, in hundredths of a percent of the frame period, as the deck shows it against each of the two
references of R30: the internal one, and the control pulses read. -/
structure CapstanPhase where
  internal : Int
  pulse    : Int
  deriving DecidableEq, Repr

/-- The commands. A constructor stands for the row of spec/opcode_table.json that LAWS.json names beside it. -/
inductive Instr where
  -- host requests: status, notices, restart (R198, R200, R201, R203)
  | statusGet
  | statusClear (sticky reported : Byte)
  | noticeMask (mask : BitVec 16)
  | restart
  -- host requests: power (R185, R188)
  | standbyEnter
  | standbyCancel
  | wakeSet (filter : Byte)
  -- host requests: transport and control track (R8, R11, R52, R53, R55, R43, R76)
  | deckGo (target multiplier grade tracking : Byte) (offset : Byte) (endAction : Byte)
  | deckGoStop (multiplier grade tracking : Byte) (offset : Byte) (endAction : Byte)
  | deckGet
  | counterSet (mode : Byte) (value : BitVec 32)
  | matchSet (action : Byte) (value : BitVec 32)
  | matchSetDisarm
  | cueSeek (direction limit endMode kindP kind slotP slot dayP day rangeP : Byte) (low high : BitVec 16)
  | cueWrite (code : BitVec 16)
  | tapeGet
  -- host requests: tuner (R92, R80, R81, R82, R93, R104, R124)
  | tune (mode number : Byte) (freq : BitVec 16) (fine : Byte)
  | presetPutWrite (number : Byte) (freq : BitVec 16) (fine skip timeSource : Byte) (name : List Byte)
  | presetPutStoreFine (number : Byte)
  | presetPutErase (number : Byte)
  | presetGet (number : Byte)
  | scanStart (freq : BitVec 16) (autoStore : Byte)
  | scanContinue
  | scanStop
  | viewEnd
  | captureSet (selection action : Byte)
  -- host requests: clock (R134, R135, R133, R136)
  | clockPutSetTime (year month day hours minutes seconds : Byte)
  | clockPutSetTrim (trim : Byte)
  | clockGet
  | zonePut (zone source ruleP startMonth startWeek startHour endMonth endWeek endHour : Byte)
  | syncPut (setting : Byte)
  -- host requests: timer (R145, R149, R147, R157, R179, R153)
  | eventPut (slot recurrence year month day days startH startM stopH stopM preset grade priority preempt cue labelP : Byte)
      (key mask : BitVec 24) (overrunP : Byte) (overrun : Byte)
  | eventGet (slot : Byte)
  | eventStateArm (slot : Byte)
  | eventStateHold (slot : Byte)
  | eventStateErase (slot : Byte)
  | planGet
  | cancel (slot year month day : Byte)
  | resultGet (slot : Byte)
  -- the line (R193, R194, R199, R188)
  | frameComplete (bytes : List Byte)
  | framingError (len : Byte)
  | interByteTimeout
  | lineError
  | transmitFrameEnd
  | wakeEvent (signal : WakeSignal)
  | wakingByteDiscard (byte : Byte)
  | linkIdleAwake
  -- the mechanism (R4, R5, R6, R13, R18 to R21)
  | cassetteInserted (tab : Bool)
  | cassetteRemoved
  | motionComplete (position : ModePos)
  | motionTimeout
  | spinUpTimeout
  | idleTimeout
  | endSensorLit
  | beginSensorLit
  | reelStall
  -- the tape path. Phases are in hundredths of a percent of the frame period (R30): the drum's and the capstan's against
  -- the internal reference, and the capstan's against the control pulse read in the frame, if one was; the duty is in
  -- hundredths of a percent (R40), elapsed time in units of 100 us since the reel's last edge (R64)
  | servoFrame (drumPhase : Int) (capstanPhase : CapstanPhase)
  | trackingReading (levels : List Byte)
  | controlPulseRead (duty : Nat)
  | blankDetected
  | framesUnreadLimit
  | capstanStep
  | controlPulseWrite
  | reelTachoEdge (reel : Reel) (elapsed : Nat)
  | windRevolutionOverflow (reel : Reel)
  -- the tuner module's readings (R87, R90, R94, R95) and the arbiter's timers (R106, R107)
  | tuningComplete (carrier sync : Bool)
  | detectorReading (carrier sync : Bool) (disc : Disc)
  | scanDwellEnd (carrier sync : Bool) (disc : Disc)
  | scanFineStepEnd (carrier sync : Bool) (disc : Disc)
  | scanFinalHoldEnd (carrier sync : Bool)
  | syncWaitLimit
  | minimumHoldExpiry
  | holdLimitExpiry
  -- the data line (R112): the twelve bytes, parity bit included
  | packetArrival (bytes : List Byte)
  -- the clock (R127, R138, R136, R137)
  | clockSecondAdvance
  | candidateExpiry
  | visitAgeLimit
  | syncRetryExpiry
  -- the timer (R164, R168, R169, R172, R173)
  | armingMoment
  | timedRecordStart
  | signalTimeout
  | recordingTimeUp
  | labelFallbackTest
  | windowEnd
  | labelTrimmedStop
  -- power (R187, R190 to R192)
  | returnTimerExpiry
  | supplyLost
  | supplyPresent
  | supplyAbsentReturning
  | supplyReturn
  | powerOnReset (cassette tab : Bool) (position : ModePos) (endLit beginLit : Bool)
  -- added rows of the table (R127, R21)
  | clockTick
  | endOrBeginSensorDark (sensor : LeaderSensor)
  deriving DecidableEq, Repr

end Sys2Proof
end

