-- ==== Sys2Proof/WellFormed.lean ====
section
/-! DEFINITION. Which commands are spelled as the spec spells them. A meaning is total on every term; these checks say
which terms stand for something the outside can send. -/

namespace Sys2Proof

/-- The checks of R8 and R53 (the row of another action), of a frame's 63 body bytes (11.1), of R37's 8 levels, of R40's
duty, of the 12 bytes of a packet (R112) and of R193's framing error. -/
def Instr.wellFormed : Instr → Bool
  | .deckGo target _ _ _ _ _ => target != 0
  | .matchSet action _ => action != 3
  | .presetPutWrite _ _ _ _ _ name => name.length ≤ 55
  | .trackingReading levels => levels.length == 8
  | .controlPulseRead duty => duty ≤ 10000
  | .packetArrival bytes => bytes.length == 12
  | .framingError len => len == 0 || 64 < len.toNat
  | _ => true

end Sys2Proof
end

