-- ==== Sys2Proof/Decode.lean ====
section
/-! DEFINITION. The decoder. spec/opcode_table.json gives no row any bits, so no word of the table spells a command; what
the part itself decodes is the KIND and BODY of a request frame (R195, 11.6, R205), and that decoder and its encoder
stand here. -/

namespace Sys2Proof

/-- The command a word of the table spells: none, for the table gives no row any bits. Log 42. -/
def decodeTableWord (_nbits _w : Nat) : Option Instr := none

/-! ## Byte order (00, section 2.4: the least significant byte first) -/

/-- Two bytes, least significant first, as one field. -/
def le16 (b0 b1 : Byte) : BitVec 16 := b1 ++ b0

/-- Three bytes, least significant first, as one field. -/
def le24 (b0 b1 b2 : Byte) : BitVec 24 := b2 ++ (b1 ++ b0)

/-- Four bytes, least significant first, as one field. -/
def le32 (b0 b1 b2 b3 : Byte) : BitVec 32 := b3 ++ (b2 ++ (b1 ++ b0))

/-- A two byte field as it goes on the line. -/
def bytes16 (w : BitVec 16) : List Byte := [w.extractLsb' 0 8, w.extractLsb' 8 8]

/-- A three byte field as it goes on the line. -/
def bytes24 (w : BitVec 24) : List Byte := [w.extractLsb' 0 8, w.extractLsb' 8 8, w.extractLsb' 16 8]

/-- A four byte field as it goes on the line. -/
def bytes32 (w : BitVec 32) : List Byte :=
  [w.extractLsb' 0 8, w.extractLsb' 8 8, w.extractLsb' 16 8, w.extractLsb' 24 8]

/-! ## Request frames -/

/-- What LNK reads from a request's KIND and BODY (R195). -/
inductive Decoded where
  /-- a KIND that is not in the request table -/
  | unknownKind
  /-- a body whose length is not the kind's -/
  | malformed
  /-- an action outside its list: refused FIELD_RANGE with this field number, and no row of the table is meant -/
  | badField (field : Nat)
  /-- a request -/
  | command (i : Instr)
  deriving DecidableEq, Repr

/-- STANDBY, 0x05 (R185): ENTER, CANCEL. -/
def decodeStandby : List Byte → Decoded
  | [a] => if a = 0 then .command .standbyEnter else if a = 1 then .command .standbyCancel else .badField 1
  | _ => .malformed

/-- DECK_GO, 0x10 (R8): the row of target STOP is a row of its own (R11). -/
def decodeDeckGo : List Byte → Decoded
  | [t, m, g, k, o, e] =>
    if t = 0 then .command (.deckGoStop m g k o e) else .command (.deckGo t m g k o e)
  | _ => .malformed

/-- MATCH_SET, 0x13 (R53): DISARM, action 3, is a row of its own. -/
def decodeMatchSet : List Byte → Decoded
  | [a, v0, v1, v2, v3] =>
    if a = 3 then .command .matchSetDisarm else .command (.matchSet a (le32 v0 v1 v2 v3))
  | _ => .malformed

/-- PRESET_PUT, 0x21 (R80, R195): 8 bytes and then as many name bytes as the byte at offset 7 says. -/
def decodePresetPut : List Byte → Decoded
  | n :: a :: f0 :: f1 :: fine :: skip :: src :: len :: name =>
    if name.length = len.toNat then
      if a = 0 then .command (.presetPutWrite n (le16 f0 f1) fine skip src name)
      else if a = 1 then .command (.presetPutStoreFine n)
      else if a = 2 then .command (.presetPutErase n)
      else if n.toNat = 0 ∨ 99 < n.toNat then .badField 1 else .badField 2
    else .malformed
  | _ => .malformed

/-- SCAN, 0x23 (R93): START, CONTINUE, STOP. -/
def decodeScan : List Byte → Decoded
  | [a, f0, f1, auto] =>
    if a = 0 then .command (.scanStart (le16 f0 f1) auto)
    else if a = 1 then .command .scanContinue
    else if a = 2 then .command .scanStop
    else .badField 1
  | _ => .malformed

/-- CLOCK_PUT, 0x30 (R134): SET_TIME, SET_TRIM. -/
def decodeClockPut : List Byte → Decoded
  | [a, y, mo, d, h, mi, s, trim] =>
    if a = 0 then .command (.clockPutSetTime y mo d h mi s)
    else if a = 1 then .command (.clockPutSetTrim trim)
    else .badField 1
  | _ => .malformed

/-- EVENT_PUT, 0x38 (R205, event slot body). -/
def decodeEventPut : List Byte → Decoded
  | [slot, rec, y, mo, d, days, sh, sm, eh, em, pre, gr, prio, pt, cue, lp, k0, k1, k2, m0, m1, m2, op, ov] =>
    .command (.eventPut slot rec y mo d days sh sm eh em pre gr prio pt cue lp (le24 k0 k1 k2) (le24 m0 m1 m2) op ov)
  | _ => .malformed

/-- EVENT_STATE, 0x3A (R147): ARM, HOLD, ERASE. Where the slot and the action are both out of range, field 1 is named (log 50,
DESIGN CHOICE). -/
def decodeEventState : List Byte → Decoded
  | [slot, a] =>
    if a = 0 then .command (.eventStateArm slot)
    else if a = 1 then .command (.eventStateHold slot)
    else if a = 2 then .command (.eventStateErase slot)
    else if 15 < slot.toNat then .badField 1 else .badField 2
  | _ => .malformed

/-- CUE_SEEK, 0x14 (R55). -/
def decodeCueSeek : List Byte → Decoded
  | [dir, lim, em, kp, k, sp, s, dp, d, rp, l0, l1, h0, h1] =>
    .command (.cueSeek dir lim em kp k sp s dp d rp (le16 l0 l1) (le16 h0 h1))
  | _ => .malformed

/-- A request with an empty body. -/
def decodeBare (i : Instr) : List Byte → Decoded
  | [] => .command i
  | _ => .malformed

/-- A request with a body of one byte. -/
def decodeOne (i : Byte → Instr) : List Byte → Decoded
  | [b] => .command (i b)
  | _ => .malformed

/-- A request with a body of two bytes. -/
def decodeTwo (i : Byte → Byte → Instr) : List Byte → Decoded
  | [a, b] => .command (i a b)
  | _ => .malformed

/-- COUNTER_SET, 0x12 (R52). -/
def decodeCounterSet : List Byte → Decoded
  | [m, v0, v1, v2, v3] => .command (.counterSet m (le32 v0 v1 v2 v3))
  | _ => .malformed

/-- TUNE, 0x20 (R92). -/
def decodeTune : List Byte → Decoded
  | [m, n, f0, f1, fine] => .command (.tune m n (le16 f0 f1) fine)
  | _ => .malformed

/-- ZONE_PUT, 0x32 (R133). -/
def decodeZonePut : List Byte → Decoded
  | [z, src, rp, sm, sw, sh, em, ew, eh] => .command (.zonePut z src rp sm sw sh em ew eh)
  | _ => .malformed

/-- CANCEL, 0x3C (R179). -/
def decodeCancel : List Byte → Decoded
  | [slot, y, m, d] => .command (.cancel slot y m d)
  | _ => .malformed

/-- The request table of section 11.6, by KIND. -/
def decodeRequest (kind : Byte) (body : List Byte) : Decoded :=
  match kind.toNat with
  | 0x01 => decodeBare .statusGet body
  | 0x02 => decodeTwo .statusClear body
  | 0x03 => decodeTwo (fun a b => .noticeMask (le16 a b)) body
  | 0x04 => decodeBare .restart body
  | 0x05 => decodeStandby body
  | 0x06 => decodeOne .wakeSet body
  | 0x10 => decodeDeckGo body
  | 0x11 => decodeBare .deckGet body
  | 0x12 => decodeCounterSet body
  | 0x13 => decodeMatchSet body
  | 0x14 => decodeCueSeek body
  | 0x15 => decodeTwo (fun a b => .cueWrite (le16 a b)) body
  | 0x16 => decodeBare .tapeGet body
  | 0x20 => decodeTune body
  | 0x21 => decodePresetPut body
  | 0x22 => decodeOne .presetGet body
  | 0x23 => decodeScan body
  | 0x24 => decodeBare .viewEnd body
  | 0x25 => decodeTwo .captureSet body
  | 0x30 => decodeClockPut body
  | 0x31 => decodeBare .clockGet body
  | 0x32 => decodeZonePut body
  | 0x33 => decodeOne .syncPut body
  | 0x38 => decodeEventPut body
  | 0x39 => decodeOne .eventGet body
  | 0x3A => decodeEventState body
  | 0x3B => decodeBare .planGet body
  | 0x3C => decodeCancel body
  | 0x3D => decodeOne .resultGet body
  | _ => .unknownKind

/-- The KIND and BODY of a host request, none for the rows that are no request (11.6, R205). Fields the row does not
read are sent as zeros. -/
def encodeRequest : Instr → Option (Byte × List Byte)
  | .statusGet => some (0x01, [])
  | .statusClear a b => some (0x02, [a, b])
  | .noticeMask m => some (0x03, bytes16 m)
  | .restart => some (0x04, [])
  | .standbyEnter => some (0x05, [0])
  | .standbyCancel => some (0x05, [1])
  | .wakeSet f => some (0x06, [f])
  | .deckGo t m g k o e => some (0x10, [t, m, g, k, o, e])
  | .deckGoStop m g k o e => some (0x10, [0, m, g, k, o, e])
  | .deckGet => some (0x11, [])
  | .counterSet m v => some (0x12, m :: bytes32 v)
  | .matchSet a v => some (0x13, a :: bytes32 v)
  | .matchSetDisarm => some (0x13, [3, 0, 0, 0, 0])
  | .cueSeek dir lim em kp k sp s dp d rp l h =>
    some (0x14, [dir, lim, em, kp, k, sp, s, dp, d, rp] ++ bytes16 l ++ bytes16 h)
  | .cueWrite c => some (0x15, bytes16 c)
  | .tapeGet => some (0x16, [])
  | .tune m n f fine => some (0x20, [m, n] ++ bytes16 f ++ [fine])
  | .presetPutWrite n f fine skip src name =>
    some (0x21, [n, 0] ++ bytes16 f ++ [fine, skip, src, BitVec.ofNat 8 name.length] ++ name)
  | .presetPutStoreFine n => some (0x21, [n, 1, 0, 0, 0, 0, 0, 0])
  | .presetPutErase n => some (0x21, [n, 2, 0, 0, 0, 0, 0, 0])
  | .presetGet n => some (0x22, [n])
  | .scanStart f auto => some (0x23, [0] ++ bytes16 f ++ [auto])
  | .scanContinue => some (0x23, [1, 0, 0, 0])
  | .scanStop => some (0x23, [2, 0, 0, 0])
  | .viewEnd => some (0x24, [])
  | .captureSet sel a => some (0x25, [sel, a])
  | .clockPutSetTime y mo d h mi s => some (0x30, [0, y, mo, d, h, mi, s, 0])
  | .clockPutSetTrim t => some (0x30, [1, 0, 0, 0, 0, 0, 0, t])
  | .clockGet => some (0x31, [])
  | .zonePut z src rp sm sw sh em ew eh => some (0x32, [z, src, rp, sm, sw, sh, em, ew, eh])
  | .syncPut b => some (0x33, [b])
  | .eventPut slot rec y mo d days sh sm eh em pre gr prio pt cue lp key mask op ov =>
    some (0x38, [slot, rec, y, mo, d, days, sh, sm, eh, em, pre, gr, prio, pt, cue, lp] ++ bytes24 key ++ bytes24 mask
      ++ [op, ov])
  | .eventGet b => some (0x39, [b])
  | .eventStateArm b => some (0x3A, [b, 0])
  | .eventStateHold b => some (0x3A, [b, 1])
  | .eventStateErase b => some (0x3A, [b, 2])
  | .planGet => some (0x3B, [])
  | .cancel slot y m d => some (0x3C, [slot, y, m, d])
  | .resultGet b => some (0x3D, [b])
  | _ => none

/-- The CHECK byte of a frame: what makes LEN, KIND, BODY and CHECK sum to 0 modulo 256 (11.1). -/
def checkByte (len : Byte) (payload : List Byte) : Byte := 0 - payload.foldl (· + ·) len

/-- A whole frame: SYNC, LEN, KIND, BODY, CHECK (11.1). -/
def frameOf (kind : Byte) (body : List Byte) : List Byte :=
  let len : Byte := BitVec.ofNat 8 (body.length + 1)
  [0xC3, len, kind] ++ body ++ [checkByte len (kind :: body)]

end Sys2Proof
end

