-- ==== Sys2Proof/Config.lean ====
section
/-! DEFINITION. What the spec leaves open: free values, each an opaque constant applied to `State.fresh` and to what it
depends on, so that nothing can be proved of it; and the bound on the reports taken inside one command. -/

namespace Sys2Proof

/-- The truth of a flag byte that is neither 0 nor 1 (R205 says only that a flag is 1 when set). Log 7. -/
opaque Config.strayFlag : Nat → Nat → Bool

/-- A byte of a message that has no meaning: its presence flag is 0 (00, section 2.4; log 8), or it stands for what the kind
before it does not have (logs 78 and 79). -/
opaque Config.absentByte : Nat → Nat → BitVec 8

/-- The grade to use that a DROPPED entry of the plan shows: R163 gives one to the other entries only. Log 9. -/
opaque Config.droppedGrade : Nat → Nat → Grade

/-- The fit verdict that a DROPPED entry of the plan shows, by its number in R157's list. Log 9. -/
opaque Config.droppedFit : Nat → Nat → Fin 4

/-- The remaining seconds that a RECORD entry sets, given how many seconds ahead the effective stop lies, where that is more than
R158's field holds. Log 74. -/
opaque Config.longRemaining : Nat → Nat → Fin 86401

/-- The remaining seconds that PLAN_GET shows while they are not meaningful (R158). Log 73. -/
opaque Config.idleRemaining : Nat → Fin 86401

/-- The most reports between blocks that one command takes; the next command takes any that are left first. Log 4. -/
def Config.reportBound : Nat := 4096

end Sys2Proof
end

