-- ==== Sys2Proof/Machine/State.lean ====
section
/-! DEFINITION. The state of the block: one record per block of 00 section 1.2, the input pins, the reports waiting inside
a command and the queue of commands; why a command could stop; and the state after reset. Lists of values stand in the
order their owning rule gives, because a message carries a value's place in that list (R205). -/

namespace Sys2Proof.Machine

/-- Why the model itself stops: it never does. -/
inductive Fault where
  /-- Raised by no command: the spec gives every command of the table an effect. The constructor stands only so that the
  type the host asks for is not empty. Safe, because no command stops. -/
  | neverRaised
  deriving DecidableEq, Repr

/-- Why a command has no meaning. -/
inductive Refusal where
  /-- Raised by an arm of `exec` whose command has no meaning yet: safe. No arm raises it. -/
  | notModelled (mnemonic : String)
  deriving DecidableEq, Repr

/-! ## MEC (01) -/

/-- The transport states (R2). -/
inductive TState where
  | empty | loading | unthreaded | threading | threaded | play | still | searchFwd | searchRev | record | recordPause
  | unthreading | windFwd | windRev | ejecting | recovery | fault
  deriving DecidableEq, Repr

/-- HOST or TIMER: the owner of the transport, and the origin of a target, a mark or a grant (R1, R43, R99). -/
inductive Owner where
  | host | timer
  deriving DecidableEq, Repr

/-- DECK_GO's targets (R8). -/
inductive Target where
  | stop | play | still | searchFwd | searchRev | record | recordPause | windFwd | windRev | unthread | eject
  deriving DecidableEq, Repr

/-- The three search speeds (R12). -/
inductive Speed where
  | x3 | x7 | x15
  deriving DecidableEq, Repr

/-- The end action (R1). -/
inductive EndAction where
  | stop | rewind
  deriving DecidableEq, Repr

/-- The fault cause (R1). -/
inductive FaultCause where
  | none | motionTimeout | reelStall
  deriving DecidableEq, Repr

/-- The refusal reasons, in R195's order. -/
inductive Reason where
  | noCassette | tabProtected | busyRecording | busyTimer | tunerHeld | slotBusy | fieldRange | clockUnset | cueBusy
  | notThreaded | servoNoLock | fault
  deriving DecidableEq, Repr

/-- The report cause (R1). -/
inductive ReportCause where
  | none | tapeEnd | tapeBegin | stall | idle | servoLost | noLock | fault | refused (r : Reason)
  deriving DecidableEq, Repr

/-- The record tab, as sensed (R1, R3). -/
inductive Tab where
  | present | absent | unknown
  deriving DecidableEq, Repr

/-- Where RECOVERY drives the mode motor (R24): nowhere, toward OUT, toward IN, or its switches are not read yet, as
in the state right after reset (log 11). -/
inductive RecoveryMove where
  | none | toOut | toIn | unread
  deriving DecidableEq, Repr

/-- The pending target (R1, R7). -/
structure PendingTarget where
  target : Target
  speed  : Speed
  grade  : Grade
  origin : Owner
  deriving DecidableEq, Repr

/-- The transport record (R1). `motionTimer` holds the limit of the motion in flight in ms; the other timers run or
are stopped. `drum` is whether the drum turns (R2), `spin` that the spin-up timer runs (R13, R14). -/
structure Mec where
  state       : TState
  owner       : Owner
  pending     : Option PendingTarget
  tab         : Tab
  grade       : Grade
  speed       : Speed
  endAction   : EndAction
  faultCause  : FaultCause
  reportCause : ReportCause
  motionTimer : Option Nat
  idle        : Bool
  spin        : Bool
  stall       : Bool
  drum        : Bool
  move        : RecoveryMove
  deriving DecidableEq, Repr

/-! ## SRV and CTU (02) -/

/-- Lock quality (R29). -/
inductive Quality where
  | locked | warn | unstable | lost
  deriving DecidableEq, Repr

/-- AUTO or FIXED (R29). -/
inductive TrackMode where
  | auto | fixed
  deriving DecidableEq, Repr

/-- The phases of the auto-tracking sweep (R29, R37). -/
inductive SweepPhase where
  | measure | tryUp | tryDown | climbUp | climbDown | hold
  deriving DecidableEq, Repr

/-- The servo record (R29). A lock field is true for IN. `detected` is none for BLANK. `base` and `best` are R37's
present offset p and best reading; `pulseSteps` is R38's count since the last pulse, none before the first; `pulsed` is
that a control pulse was read since the last frame (R30, R41: log 33). -/
structure Srv where
  drumLock   : Bool
  capLock    : Bool
  err        : Nat
  quality    : Quality
  run        : Nat
  mode       : TrackMode
  offset     : Int
  phase      : SweepPhase
  base       : Int
  best       : Nat
  detected   : Option Grade
  basis      : Grade
  candidate  : Option (Grade × Nat)
  noPulse    : Nat
  pulseSteps : Option Nat
  pulsed     : Bool
  deriving DecidableEq, Repr

/-- Duty classes (R40). -/
inductive PulseClass where
  | short | normal | long
  deriving DecidableEq, Repr

/-- The counter's source (R48). -/
inductive CounterSource where
  | pulse | step
  deriving DecidableEq, Repr

/-- Direction of travel, and of a seek (R48, R55). -/
inductive Dir where
  | fwd | rev
  deriving DecidableEq, Repr

/-- The match actions (R53). -/
inductive MatchAction where
  | notify | stop | stopThenPlay
  deriving DecidableEq, Repr

/-- Where the counter lies from the match value (R53). -/
inductive Side where
  | below | atValue | above
  deriving DecidableEq, Repr

/-- The mark in writing (R43): its code, its origin and its position, 1 to 24. -/
structure Mark where
  code   : Nat
  origin : Owner
  pos    : Nat
  deriving DecidableEq, Repr

/-- The kinds of cue event, NONE until the first (R47). -/
inductive CueKind where
  | written | aborted | passed | found | notFound | abandoned | none
  deriving DecidableEq, Repr

/-- The cue record (R47): the code is absent for the kinds that have none. -/
structure CueRecord where
  kind    : CueKind
  code    : Option Nat
  counter : Int
  deriving DecidableEq, Repr

/-- The state of the seek (R55). -/
inductive SeekState where
  | idle | waiting | running
  deriving DecidableEq, Repr

/-- The kind of mark a pattern asks for (R55). -/
inductive CueClass where
  | host | timed
  deriving DecidableEq, Repr

/-- The seek record (R55): the four pattern fields are each optional, a pass limit of 0 is none. -/
structure Seek where
  state   : SeekState
  kind    : Option CueClass
  slot    : Option Nat
  day     : Option Nat
  range   : Option (Nat × Nat)
  dir     : Dir
  limit   : Nat
  passed  : Nat
  endPlay : Bool
  deriving DecidableEq, Repr

/-- CTU's counter, match, cue writer, cue reader, cue record and seek record (R43, R45, R47, R48, R53, R55), the class of
the control pulse written last (R40: log 45), and the direction in which pulses were read until an event of this frame
ended the reading (R57: log 46). -/
structure Ctu where
  value     : Int
  source    : CounterSource
  acc       : Nat
  accDir    : Dir
  windRef   : Option Int
  begun     : Bool
  uncertain : Bool
  unread    : Nat
  mValue    : Int
  mAction   : MatchAction
  mArmed    : Bool
  mSide     : Side
  writing   : Option Mark
  waiting   : Option (Nat × Owner)
  written   : Option PulseClass
  window    : List PulseClass
  closing   : Option Dir
  cue       : CueRecord
  seek      : Seek
  deriving DecidableEq, Repr

/-! ## TPE (03) -/

/-- Status of a reel's C (R59). -/
inductive ReelStatus where
  | valid | rejected | invalid
  deriving DecidableEq, Repr

/-- An open revolution (R59): edges seen after the opening one, the steps (R60) or time units (R64) counted, and the
spoiled mark (R62). -/
structure OpenRev where
  edges   : Nat
  count   : Nat
  spoiled : Bool
  deriving DecidableEq, Repr

/-- What TPE holds for one reel (R59). `run` is the reject run; `t` is none while T is INVALID. -/
structure ReelRec where
  c      : Option Nat
  status : ReelStatus
  run    : Nat
  fresh  : Bool
  rev    : Option OpenRev
  t      : Option Nat
  deriving DecidableEq, Repr

/-- The state of the cassette profile (R59). -/
inductive Profile where
  | unknown | provisional | calibrated
  deriving DecidableEq, Repr

/-- How L_s was last computed (R59). -/
inductive Method where
  | direct | ratio
  deriving DecidableEq, Repr

/-- A threshold's side (R59, R74). -/
inductive TapeSide where
  | unknown | above | below
  deriving DecidableEq, Repr

/-- The position record (R59). -/
structure Tpe where
  supply   : ReelRec
  takeup   : ReelRec
  profile  : Profile
  k        : Nat
  lt       : Option Nat
  mismatch : Nat
  ls       : Option Nat
  method   : Method
  spacing  : Option Nat
  lowSide  : TapeSide
  critSide : TapeSide
  deriving DecidableEq, Repr

/-! ## TUN and TAR (04, 05) -/

/-- A preset entry (R79). `used` is the state. -/
structure Preset where
  used       : Bool
  freq       : Nat
  fine       : Int
  skip       : Bool
  timeSource : Bool
  name       : List Byte
  network    : Option (BitVec 12)
  deriving DecidableEq, Repr

/-- The source of the tuning (R85). -/
inductive Source where
  | none | preset | direct
  deriving DecidableEq, Repr

/-- The bands (R86). -/
inductive Band where
  | low | mid | high
  deriving DecidableEq, Repr

/-- The state of the tuned record (R85). -/
inductive TunedState where
  | none | settling | scanning | signal | noSignal
  deriving DecidableEq, Repr

/-- The tuned record (R85). `settle` holds the settle timer's limit in ms while it runs. -/
structure Tuned where
  source   : Source
  preset   : Nat
  freq     : Nat
  fine     : Int
  band     : Option Band
  divider  : Nat
  state    : TunedState
  disagree : Nat
  settle   : Option Nat
  deriving DecidableEq, Repr

/-- The AFC state (R91). -/
inductive Afc where
  | idle | tracking | centred | limit
  deriving DecidableEq, Repr

/-- The scan's state (R93). -/
inductive ScanState where
  | idle | running | paused
  deriving DecidableEq, Repr

/-- Why a scan ended (R93). -/
inductive EndCause where
  | none | done | stopped | preempted | tableFull
  deriving DecidableEq, Repr

/-- What a running scan is doing at its position (R94, R95). -/
inductive ScanPhase where
  | dwell | fine | hold
  deriving DecidableEq, Repr

/-- The scan record (R93), with the phase, the fine steps taken and their direction (R95). -/
structure Scan where
  state    : ScanState
  start    : Nat
  pos      : Nat
  finePos  : Nat
  wrapped  : Bool
  auto     : Bool
  found    : Nat
  stored   : Nat
  last     : Option Nat
  cause    : EndCause
  phase    : ScanPhase
  steps    : Nat
  stepUp   : Option Bool
  deriving DecidableEq, Repr

/-- What TUN holds (R79, R85, R90 to R93, R82). -/
structure Tun where
  presets     : Vector Preset 99
  tuned       : Tuned
  afc         : Afc
  reading     : Bool
  lastView    : Nat
  lastChanged : Nat
  scan        : Scan
  deriving DecidableEq, Repr

/-- The requesters of the tuner, and NONE (R99). -/
inductive Holder where
  | none | record | view | sync | scan
  deriving DecidableEq, Repr

/-- A view channel (R99): a preset, or a direct frequency with its fine offset. -/
inductive Channel where
  | preset (n : Nat)
  | direct (freq : Nat) (fine : Int)
  deriving DecidableEq, Repr

/-- The waiting host request (R99). -/
inductive HostWait where
  | view (c : Channel)
  | scan (freq : Nat) (auto : Bool)
  deriving DecidableEq, Repr

/-- Results of a SYNC request (R99), and CLK's DISAGREE (R126). -/
inductive SyncResult where
  | none | released | timeout | abandoned | noChannel | waitLimit | withdrawn | disagree
  deriving DecidableEq, Repr

/-- The grant record (R99), and the requester whose order the tuning is (R108). -/
structure Tar where
  holder     : Holder
  origin     : Owner
  view       : Option Channel
  remembered : Bool
  hostWait   : Option HostWait
  syncWait   : Bool
  waitTimer  : Bool
  minHold    : Bool
  holdLimit  : Bool
  lastSync   : SyncResult
  orderOf    : Holder
  deriving DecidableEq, Repr

/-! ## DLD (06) -/

/-- Packet types (R111). -/
inductive PacketType where
  | time | label | name
  deriving DecidableEq, Repr

/-- A capture record (R121): the contents are the bytes the PACKET notice carries after the receiving preset (R205). -/
structure Capture where
  type   : PacketType
  count  : Nat
  preset : Nat
  data   : List Byte
  deriving DecidableEq, Repr

/-- The state of the name assembly (R111). -/
inductive Assembly where
  | empty | assembling | complete
  deriving DecidableEq, Repr

/-- The decoder record (R111). `sel` has a bit for each of TIME, LABEL and NAME, `segs` one for each segment. -/
structure Dld where
  bad     : Nat
  sel     : BitVec 3
  front   : Option Capture
  back    : Option Capture
  count   : Nat
  asm     : Assembly
  asmCode : Option (BitVec 12)
  chars   : List Byte
  segs    : BitVec 4
  deriving DecidableEq, Repr

/-! ## CLK (07) -/

/-- The clock state (R126). -/
inductive ClockState where
  | unset | manual | broadcast
  deriving DecidableEq, Repr

/-- The offset source (R126). -/
inductive OffsetSource where
  | rule | broadcast
  deriving DecidableEq, Repr

/-- A summer rule (R126): week 5 is LAST. -/
structure SummerRule where
  startMonth : Nat
  startWeek  : Nat
  startHour  : Nat
  endMonth   : Nat
  endWeek    : Nat
  endHour    : Nat
  deriving DecidableEq, Repr

/-- The summer state (R126). -/
inductive Summer where
  | standard | summer | repeated
  deriving DecidableEq, Repr

/-- CLK's side of its SYNC request (R126). -/
inductive RequestState where
  | none | waiting | holding
  deriving DecidableEq, Repr

/-- The candidate (R126): a UTC instant in seconds from 2000-01-01, its local offset, summer indicator and age. -/
structure Candidate where
  utc    : Nat
  offset : Int
  summer : Bool
  age    : Nat
  deriving DecidableEq, Repr

/-- A date and time of day (R126), the year from 0 to 99 for 2000 to 2099. The part holds the fields as BCD digits and
messages carry them so (R205); the model holds the numbers. Log 23. -/
structure DateTime where
  year   : Nat
  month  : Nat
  day    : Nat
  hour   : Nat
  minute : Nat
  second : Nat
  deriving DecidableEq, Repr

/-- The clock record (R126), the ticks into the visit age's present minute (R136), the elapsed ticks of the retry timer
while it runs, the prescaler's load for the next tick (R128), and that a change occurred in BACKUP (R141: log 47). -/
structure Clk where
  state      : ClockState
  now        : DateTime
  sub        : Nat
  trim       : Int
  zone       : Int
  source     : OffsetSource
  rule       : Option SummerRule
  summer     : Summer
  offset     : Int
  syncOn     : Bool
  srcExists  : Bool
  request    : RequestState
  candidate  : Option Candidate
  visitAge   : Option Nat
  visitTicks : Nat
  retry      : Option Nat
  lastSync   : SyncResult
  prescaler  : Nat
  changed    : Bool
  deriving DecidableEq, Repr

/-! ## TSC (08, 09) -/

/-- Slot states (R142). -/
inductive SlotState where
  | empty | armed | held
  deriving DecidableEq, Repr

/-- Recurrences (R142). -/
inductive Recurrence where
  | once | daily | weekly | days
  deriving DecidableEq, Repr

/-- Label control (R144): the allowance is in minutes. -/
structure LabelControl where
  key     : BitVec 20
  mask    : BitVec 20
  overrun : Nat
  deriving DecidableEq, Repr

/-- Outcomes of an occurrence (R151). -/
inductive OccOutcome where
  | complete | truncated | tapeEnd | tapeStall | servo | signal | missed | missedLabel | noCassette | tabProtected
  | noChannel | deckInUse | deckFault | stopped | cancelled | powerLoss | restarted
  deriving DecidableEq, Repr

/-- The fields of a result that are present together (R151). Instants are in seconds from 2000-01-01 00:00:00; the
actual stop is none until RECORD is first left. -/
structure RunInfo where
  start   : Nat
  stop    : Option Nat
  counter : Int
  grade   : Grade
  deriving DecidableEq, Repr

/-- A result record (R151). Dates are days from 2000-01-01. -/
structure Result where
  date     : Nat
  outcome  : OccOutcome
  run      : Option RunInfo
  doubtful : Bool
  noSignal : Bool
  deriving DecidableEq, Repr

/-- An event slot and its side records (R142). Times of day are in minutes, `grade` is none for AUTO, bit n of `days`
is day of week n. -/
structure Slot where
  state      : SlotState
  recurrence : Recurrence
  once       : Nat
  days       : BitVec 7
  start      : Nat
  stop       : Nat
  preset     : Nat
  grade      : Option Grade
  priority   : Nat
  preempt    : Bool
  cue        : Bool
  label      : Option LabelControl
  count      : Nat
  lastRun    : Option Nat
  guard      : Option Nat
  result     : Option Result
  deriving DecidableEq, Repr

/-- Control of an occurrence (R157). -/
inductive Control where
  | time | label
  deriving DecidableEq, Repr

/-- Conflict verdicts (R157). -/
inductive Conflict where
  | clear | lateStart | trimmedEnd | dropped
  deriving DecidableEq, Repr

/-- Fit verdicts (R157). -/
inductive Fit where
  | fits | short | noTape | unknown
  deriving DecidableEq, Repr

/-- Occurrence states (R157). -/
inductive OccState where
  | planned | next | arming | labelWait | recording | labelBreak
  deriving DecidableEq, Repr

/-- A plan entry (R157), with the window end of R160. Instants are in seconds from 2000-01-01 00:00:00. -/
structure PlanEntry where
  slot      : Nat
  date      : Nat
  control   : Control
  priority  : Nat
  pStart    : Nat
  pStop     : Nat
  windowEnd : Nat
  eStart    : Nat
  eStop     : Nat
  grade     : Grade
  chained   : Bool
  conflict  : Conflict
  fit       : Fit
  state     : OccState
  deriving DecidableEq, Repr

/-- The active occurrence record (R158), and whether its fallback test was made (R172). -/
structure Active where
  slot           : Nat
  date           : Nat
  control        : Control
  state          : OccState
  grade          : Grade
  transportReady : Bool
  tuned          : Bool
  signalSeen     : Bool
  labelsSeen     : Bool
  recorded       : Bool
  remaining      : Nat
  run            : Option RunInfo
  doubtful       : Bool
  noSignal       : Bool
  tested         : Bool
  deriving DecidableEq, Repr

/-- The shadow context (R167). -/
structure Shadow where
  state   : TState
  counter : Int
  view    : Option Channel
  viewing : Bool
  deriving DecidableEq, Repr

/-- What TSC holds (R142, R154, R157, R158, R167), and the slot of the ending its notice shows (R152). -/
structure Tsc where
  slots     : Vector Slot 16
  skip      : List (Nat × Nat)
  plan      : List PlanEntry
  active    : Option Active
  shadow    : Option Shadow
  restored  : Option Shadow
  lastEnded : Nat
  deriving DecidableEq, Repr

/-! ## PWR (10) -/

/-- Power modes (R183). -/
inductive PowerMode where
  | on | standby | backup
  deriving DecidableEq, Repr

/-- The standby entry (R183). -/
inductive EntryState where
  | none | waitOccurrence | waitRest
  deriving DecidableEq, Repr

/-- The link state (R183). -/
inductive LinkState where
  | awake | asleep | waking
  deriving DecidableEq, Repr

/-- The primary supply (R183). -/
inductive Supply where
  | present | returning | lost
  deriving DecidableEq, Repr

/-- The last cause (R183). -/
inductive PowerCause where
  | powerOn | standbyEntered | awake | cassette | restart | supplyLost | supplyReturn
  deriving DecidableEq, Repr

/-- The power record (R183). `filter` is true for ON. `detector` is the filter the wake detector uses, none while it does
not watch the line (R188: log 28). -/
structure Pwr where
  mode        : PowerMode
  entry       : EntryState
  link        : LinkState
  deckUp      : Bool
  returnTimer : Bool
  filter      : Bool
  detector    : Option Bool
  supply      : Supply
  supplyTimer : Bool
  lastCause   : PowerCause
  deriving DecidableEq, Repr

/-! ## LNK (11) -/

/-- The receiver (R193). -/
inductive RxState where
  | hunt | length | body | check
  deriving DecidableEq, Repr

/-- The receiver with its LEN and the KIND and BODY bytes held, oldest first. Its inter-byte timer runs exactly outside
HUNT. -/
structure Rx where
  state : RxState
  len   : Nat
  held  : List Byte
  deriving DecidableEq, Repr

/-- Results of CANCEL (R205). -/
inductive CancelResult where
  | cancelled | tooLate | notFound
  deriving DecidableEq, Repr

/-- What an OK or ACCEPTED reply carries after its result (R195, R205). The body is formed when the reply begins. -/
inductive ReplyBody where
  | empty
  | status
  | mask
  | power
  | deckGet
  | counter
  | matchRec
  | cueWrite
  | tape
  | preset (n : Nat)
  | tuner
  | tuned
  | scan
  | decoder
  | clock
  | slot (n : Nat)
  | plan
  | result (n : Nat)
  | cancel (r : CancelResult) (slot date : Nat)
  deriving DecidableEq, Repr

/-- A reply (R195). DECK_GO's result is decided when its reply is formed (R8), from the target it asked for and the
transport state it was taken in. -/
inductive Reply where
  | ok (b : ReplyBody)
  | accepted (b : ReplyBody)
  | deckGo (t : Target) (takenIn : TState)
  | refused (r : Reason) (field : Nat)
  | malformed
  | unknownKind
  deriving DecidableEq, Repr

/-- What LNK holds (R193 to R204). `buffer` is the kind of the request held; `reply` is ready; `parts` are the bodies
still to send of a PLAN_GET run; `line` is the frame being sent. -/
structure Lnk where
  rx       : Rx
  buffer   : Option Byte
  reply    : Option Reply
  parts    : List (List Byte)
  line     : Option (List Byte)
  notices  : BitVec 12
  mask     : BitVec 12
  sticky   : BitVec 8
  reported : BitVec 4
  errors   : Nat
  deriving DecidableEq, Repr

/-! ## Pins and reports -/

/-- The inputs as the deck last drove them. Log 10. -/
structure Pins where
  cassette : Bool
  tab      : Bool
  mode     : ModePos
  endLit   : Bool
  beginLit : Bool
  carrier  : Bool
  sync     : Bool
  deriving DecidableEq, Repr

/-- A clock report's kind (R129). -/
inductive ClockKind where
  | midnight | jump | set | resume
  deriving DecidableEq, Repr

/-- A clock report (R129): TSC reads the clock itself for the reading after the event. -/
structure ClockReport where
  kind : ClockKind
  old  : ClockState
  new  : ClockState
  size : Option Int
  deriving DecidableEq, Repr

/-- Statuses of a LABEL packet, in R111's order. -/
inductive LabelStatus where
  | prepare | running | brk | ended
  deriving DecidableEq, Repr

/-- A report one block makes to another inside a command. Its taker and rule stand in Machine/Link.lean. -/
inductive Report where
  -- taken by MEC
  | endStop | beginStop | endAction | servoLost | recover
  -- taken by TSC
  | targetDropped (r : Reason) | noLock | unstable | lostInRecord | tapeEndInRecord | stallInRecord | deckFault
  | hostStop | enteredRecord | leftRecord | paused | noChannel
  | tuningPassed (signal : Bool) | signalChange (signal : Bool)
  | label (preset : Nat) (key : BitVec 20) (status : LabelStatus)
  | clock (r : ClockReport)
  | rebuild
  | occEnd (slot date : Nat) (o : OccOutcome)
  -- taken by TAR
  | hostRecStart | hostRecEnd | tuningDone (signal : Bool) | scanEnded
  -- taken by CLK
  | syncGranted | syncResult (r : SyncResult) | sourceExists (b : Bool) | visitTest
  | timePacket (utc : Nat) (offset : Int) (summer fromSource : Bool)
  -- taken by PWR
  | rest | downTest | released
  -- taken by LNK: a complete frame
  | frame (len : Nat) (payload : List Byte) (check : Byte)
  deriving DecidableEq, Repr

/-- The state of the block. `reports` are the reports not yet taken inside a command (log 4);
`fresh` is the counter the free values are applied to (log 8); `pending` is the queue of commands, first in first out. -/
structure State where
  mec     : Mec
  srv     : Srv
  ctu     : Ctu
  tpe     : Tpe
  tun     : Tun
  tar     : Tar
  dld     : Dld
  clk     : Clk
  tsc     : Tsc
  pwr     : Pwr
  lnk     : Lnk
  pins    : Pins
  reports : List Report
  fresh   : Nat
  pending : List Instr
  deriving DecidableEq, Repr

/-! ## Updates of one block -/

/-- Change MEC's record. -/
def State.mapMec (f : Mec → Mec) (s : State) : State := { s with mec := f s.mec }
/-- Change SRV's record. -/
def State.mapSrv (f : Srv → Srv) (s : State) : State := { s with srv := f s.srv }
/-- Change CTU's records. -/
def State.mapCtu (f : Ctu → Ctu) (s : State) : State := { s with ctu := f s.ctu }
/-- Change TPE's record. -/
def State.mapTpe (f : Tpe → Tpe) (s : State) : State := { s with tpe := f s.tpe }
/-- Change TUN's records. -/
def State.mapTun (f : Tun → Tun) (s : State) : State := { s with tun := f s.tun }
/-- Change TAR's record. -/
def State.mapTar (f : Tar → Tar) (s : State) : State := { s with tar := f s.tar }
/-- Change DLD's record. -/
def State.mapDld (f : Dld → Dld) (s : State) : State := { s with dld := f s.dld }
/-- Change CLK's record. -/
def State.mapClk (f : Clk → Clk) (s : State) : State := { s with clk := f s.clk }
/-- Change TSC's records. -/
def State.mapTsc (f : Tsc → Tsc) (s : State) : State := { s with tsc := f s.tsc }
/-- Change PWR's record. -/
def State.mapPwr (f : Pwr → Pwr) (s : State) : State := { s with pwr := f s.pwr }
/-- Change LNK's records. -/
def State.mapLnk (f : Lnk → Lnk) (s : State) : State := { s with lnk := f s.lnk }
/-- Change the pins. -/
def State.mapPins (f : Pins → Pins) (s : State) : State := { s with pins := f s.pins }

/-! ## Reset values -/

/-- R1 after power-on reset. -/
def Mec.reset : Mec :=
  { state := .recovery, owner := .host, pending := none, tab := .unknown, grade := .full, speed := .x3, endAction := .stop,
    faultCause := .none, reportCause := .none, motionTimer := none, idle := false, spin := false, stall := false,
    drum := false, move := .unread }

/-- R29 after power-on reset. -/
def Srv.reset : Srv :=
  { drumLock := false, capLock := false, err := 0, quality := .locked, run := 0, mode := .auto, offset := 0, phase := .hold,
    base := 0, best := 0, detected := some .full, basis := .full, candidate := none, noPulse := 0, pulseSteps := none,
    pulsed := false }

/-- The seek record after power-on reset (R58): IDLE, the rest log 12. -/
def Seek.reset : Seek :=
  { state := .idle, kind := none, slot := none, day := none, range := none, dir := .fwd, limit := 0, passed := 0,
    endPlay := false }

/-- R58 after power-on reset. -/
def Ctu.reset : Ctu :=
  { value := 0, source := .pulse, acc := 0, accDir := .fwd, windRef := none, begun := false, uncertain := false, unread := 0,
    mValue := 0, mAction := .notify, mArmed := false, mSide := .atValue, writing := none, waiting := none, written := none,
    window := [], closing := none, cue := { kind := .none, code := none, counter := 0 }, seek := Seek.reset }

/-- R59 after power-on reset, one reel. -/
def ReelRec.reset : ReelRec := { c := none, status := .invalid, run := 0, fresh := false, rev := none, t := none }

/-- R59 after power-on reset. -/
def Tpe.reset : Tpe :=
  { supply := ReelRec.reset, takeup := ReelRec.reset, profile := .unknown, k := 0, lt := none, mismatch := 0, ls := none,
    method := .direct, spacing := none, lowSide := .unknown, critSide := .unknown }

/-- An EMPTY preset (R79). -/
def Preset.empty : Preset :=
  { used := false, freq := 0, fine := 0, skip := false, timeSource := false, name := [], network := none }

/-- R85 after power-on reset. -/
def Tuned.reset : Tuned :=
  { source := .none, preset := 0, freq := 0, fine := 0, band := none, divider := 0, state := .none, disagree := 0,
    settle := none }

/-- R93 after power-on reset. -/
def Scan.reset : Scan :=
  { state := .idle, start := 900, pos := 900, finePos := 900, wrapped := false, auto := false, found := 0, stored := 0,
    last := none, cause := .none, phase := .dwell, steps := 0, stepUp := none }

/-- R98 at power-on reset. -/
def Tun.reset : Tun :=
  { presets := Vector.replicate 99 Preset.empty, tuned := Tuned.reset, afc := .idle, reading := false, lastView := 0,
    lastChanged := 0, scan := Scan.reset }

/-- R99 after power-on reset. -/
def Tar.reset : Tar :=
  { holder := .none, origin := .host, view := none, remembered := false, hostWait := none, syncWait := false,
    waitTimer := false, minHold := false, holdLimit := false, lastSync := .none, orderOf := .none }

/-- 32 spaces (R111). -/
def blankName : List Byte := List.replicate 32 0x20

/-- R111 after power-on reset. -/
def Dld.reset : Dld :=
  { bad := 0, sel := 0, front := none, back := none, count := 0, asm := .empty, asmCode := none, chars := blankName,
    segs := 0 }

/-- R126 after power-on reset. -/
def Clk.reset : Clk :=
  { state := .unset, now := { year := 0, month := 1, day := 1, hour := 0, minute := 0, second := 0 }, sub := 0, trim := 0,
    zone := 0, source := .rule, rule := none, summer := .standard, offset := 0, syncOn := false, srcExists := false,
    request := .none, candidate := none, visitAge := none, visitTicks := 0, retry := none, lastSync := .none,
    prescaler := 512, changed := false }

/-- An EMPTY slot with nothing in its side records (R142). -/
def Slot.reset : Slot :=
  { state := .empty, recurrence := .once, once := 0, days := 0, start := 0, stop := 0, preset := 1, grade := none,
    priority := 0, preempt := false, cue := false, label := none, count := 0, lastRun := none, guard := none, result := none }

/-- R142, R154, R157, R158 after power-on reset. -/
def Tsc.reset : Tsc :=
  { slots := Vector.replicate 16 Slot.reset, skip := [], plan := [], active := none, shadow := none, restored := none,
    lastEnded := 0 }

/-- R183 after power-on reset. -/
def Pwr.reset : Pwr :=
  { mode := .standby, entry := .none, link := .asleep, deckUp := true, returnTimer := false, filter := true,
    detector := some true, supply := .present, supplyTimer := false, lastCause := .powerOn }

/-- The receiver in HUNT. -/
def Rx.reset : Rx := { state := .hunt, len := 0, held := [] }

/-- R204. -/
def Lnk.reset : Lnk :=
  { rx := Rx.reset, buffer := none, reply := none, parts := [], line := none, notices := 0, mask := 0xFFF, sticky := 0,
    reported := 0, errors := 0 }

/-- The pins at reset. Log 10. -/
def Pins.reset : Pins :=
  { cassette := false, tab := false, mode := .out, endLit := false, beginLit := false, carrier := false, sync := false }

/-- The machine right after power-on reset (R1, R29, R58, R59, R79, R85, R93, R98, R99, R111, R126, R142, R154, R157,
R158, R183, R204). -/
def State.reset : State :=
  { mec := Mec.reset, srv := Srv.reset, ctu := Ctu.reset, tpe := Tpe.reset, tun := Tun.reset, tar := Tar.reset,
    dld := Dld.reset, clk := Clk.reset, tsc := Tsc.reset, pwr := Pwr.reset, lnk := Lnk.reset, pins := Pins.reset,
    reports := [], fresh := 0, pending := [] }

end Sys2Proof.Machine
end

