-- ==== Sys2Proof/Machine/Calendar.lean ====
section
/-! DEFINITION. Dates and instants (R127, R130, R131, R143). A date is a count of days from 2000-01-01, an instant a count
of seconds from 2000-01-01 00:00:00. -/

namespace Sys2Proof.Machine

/-- February has 29 days in every year divisible by 4 (R127). -/
def isLeap (year : Nat) : Bool := year % 4 == 0

/-- The length of a month (R127), 0 for a number that is no month. -/
def monthLength (year month : Nat) : Nat :=
  match month with
  | 1 => 31 | 2 => if isLeap year then 29 else 28 | 3 => 31 | 4 => 30 | 5 => 31 | 6 => 30
  | 7 => 31 | 8 => 31 | 9 => 30 | 10 => 31 | 11 => 30 | 12 => 31
  | _ => 0

/-- Days in the months of the year before the given one. -/
def daysBefore (year : Nat) : Nat → Nat
  | 0 => 0
  | m + 1 => if m = 0 then 0 else daysBefore year m + monthLength year m

/-- Days from 2000-01-01 to January 1 of the year. -/
def yearDays (year : Nat) : Nat := 365 * year + (year + 3) / 4

/-- The date of a year, month and day. -/
def dateOf (year month day : Nat) : Nat := yearDays year + daysBefore year month + (day - 1)

/-- The year a date lies in, counted from 2000 (cycles of four years from a leap year). -/
def yearOf (date : Nat) : Nat :=
  4 * (date / 1461) + (if date % 1461 < 366 then 0 else 1 + (date % 1461 - 366) / 365)

/-- The month of a date, by walking the months of its year: `left` months are left to walk, `doy` days into `month`. -/
def monthWalk (year : Nat) : Nat → Nat → Nat → Nat × Nat
  | 0, month, doy => (month, doy + 1)
  | left + 1, month, doy =>
    if doy < monthLength year month then (month, doy + 1)
    else monthWalk year left (month + 1) (doy - monthLength year month)

/-- Month and day of a date. -/
def monthDayOf (date : Nat) : Nat × Nat := monthWalk (yearOf date) 11 1 (date - yearDays (yearOf date))

/-- The first date after 2099. -/
def rangeDays : Nat := 36525

/-- The first instant after 2099. -/
def rangeSeconds : Nat := rangeDays * 86400

/-- The day of week, SUNDAY 0 to SATURDAY 6: 2000-01-01 was a SATURDAY (R127). -/
def dayOfWeek (date : Nat) : Nat := (date + 6) % 7

/-- The instant of a date and a time of day in seconds. -/
def instantOf (date seconds : Nat) : Nat := date * 86400 + seconds

/-- A date and time as an instant. -/
def DateTime.instant (d : DateTime) : Nat :=
  instantOf (dateOf d.year d.month d.day) (d.hour * 3600 + d.minute * 60 + d.second)

/-- An instant as a date and time. -/
def DateTime.ofInstant (i : Nat) : DateTime :=
  let date := i / 86400
  let sec := i % 86400
  let md := monthDayOf date
  { year := yearOf date, month := md.1, day := md.2, hour := sec / 3600, minute := sec / 60 % 60, second := sec % 60 }

/-- The date of a date and time. -/
def DateTime.date (d : DateTime) : Nat := dateOf d.year d.month d.day

/-- A valid date and time within 2000 to 2099 (R126). -/
def DateTime.valid (d : DateTime) : Bool :=
  d.year ≤ 99 && 1 ≤ d.month && d.month ≤ 12 && 1 ≤ d.day && d.day ≤ monthLength d.year d.month
    && d.hour ≤ 23 && d.minute ≤ 59 && d.second ≤ 59

/-- The next second by R127's carries, the year's carry left to the caller's wrap test. -/
def DateTime.next (d : DateTime) : DateTime :=
  if d.second + 1 < 60 then { d with second := d.second + 1 }
  else if d.minute + 1 < 60 then { d with second := 0, minute := d.minute + 1 }
  else if d.hour + 1 < 24 then { d with second := 0, minute := 0, hour := d.hour + 1 }
  else if d.day + 1 ≤ monthLength d.year d.month then { d with second := 0, minute := 0, hour := 0, day := d.day + 1 }
  else if d.month + 1 ≤ 12 then { d with second := 0, minute := 0, hour := 0, day := 1, month := d.month + 1 }
  else { d with second := 0, minute := 0, hour := 0, day := 1, month := 1, year := d.year + 1 }

/-- The date of the named Sunday of a month: week 1 to 4 the first to fourth, 5 the last (R130). -/
def sundayOf (year month week : Nat) : Nat :=
  let first := 1 + (7 - dayOfWeek (dateOf year month 1)) % 7
  let day :=
    if week = 5 then first + 7 * ((monthLength year month - first) / 7) else first + 7 * (week - 1)
  dateOf year month day

/-- The start instant of a year's summer stretch, written in standard time (R130). -/
def SummerRule.startAt (r : SummerRule) (year : Nat) : Nat :=
  instantOf (sundayOf year r.startMonth r.startWeek) (r.startHour * 3600)

/-- The end instant of a year's summer stretch, written in summer time (R130). -/
def SummerRule.endAt (r : SummerRule) (year : Nat) : Nat :=
  instantOf (sundayOf year r.endMonth r.endWeek) (r.endHour * 3600)

/-- The year of an instant, counted from 2000. -/
def instantYear (i : Nat) : Nat := yearOf (i / 86400)

/-- Whether an instant lies in the summer stretch that ends at `stop` of its year, over the new year when the start
month is later than the end month (R131). -/
def SummerRule.within (r : SummerRule) (i stop : Nat) : Bool :=
  let start := r.startAt (instantYear i)
  if r.startMonth > r.endMonth then decide (start ≤ i) || decide (i < stop) else decide (start ≤ i) && decide (i < stop)

/-- R131, evaluation of a clock reading with a rule. -/
def SummerRule.evalReading (r : SummerRule) (i : Nat) : Summer :=
  if r.within i (r.endAt (instantYear i)) then .summer else .standard

/-- R131, evaluation of a standard time: the summer state, and the reading it gives. A standard time before 2000 is in
summer exactly when the stretch runs over the new year (log 37). -/
def SummerRule.evalStandard (r : SummerRule) (t : Int) : Summer × Int :=
  if t < 0 then (if r.startMonth > r.endMonth then (.summer, t + 3600) else (.standard, t))
  else
    let i := t.toNat
    let stop := r.endAt (instantYear i)
    if r.within i (stop - 3600) then (.summer, t + 3600)
    else if stop - 3600 ≤ i ∧ i < stop then (.repeated, t)
    else (.standard, t)

/-- The hour that the forward transition skips on the start date (R131, R134, R160). -/
def SummerRule.skipped (r : SummerRule) (i : Nat) : Bool :=
  let start := r.startAt (instantYear i)
  decide (start ≤ i) && decide (i < start + 3600)

/-- The hour that the backward transition repeats on the end date (R160). -/
def SummerRule.repeats (r : SummerRule) (i : Nat) : Bool :=
  let stop := r.endAt (instantYear i)
  decide (stop - 3600 ≤ i) && decide (i < stop)

/-- The rule in force: none while the offset source is BROADCAST (R130). -/
def Clk.ruleInForce (c : Clk) : Option SummerRule :=
  match c.source with
  | .rule => c.rule
  | .broadcast => none

/-- The clock reading as an instant. -/
def Clk.reading (c : Clk) : Nat := c.now.instant

/-- The clock's present date. -/
def Clk.today (c : Clk) : Nat := c.now.date

end Sys2Proof.Machine
end

