-- ==== Sys2Proof/Machine/Operands.lean ====
section
/-! DEFINITION. How request fields and message fields are read and written (00 section 2.4, R205): signed bytes, flags,
BCD, enumerated fields, packets' data bits, and the places of values in their lists. -/

namespace Sys2Proof.Machine

/-- A Nat as a byte. -/
def byteOf (n : Nat) : Byte := BitVec.ofNat 8 n

/-- An Int as a two's complement byte. -/
def signedByte (i : Int) : Byte := BitVec.ofInt 8 i

/-- A flag as a byte: 1 when set. -/
def flagByte (b : Bool) : Byte := if b then 1 else 0

/-- The flag of a field read from a byte: 1 is set and 0 clear, any other byte a free value (log 7). -/
def flagOf (fresh fieldNumber : Nat) (b : Byte) : Bool :=
  if b = 1 then true else if b = 0 then false else Config.strayFlag fresh (fieldNumber * 256 + b.toNat)

/-- A BCD byte: none when a digit is above 9. -/
def bcd (b : Byte) : Option Nat :=
  let tens := b.toNat / 16
  let units := b.toNat % 16
  if tens ≤ 9 ∧ units ≤ 9 then some (tens * 10 + units) else none

/-- A number below 100 as a BCD byte. -/
def toBcd (n : Nat) : Byte := byteOf (n / 10 % 10 * 16 + n % 10)

/-- A value clamped to a range (00, section 2.3). -/
def clampInt (low high x : Int) : Int := if x < low then low else if high < x then high else x

/-- The value at a place of a list, by a request byte. -/
def pick {α : Type} (values : List α) (b : Byte) : Option α := values[b.toNat]?

/-- DECK_GO's targets in R8's order. -/
def targets : List Target :=
  [.stop, .play, .still, .searchFwd, .searchRev, .record, .recordPause, .windFwd, .windRev, .unthread, .eject]

/-- The grades. -/
def grades : List Grade := [.full, .half, .third]

/-- The grade of a slot: AUTO is none (R142). -/
def slotGrades : List (Option Grade) := [some .full, some .half, some .third, none]

/-- R12: the highest of the three speeds not above the multiplier, and x3 below 3. -/
def speedOf (multiplier : Nat) : Speed := if multiplier < 7 then .x3 else if multiplier < 15 then .x7 else .x15

/-- Steps per second of a grade, v_g (00, section 2.2). -/
def stepsPerSecond : Grade → Nat
  | .full => 720 | .half => 360 | .third => 240

/-- Steps per frame of a grade (00, section 2.2). -/
def stepsPerFrame : Grade → Nat
  | .full => 24 | .half => 12 | .third => 8

/-! ## Places in their lists -/

/-- R2's order. -/
def TState.code : TState → Nat
  | .empty => 0 | .loading => 1 | .unthreaded => 2 | .threading => 3 | .threaded => 4 | .play => 5 | .still => 6
  | .searchFwd => 7 | .searchRev => 8 | .record => 9 | .recordPause => 10 | .unthreading => 11 | .windFwd => 12
  | .windRev => 13 | .ejecting => 14 | .recovery => 15 | .fault => 16

def Owner.code : Owner → Nat
  | .host => 0 | .timer => 1

def Target.code : Target → Nat
  | .stop => 0 | .play => 1 | .still => 2 | .searchFwd => 3 | .searchRev => 4 | .record => 5 | .recordPause => 6
  | .windFwd => 7 | .windRev => 8 | .unthread => 9 | .eject => 10

def Speed.code : Speed → Nat
  | .x3 => 0 | .x7 => 1 | .x15 => 2

def gradeCode : Grade → Nat
  | .full => 0 | .half => 1 | .third => 2

def EndAction.code : EndAction → Nat
  | .stop => 0 | .rewind => 1

def Tab.code : Tab → Nat
  | .present => 0 | .absent => 1 | .unknown => 2

def FaultCause.code : FaultCause → Nat
  | .none => 0 | .motionTimeout => 1 | .reelStall => 2

/-- The report cause (R1): REFUSED is the last of its list. -/
def ReportCause.code : ReportCause → Nat
  | .none => 0 | .tapeEnd => 1 | .tapeBegin => 2 | .stall => 3 | .idle => 4 | .servoLost => 5 | .noLock => 6 | .fault => 7
  | .refused _ => 8

/-- The refusal reasons are numbered 0x01 to 0x0C (R205). -/
def Reason.code : Reason → Nat
  | .noCassette => 1 | .tabProtected => 2 | .busyRecording => 3 | .busyTimer => 4 | .tunerHeld => 5 | .slotBusy => 6
  | .fieldRange => 7 | .clockUnset => 8 | .cueBusy => 9 | .notThreaded => 10 | .servoNoLock => 11 | .fault => 12

def ReportCause.reasonCode : ReportCause → Nat
  | .refused r => r.code
  | _ => 0

def Quality.code : Quality → Nat
  | .locked => 0 | .warn => 1 | .unstable => 2 | .lost => 3

def TrackMode.code : TrackMode → Nat
  | .auto => 0 | .fixed => 1

/-- The detected grade: BLANK is the fourth of its list (R29). -/
def detectedCode : Option Grade → Nat
  | some g => gradeCode g
  | none => 3

def CounterSource.code : CounterSource → Nat
  | .pulse => 0 | .step => 1

def MatchAction.code : MatchAction → Nat
  | .notify => 0 | .stop => 1 | .stopThenPlay => 2

def Side.code : Side → Nat
  | .below => 0 | .atValue => 1 | .above => 2

def CueKind.code : CueKind → Nat
  | .written => 0 | .aborted => 1 | .passed => 2 | .found => 3 | .notFound => 4 | .abandoned => 5 | .none => 6

def SeekState.code : SeekState → Nat
  | .idle => 0 | .waiting => 1 | .running => 2

def Profile.code : Profile → Nat
  | .unknown => 0 | .provisional => 1 | .calibrated => 2

def ReelStatus.code : ReelStatus → Nat
  | .valid => 0 | .rejected => 1 | .invalid => 2

def Method.code : Method → Nat
  | .direct => 0 | .ratio => 1

def Source.code : Source → Nat
  | .none => 0 | .preset => 1 | .direct => 2

/-- The band, with unset as 3 (R205). -/
def bandCode : Option Band → Nat
  | some .low => 0 | some .mid => 1 | some .high => 2 | none => 3

def TunedState.code : TunedState → Nat
  | .none => 0 | .settling => 1 | .scanning => 2 | .signal => 3 | .noSignal => 4

def Afc.code : Afc → Nat
  | .idle => 0 | .tracking => 1 | .centred => 2 | .limit => 3

def ScanState.code : ScanState → Nat
  | .idle => 0 | .running => 1 | .paused => 2

def EndCause.code : EndCause → Nat
  | .none => 0 | .done => 1 | .stopped => 2 | .preempted => 3 | .tableFull => 4

def Holder.code : Holder → Nat
  | .none => 0 | .record => 1 | .view => 2 | .sync => 3 | .scan => 4

def SyncResult.code : SyncResult → Nat
  | .none => 0 | .released => 1 | .timeout => 2 | .abandoned => 3 | .noChannel => 4 | .waitLimit => 5 | .withdrawn => 6
  | .disagree => 7

/-- absent 0, VIEW 1, SCAN 2 (R205). -/
def hostWaitCode : Option HostWait → Nat
  | none => 0 | some (.view _) => 1 | some (.scan _ _) => 2

def Assembly.code : Assembly → Nat
  | .empty => 0 | .assembling => 1 | .complete => 2

def ClockState.code : ClockState → Nat
  | .unset => 0 | .manual => 1 | .broadcast => 2

def OffsetSource.code : OffsetSource → Nat
  | .rule => 0 | .broadcast => 1

def Summer.code : Summer → Nat
  | .standard => 0 | .summer => 1 | .repeated => 2

def RequestState.code : RequestState → Nat
  | .none => 0 | .waiting => 1 | .holding => 2

def SlotState.code : SlotState → Nat
  | .empty => 0 | .armed => 1 | .held => 2

def Recurrence.code : Recurrence → Nat
  | .once => 0 | .daily => 1 | .weekly => 2 | .days => 3

/-- A slot's grade: AUTO is the fourth of its list (R142). -/
def slotGradeCode : Option Grade → Nat
  | some g => gradeCode g
  | none => 3

def OccOutcome.code : OccOutcome → Nat
  | .complete => 0 | .truncated => 1 | .tapeEnd => 2 | .tapeStall => 3 | .servo => 4 | .signal => 5 | .missed => 6
  | .missedLabel => 7 | .noCassette => 8 | .tabProtected => 9 | .noChannel => 10 | .deckInUse => 11 | .deckFault => 12
  | .stopped => 13 | .cancelled => 14 | .powerLoss => 15 | .restarted => 16

def Control.code : Control → Nat
  | .time => 0 | .label => 1

def Conflict.code : Conflict → Nat
  | .clear => 0 | .lateStart => 1 | .trimmedEnd => 2 | .dropped => 3

def Fit.code : Fit → Nat
  | .fits => 0 | .short => 1 | .noTape => 2 | .unknown => 3

def OccState.code : OccState → Nat
  | .planned => 0 | .next => 1 | .arming => 2 | .labelWait => 3 | .recording => 4 | .labelBreak => 5

def PowerMode.code : PowerMode → Nat
  | .on => 0 | .standby => 1 | .backup => 2

def EntryState.code : EntryState → Nat
  | .none => 0 | .waitOccurrence => 1 | .waitRest => 2

def LinkState.code : LinkState → Nat
  | .awake => 0 | .asleep => 1 | .waking => 2

def Supply.code : Supply → Nat
  | .present => 0 | .returning => 1 | .lost => 2

def PowerCause.code : PowerCause → Nat
  | .powerOn => 0 | .standbyEntered => 1 | .awake => 2 | .cassette => 3 | .restart => 4 | .supplyLost => 5
  | .supplyReturn => 6

def CancelResult.code : CancelResult → Nat
  | .cancelled => 0 | .tooLate => 1 | .notFound => 2

/-! ## Packets (R112, R113, R205) -/

/-- The seven data bits of a packet byte. -/
def dataBits (b : Byte) : Nat := b.toNat % 128

/-- A count of the ones of a byte. -/
def onesOf (b : Byte) : Nat := (List.range 8).foldl (fun n i => if b.getLsbD i then n + 1 else n) 0

/-- Odd parity over the whole byte (06, section 6.2). -/
def oddParity (b : Byte) : Bool := onesOf b % 2 == 1

/-- A seven bit two's complement field. -/
def signed7 (n : Nat) : Int := if n < 64 then (n : Int) else (n : Int) - 128

/-- Two decimal digits of one packet byte: tens from bit 4 up, within the field's bits, units in bits 0 to 3. -/
def packetDigits (n tensBits : Nat) : Option Nat :=
  let tens := n / 16 % 2 ^ tensBits
  let units := n % 16
  if tens ≤ 9 ∧ units ≤ 9 then some (tens * 10 + units) else none

end Sys2Proof.Machine
end

