-- ==== Sys2Proof/Machine/Flags.lean ====
section
/-! DEFINITION. The status record's flags (R200): sticky and reported flags at their bit positions, and the condition flags
computed from their owners. -/

namespace Sys2Proof.Machine

/-- Sticky flags, by their bit in the status record (R205). -/
inductive Sticky where
  | linkCheck | linkOverrun | linkFraming | mechFault | servoLost | syncDisagree | packetOverrun | occurrenceFailed
  deriving DecidableEq, Repr

/-- The bit of a sticky flag. -/
def Sticky.bit : Sticky → Nat
  | .linkCheck => 0 | .linkOverrun => 1 | .linkFraming => 2 | .mechFault => 3 | .servoLost => 4 | .syncDisagree => 5
  | .packetOverrun => 6 | .occurrenceFailed => 7

/-- Reported flags, by their bit in the status record (R205). -/
inductive Reported where
  | tapeLow | tapeCritical | counterMatched | cueFound
  deriving DecidableEq, Repr

/-- The bit of a reported flag. -/
def Reported.bit : Reported → Nat
  | .tapeLow => 0 | .tapeCritical => 1 | .counterMatched => 2 | .cueFound => 3

/-- Set a sticky flag. -/
def setSticky (f : Sticky) (s : State) : State :=
  s.mapLnk fun l => { l with sticky := l.sticky ||| (1#8 <<< f.bit) }

/-- Whether a sticky flag is set. -/
def State.stickySet (s : State) (f : Sticky) : Bool := s.lnk.sticky.getLsbD f.bit

/-- Set a reported flag. -/
def setReported (f : Reported) (s : State) : State :=
  s.mapLnk fun l => { l with reported := l.reported ||| (1#4 <<< f.bit) }

/-- Clear the reported flags of a set. -/
def clearReported (m : BitVec 4) (s : State) : State := s.mapLnk fun l => { l with reported := l.reported &&& ~~~m }

/-- Whether a reported flag is set. -/
def State.reportedSet (s : State) (f : Reported) : Bool := s.lnk.reported.getLsbD f.bit

/-! ## Condition flags (R200) -/

/-- The states of the THREADED flag (R1). -/
def TState.isThreaded : TState → Bool
  | .threaded | .play | .still | .searchFwd | .searchRev | .record | .recordPause => true
  | _ => false

/-- Byte 0 of the status record (R205). -/
def conditionByte (s : State) : Byte :=
  let bit (n : Nat) (b : Bool) : Nat := if b then 2 ^ n else 0
  byteOf (bit 0 (s.mec.state != .empty) + bit 1 (s.mec.tab == .absent) + bit 2 s.mec.state.isThreaded
    + bit 3 (s.mec.state == .record) + bit 4 s.tsc.active.isSome + bit 5 (s.clk.state != .unset)
    + bit 6 (s.tpe.profile == .calibrated) + bit 7 (s.tar.holder == .record))

end Sys2Proof.Machine
end

