-- ==== Sys2Proof/Machine/Ops.lean ====
section
/-! DEFINITION. Operations every block uses: raising and withdrawing notice classes (R197), reports between blocks, and
making a reply ready (R195, R196). -/

namespace Sys2Proof.Machine

/-- Notice classes, in the order of their codes 0x40 to 0x4B (R197). -/
inductive Notice where
  | deck | counter | cue | tape | servo | tuner | packet | clock | plan | occurrence | power | link
  deriving DecidableEq, Repr

/-- A class's bit in the pending set and the mask (R198). -/
def Notice.bit : Notice → Nat
  | .deck => 0 | .counter => 1 | .cue => 2 | .tape => 3 | .servo => 4 | .tuner => 5 | .packet => 6 | .clock => 7 | .plan => 8
  | .occurrence => 9 | .power => 10 | .link => 11

/-- Raise a class (R197): its pending flag is set when the mask enables it. Nothing is raised in BACKUP (R184). -/
def raise (n : Notice) (s : State) : State :=
  if s.pwr.mode = .backup then s
  else s.mapLnk fun l => { l with notices := l.notices ||| ((1#12 <<< n.bit) &&& l.mask) }

/-- Withdraw a class (R197). -/
def withdraw (n : Notice) (s : State) : State :=
  s.mapLnk fun l => { l with notices := l.notices &&& ~~~(1#12 <<< n.bit) }

/-- Raise a class when a condition holds. -/
def raiseIf (b : Bool) (n : Notice) (s : State) : State := if b then raise n s else s

/-- Whether a class is pending. -/
def State.pendingNotice (s : State) (n : Notice) : Bool := s.lnk.notices.getLsbD n.bit

/-- Make a report, to be taken after those already made. -/
def report (r : Report) (s : State) : State := { s with reports := s.reports ++ [r] }

/-- Make a report that is taken before those already made (an effect the spec calls at once). -/
def reportFirst (r : Report) (s : State) : State := { s with reports := r :: s.reports }

/-- Make a report when a condition holds. -/
def reportIf (b : Bool) (r : Report) (s : State) : State := if b then report r s else s

/-- Set a link error flag and count it (R193, R194): a change from clear to set raises LINK, and the counter stops at
255. -/
def linkError (f : Sticky) (s : State) : State :=
  let was := s.stickySet f
  let s := (setSticky f s).mapLnk fun l => { l with errors := min 255 (l.errors + 1) }
  raiseIf (!was) .link s

/-- Make the reply of the request in the buffer ready (R196). -/
def reply (r : Reply) (s : State) : State := s.mapLnk fun l => { l with reply := some r }

/-- An OK reply. -/
def replyOk (b : ReplyBody) (s : State) : State := reply (.ok b) s

/-- An ACCEPTED reply. -/
def replyAccepted (b : ReplyBody) (s : State) : State := reply (.accepted b) s

/-- A REFUSED reply; the field number is 0 but for FIELD_RANGE (R195). -/
def refuse (r : Reason) (s : State) : State := reply (.refused r 0) s

/-- A REFUSED reply with FIELD_RANGE and a field number (R195). -/
def refuseField (n : Nat) (s : State) : State := reply (.refused .fieldRange n) s

/-- The deck domains and the control domain are powered: the mode is not BACKUP, and deck power is UP (R184). -/
def State.deckPowered (s : State) : Bool := s.pwr.deckUp && s.pwr.mode != .backup

/-- Do something only where a condition holds: an event whose condition does not hold changes nothing (log 1). -/
def when (b : Bool) (f : State → State) (s : State) : State := if b then f s else s

end Sys2Proof.Machine
end

