-- ==== Sys2Proof/Machine/Servo.lean ====
section
/-! DEFINITION. SRV's own operations (02, sections 2.1 to 2.4): drum stop, quality, the auto-tracking sweep, grade
detection. What a frame or a pulse does to the other blocks stands in Machine/TapePath.lean. -/

namespace Sys2Proof.Machine

/-- R34: the drum stops, and the lock is cleared. -/
def drumStop (s : State) : State :=
  let was := s.srv.quality != .locked
  let s := s.mapMec fun m => { m with drum := false }
  raiseIf was .servo
    (s.mapSrv fun v => { v with err := 0, run := 0, quality := .locked, drumLock := false, capLock := false })

/-- R32's table. -/
def qualityOf (err : Nat) : Quality :=
  if err ≤ 95 then .locked else if err ≤ 127 then .warn else if err ≤ 254 then .unstable else .lost

/-- R32 and R33: what one judged frame does to the counter, the quality and the recovery run. -/
def Srv.judge (good : Bool) (v : Srv) : Srv :=
  if v.quality = .lost then
    if good then
      if v.run + 1 = 128 then { v with err := 0, quality := .locked, run := 0 } else { v with run := v.run + 1 }
    else { v with run := 0 }
  else if good then { v with err := v.err - 1, quality := qualityOf (v.err - 1) }
  else if 255 ≤ v.err + 8 then { v with err := 255, quality := .lost, run := 0 }
  else { v with err := v.err + 8, quality := qualityOf (v.err + 8) }

/-! ## The sweep (R37) -/

/-- The sweep restarts in MEASURE from the present offset. Where LOST restarts it while a neighbour is tried, that is the tracking
offset in force, the one tried, and not p (log 82, DESIGN CHOICE). -/
def sweepRestart (s : State) : State := s.mapSrv fun v => { v with phase := .measure, base := v.offset }

/-- HOLD at p. -/
def sweepHold (s : State) : State := raise .servo (s.mapSrv fun v => { v with phase := .hold, offset := v.base })

/-- Try, or climb to, the neighbour above p, unless p stands at the bound. -/
def sweepUp (phase : SweepPhase) (atBound : State → State) (s : State) : State :=
  if s.srv.base = 63 then atBound s
  else s.mapSrv fun v => { v with phase := phase, offset := min 63 (v.base + 4) }

/-- Try, or climb to, the neighbour below p, unless p stands at the bound. -/
def sweepDown (phase : SweepPhase) (s : State) : State :=
  if s.srv.base = -64 then sweepHold s
  else s.mapSrv fun v => { v with phase := phase, offset := max (-64) (v.base - 4) }

/-- p moves to the offset tried, and the reading becomes the best. -/
def sweepTake (reading : Nat) (s : State) : State := s.mapSrv fun v => { v with base := v.offset, best := reading }

/-- R37's phase table, for a reading taken at the present offset. -/
def sweepReading (reading : Nat) (s : State) : State :=
  let higher := decide (s.srv.best < reading)
  match s.srv.phase with
  | .measure => sweepUp .tryUp (sweepDown .tryDown) (sweepTake reading s)
  | .tryUp =>
    if higher then sweepUp .climbUp sweepHold (sweepTake reading s) else sweepDown .tryDown s
  | .tryDown => if higher then sweepDown .climbDown (sweepTake reading s) else sweepHold s
  | .climbUp => if higher then sweepUp .climbUp sweepHold (sweepTake reading s) else sweepHold s
  | .climbDown => if higher then sweepDown .climbDown (sweepTake reading s) else sweepHold s
  | .hold => s

/-- The sum of the first 8 envelope levels (R37). -/
def readingOf (levels : List Byte) : Nat := (levels.take 8).foldl (fun n b => n + b.toNat) 0

/-- R36: SRV takes the tracking fields of a DECK_GO. A sweep that leaving PLAY stopped in a phase other than HOLD counts as
running, so FIXED taken outside PLAY sets its phase to HOLD as well (log 66, DESIGN CHOICE). -/
def trackingTake (mode : TrackMode) (offset : Int) (s : State) : State :=
  let changed := s.srv.mode != mode
  match mode with
  | .auto =>
    let s := raiseIf changed .servo (s.mapSrv fun v => { v with mode := .auto })
    if changed && s.mec.state == .play then sweepRestart s else s
  | .fixed =>
    let sweeping := s.srv.phase != .hold
    raiseIf (changed || sweeping) .servo
      (s.mapSrv fun v => { v with mode := .fixed, offset := clampInt (-64) 63 offset, phase := .hold })

/-! ## Grades (R38, R39) -/

/-- Set the detected and the basis grade; a change of the detected grade raises SERVO. -/
def setDetected (g : Grade) (s : State) : State :=
  let changed := s.srv.detected != some g
  raiseIf changed .servo (s.mapSrv fun v => { v with detected := some g, basis := g })

/-- R38's table of step counts. -/
def detectionOf (steps : Nat) : Option Grade :=
  if 23 ≤ steps ∧ steps ≤ 25 then some .full
  else if 11 ≤ steps ∧ steps ≤ 13 then some .half
  else if 7 ≤ steps ∧ steps ≤ 9 then some .third
  else none

/-- R38: the candidate after a detection, and the grade whose run has reached 4. -/
def candidateAfter (old : Option (Grade × Nat)) (d : Option Grade) : Option (Grade × Nat) × Option Grade :=
  match d with
  | none => (none, none)
  | some g =>
    let run := match old with
      | some (h, n) => if h = g then n + 1 else 1
      | none => 1
    if run = 4 then (none, some g) else (some (g, run), none)

/-- R38 and R39: SRV takes a control pulse read in PLAY. -/
def srvPulse (s : State) : State :=
  let s := s.mapSrv fun v => { v with noPulse := 0 }
  match s.srv.pulseSteps with
  | none => s.mapSrv fun v => { v with pulseSteps := some 0 }
  | some n =>
    let c := candidateAfter s.srv.candidate (detectionOf n)
    let s := s.mapSrv fun v => { v with pulseSteps := some 0, candidate := c.1 }
    match c.2 with
    | some g => if s.srv.detected = some g then s else setDetected g s
    | none => s

/-- R39: the frames without a pulse reach 60. SERVO is raised though the detected grade was BLANK before. -/
def goBlank (s : State) : State := raise .servo (s.mapSrv fun v => { v with noPulse := 60, detected := none })

/-- Entry to PLAY (R37, R38, R39). -/
def srvEnterPlay (s : State) : State :=
  let s := s.mapSrv fun v => { v with candidate := none, pulseSteps := none, noPulse := 0 }
  match s.srv.mode with
  | .auto => sweepRestart s
  | .fixed => s

/-- Entry to RECORD (R35, R39). A quality that stands at UNSTABLE or LOST is reported to MEC and is no change: no SERVO is raised
for it (log 72, DESIGN CHOICE). -/
def srvEnterRecord (s : State) : State :=
  let s := setDetected s.mec.grade s
  match s.srv.quality with
  | .unstable => reportIf (s.mec.owner == .timer) .unstable s
  | .lost => report .servoLost s
  | _ => s

/-- A completed LOADING (R39, R58). -/
def srvLoaded (s : State) : State :=
  let s := setDetected .full s
  s.mapSrv fun v =>
    { v with candidate := none, noPulse := 0, offset := if v.mode = .auto then 0 else v.offset,
             base := if v.mode = .auto then 0 else v.base }

end Sys2Proof.Machine
end

