-- ==== Sys2Proof/Machine/Control.lean ====
section
/-! DEFINITION. CTU's own operations (02, sections 2.6 to 2.9): the cue writer, cue record, match side, seek endings, and
the counter where it is set rather than moved. Movements, which may ask MEC for a stop, stand in Machine/TapePath.lean. -/

namespace Sys2Proof.Machine

/-- The counter's range (R48). -/
def counterMin : Int := -1080000
/-- The counter's range (R48). -/
def counterMax : Int := 1079999

/-- Where a value lies from the match value (R53). -/
def sideOf (value target : Int) : Side :=
  if value < target then .below else if value = target then .atValue else .above

/-- Set the match side from the counter, without a test for firing (R53). -/
def setSide (s : State) : State := s.mapCtu fun c => { c with mSide := sideOf c.value c.mValue }

/-- Whether the whole-second part of the shown value differs (R48, log 17). -/
def secondChanged (a b : Int) : Bool := a.tdiv 30 != b.tdiv 30

/-- Record a cue event (R47). -/
def recordCue (kind : CueKind) (code : Option Nat) (s : State) : State :=
  raise .cue (s.mapCtu fun c => { c with cue := { kind := kind, code := code, counter := c.value } })

/-- End a seek that is not IDLE, with NOT_FOUND or ABANDONED (R57). -/
def endSeek (kind : CueKind) (s : State) : State :=
  if s.ctu.seek.state = .idle then s
  else recordCue kind none (s.mapCtu fun c => { c with seek := { c.seek with state := .idle } })

/-- RECORD is left: a mark in writing is aborted (R44). -/
def abortMark (s : State) : State :=
  match s.ctu.writing with
  | none => s
  | some m => recordCue .aborted (some m.code) (s.mapCtu fun c => { c with writing := none, waiting := none })

/-- What the cue writer answers to a request (R43). -/
inductive MarkAnswer where
  | writing | waits | full
  deriving DecidableEq, Repr

/-- R43: a request to write a mark. The mark's first pulse is the next control pulse written, whether or not the pulse of the
present frame was written already (log 67, DESIGN CHOICE). -/
def requestMark (code : Nat) (origin : Owner) (s : State) : MarkAnswer × State :=
  match s.ctu.writing, s.ctu.waiting with
  | none, _ => (.writing, s.mapCtu fun c => { c with writing := some { code := code, origin := origin, pos := 1 } })
  | some _, none => (.waits, s.mapCtu fun c => { c with waiting := some (code, origin) })
  | some _, some _ => (.full, s)

/-- The class a position of a mark calls for (R42). -/
def markClass (code pos : Nat) : PulseClass :=
  if pos ≤ 4 then .long
  else if pos ≤ 20 then (if code.testBit (20 - pos) then .long else .short)
  else .short

/-- The duty a class is written with, in hundredths of a percent (R40). -/
def PulseClass.duty : PulseClass → Nat
  | .short => 2500 | .normal => 5500 | .long => 8000

/-- The class of the next control pulse written (R40, R44): NORMAL, or the one the mark's position calls for. -/
def Ctu.nextClass (c : Ctu) : PulseClass :=
  match c.writing with
  | none => .normal
  | some m => markClass m.code m.pos

/-- R42: the timed code of a slot and a day of month. -/
def timedCode (slot day : Nat) : Nat := 32768 + slot * 64 + day

/-- Set UNCERTAIN; a change raises COUNTER (R48, R50). -/
def setUncertain (b : Bool) (s : State) : State :=
  let changed := s.ctu.uncertain != b
  raiseIf changed .counter (s.mapCtu fun c => { c with uncertain := b })

/-- Set BEGIN; a change raises COUNTER (R48, R51). -/
def setBegun (b : Bool) (s : State) : State :=
  let changed := s.ctu.begun != b
  raiseIf changed .counter (s.mapCtu fun c => { c with begun := b })

/-- A completed LOADING (R45, R48, R53). -/
def ctuLoaded (s : State) : State :=
  let raised := secondChanged s.ctu.value 0 || s.ctu.begun || s.ctu.uncertain
  raiseIf raised .counter
    (setSide (s.mapCtu fun c =>
      { c with value := 0, source := .pulse, acc := 0, unread := 0, begun := false, uncertain := false, window := [] }))

/-- A completed EJECTING, or RECOVERY settling in EMPTY (R58). -/
def disarmMatch (s : State) : State := s.mapCtu fun c => { c with mArmed := false }

/-- MEC's wind entry (R50, R63): the wind reference is taken from the supply length, or UNCERTAIN is set. -/
def ctuEnterWind (s : State) : State :=
  match s.tpe.profile, s.tpe.ls with
  | .calibrated, some l => s.mapCtu fun c => { c with windRef := some (l : Int) }
  | _, _ => setUncertain true (s.mapCtu fun c => { c with windRef := none })

/-- Pulses are read (R41). -/
def TState.readsPulses : TState → Bool
  | .play | .searchFwd | .searchRev => true
  | _ => false

/-- Reading ends: pulses of the present frame still close a mark in this direction of travel (R57, log 46). -/
def ctuLeaveReading (old : TState) (s : State) : State :=
  s.mapCtu fun c => { c with closing := some (if old = .searchRev then .rev else .fwd) }

/-- Reading starts again, or turns: the window and the frames unread (R45, R48). -/
def ctuEnterReading (old new : TState) (s : State) : State :=
  let starts := !old.readsPulses
  let turns := (old == .searchRev) != (new == .searchRev)
  s.mapCtu fun c =>
    { c with window := if starts || turns then [] else c.window, unread := if starts then 0 else c.unread,
             closing := none }

/-- A WAITING seek runs when MEC enters its search state (R55). -/
def seekEntered (new : TState) (s : State) : State :=
  let wants : TState := match s.ctu.seek.dir with | .fwd => .searchFwd | .rev => .searchRev
  if s.ctu.seek.state = .waiting ∧ new = wants then
    s.mapCtu fun c => { c with seek := { c.seek with state := .running } }
  else s

end Sys2Proof.Machine
end

