-- ==== Sys2Proof/Machine/Position.lean ====
section
/-! DEFINITION. TPE's own operations (03): the direct and ratio calculations, the profile's samples, measurement
starting and stopping. What a change of L_s does to CTU and to the thresholds stands in Machine/TapePath.lean. -/

namespace Sys2Proof.Machine

/-- C0 squared, the bare hub (R65). -/
def hubSquare : Nat := 2669956

/-- Stage 3 of the direct calculation: tape steps from a difference of squared circumferences (R65). -/
def stepsOfArea (d : Nat) : Nat := d * 13038 / 65536

/-- Stages 2 and 3 from S: a negative D is 0 (R65). -/
def lengthOfSquare (sq : Nat) : Nat := stepsOfArea (sq - hubSquare)

/-- Stage 4: the clamp to L_T while CALIBRATED (R65, R67). -/
def Tpe.clampLength (t : Tpe) (l : Nat) : Nat :=
  match t.profile, t.lt with
  | .calibrated, some lt => min l lt
  | _, _ => l

/-- Stage 1 of the ratio calculation (R72). -/
def ratioSquare (k ts tt : Nat) : Nat := k * ts ^ 2 / (ts ^ 2 + tt ^ 2)

/-- L_T from K (R69): 0 when K is below the two hubs. -/
def totalLength (k : Nat) : Nat := stepsOfArea (k - 5339912)

/-- Stage 5: the remaining seconds at a grade, absent with L_s (R65, R73). -/
def Tpe.remaining (t : Tpe) (g : Grade) : Option Nat := t.ls.map fun l => l / stepsPerSecond g

/-- The magnitude of a difference of two counts. -/
def distance (a b : Nat) : Nat := (a - b) + (b - a)

/-- R69 and R70: a sample K_x applied to the profile. -/
def Tpe.sample (kx : Nat) (t : Tpe) : Tpe :=
  match t.profile with
  | .unknown => { t with k := kx, profile := .provisional }
  | .provisional =>
    if distance kx t.k ≤ t.k / 64 then
      let k := (t.k + kx) / 2
      { t with k := k, profile := .calibrated, lt := some (totalLength k), mismatch := 0 }
    else { t with k := kx }
  | .calibrated =>
    if distance kx t.k ≤ t.k / 32 then { t with mismatch := 0 }
    else if t.mismatch = 2 then { t with k := kx, profile := .provisional, lt := none, mismatch := 0 }
    else { t with mismatch := t.mismatch + 1 }

/-- The record of a reel. -/
def Tpe.reel (t : Tpe) : Reel → ReelRec
  | .supply => t.supply
  | .takeup => t.takeup

/-- Change the record of a reel. -/
def mapReel (r : Reel) (f : ReelRec → ReelRec) (s : State) : State :=
  match r with
  | .supply => s.mapTpe fun t => { t with supply := f t.supply }
  | .takeup => s.mapTpe fun t => { t with takeup := f t.takeup }

/-- Change both reels' records. -/
def mapReels (f : ReelRec → ReelRec) (s : State) : State :=
  s.mapTpe fun t => { t with supply := f t.supply, takeup := f t.takeup }

/-- The measuring states (R60). -/
def TState.measures : TState → Bool
  | .play | .record | .searchFwd | .searchRev => true
  | _ => false

/-- The winds. -/
def TState.isWind : TState → Bool
  | .windFwd | .windRev => true
  | _ => false

/-- Measurement is suspended (R60). -/
def tpeSuspend (s : State) : State :=
  mapReels (fun r => { r with rev := none, fresh := false }) (s.mapTpe fun t => { t with spacing := none })

/-- A wind is entered (R63). -/
def tpeEnterWind (s : State) : State :=
  let s := mapReels (fun _ => ReelRec.reset) s
  if s.tpe.profile = .calibrated then s else s.mapTpe fun t => { t with ls := none }

/-- A wind ends (R64). -/
def tpeLeaveWind (s : State) : State := mapReels (fun r => { r with rev := none, t := none }) s

/-- R61's table: the reel after a closed revolution, and whether its C was accepted. -/
def ReelRec.close (count : Nat) (spoiled : Bool) (r : ReelRec) : ReelRec × Bool :=
  if 1600 ≤ count ∧ count ≤ 6400 ∧ spoiled = false then
    ({ r with c := some count, status := .valid, run := 0, fresh := true }, true)
  else
    match r.status with
    | .valid => ({ r with status := .rejected, run := 1, fresh := false }, false)
    | .rejected => ({ r with c := none, status := .invalid, run := 0, fresh := false }, false)
    | .invalid => ({ r with fresh := false }, false)

/-- R62: the spacings of the three grades. -/
def spacingPasses (steps : Nat) : Bool := (detectionOf steps).isSome

/-- R77: the cassette's part of the record returns to its start. The sides and all else named there are set; the status
flags are LNK's and stay. -/
def tpeCassetteReset (s : State) : State :=
  let changed := s.tpe.profile != .unknown
  let s := s.mapTpe fun _ => Tpe.reset
  reportIf changed .rebuild (raiseIf changed .tape s)

/-- R78 at RESTART. -/
def tpeRestart (s : State) : State :=
  mapReels (fun r => { r with rev := none, fresh := false, t := none }) (s.mapTpe fun t => { t with spacing := none })

/-- The states that move tape (R58, R78): the measuring states, the winds and the four motions by their own names. RECOVERY,
which uses the motions under its own name (01, section 1.3), is not counted: log 52, DESIGN CHOICE. -/
def TState.movesTape : TState → Bool
  | .play | .record | .searchFwd | .searchRev | .windFwd | .windRev | .loading | .threading | .unthreading | .ejecting => true
  | _ => false

/-- R78 at BACKUP entry. The reject runs are not named there, and stay. -/
def tpeBackup (moving : Bool) (s : State) : State :=
  let s := tpeRestart s
  if moving then
    mapReels (fun r => { r with c := none, status := .invalid }) (s.mapTpe fun t => { t with ls := none })
  else s

/-- The current grade (R73). -/
def State.currentGrade (s : State) : Grade :=
  match s.mec.state with
  | .record | .recordPause => s.mec.grade
  | .threaded => if s.mec.spin then s.mec.grade else s.srv.basis
  | _ => s.srv.basis

end Sys2Proof.Machine
end

