-- ==== Sys2Proof/Machine/Transport.lean ====
section
/-! DEFINITION. MEC (01): what each transport state drives, entering a state, motions, routes, spin-up, STOP, the end and
begin stops, stalls, FAULT and RECOVERY. -/

namespace Sys2Proof.Machine

/-! ## Kinds of state -/

/-- A motion is in flight; RECOVERY uses motions under its own name (R5, R24). -/
def TState.inMotion : TState → Bool
  | .loading | .threading | .unthreading | .ejecting | .recovery => true
  | _ => false

/-- The forward modes (R2). -/
def TState.forward : TState → Bool
  | .play | .searchFwd | .record | .windFwd => true
  | _ => false

/-- The reverse modes (R2). -/
def TState.reverse : TState → Bool
  | .searchRev | .windRev => true
  | _ => false

/-- RECORD and RECORD_PAUSE. -/
def TState.recordPair : TState → Bool
  | .record | .recordPause => true
  | _ => false

/-- The states whose drum turns as they are (R2). -/
def TState.drumTurns : TState → Bool
  | .play | .still | .searchFwd | .searchRev | .record | .recordPause => true
  | _ => false

/-! ## R2's table -/

/-- The capstan as R2's table gives it: the multiple of the tape speed of a grade, and whether it is reversed. -/
inductive Capstan where
  | stopped | runs (times : Nat) (grade : Grade) (reversed : Bool)
  deriving DecidableEq, Repr

/-- The reel motors as R2's table gives them: none driven, none driven and the reels braked, or one reel driven, at its
normal drive, at full drive, or taking back slack. -/
inductive ReelDrive where
  | released | braked | normal (r : Reel) | full (r : Reel) | slack (r : Reel)
  deriving DecidableEq, Repr

/-- The reel a drive turns. -/
def ReelDrive.reel : ReelDrive → Option Reel
  | .released | .braked => none
  | .normal r | .full r | .slack r => some r

/-- What MEC drives (R2): `mode` is the position the mode motor is driven toward. -/
structure Motors where
  mode    : Option ModePos
  drum    : Bool
  pinched : Bool
  capstan : Capstan
  reels   : ReelDrive
  deriving DecidableEq, Repr

/-- The factor of a search speed (R12). -/
def Speed.times : Speed → Nat
  | .x3 => 3 | .x7 => 7 | .x15 => 15

/-- The reel motors in a state (R2): in RECOVERY the supply reel takes back slack while it moves toward IN (R24). -/
def Mec.reelDrive (m : Mec) : ReelDrive :=
  match m.state with
  | .play | .searchFwd | .record => .normal .takeup
  | .searchRev => .normal .supply
  | .windFwd => .full .takeup
  | .windRev => .full .supply
  | .unthreading => .slack .supply
  | .recovery => if m.move = .toIn then .slack .supply else .released
  | .unthreaded | .threaded => .braked
  | _ => .released

/-- The driven reel of a state (R2, R21). -/
def Mec.reelDriven (m : Mec) : Option Reel := m.reelDrive.reel

/-- The position the mode motor is driven toward (R2, R24). -/
def Mec.modeMotor (m : Mec) : Option ModePos :=
  match m.state with
  | .loading | .unthreading => some .inn
  | .threading => some .thread
  | .ejecting => some .out
  | .recovery => match m.move with
    | .toIn => some .inn
    | .toOut => some .out
    | _ => none
  | _ => none

/-- The capstan of a state (R2, R13, R14, R38, R39): the basis grade is the detected grade or, while that is BLANK, the
last one. -/
def State.capstan (s : State) : Capstan :=
  match s.mec.state with
  | .play => .runs 1 s.srv.basis false
  | .searchFwd => .runs s.mec.speed.times s.srv.basis false
  | .searchRev => .runs s.mec.speed.times s.srv.basis true
  | .record => .runs 1 s.mec.grade false
  | .threaded | .recordPause =>
    match s.mec.spin, s.mec.pending with
    | true, some p => if p.target = .record then .runs 1 s.mec.grade false else .stopped
    | _, _ => .stopped
  | _ => .stopped

/-- R2's table, whole. -/
def State.motors (s : State) : Motors :=
  { mode := s.mec.modeMotor, drum := s.mec.drum, pinched := s.mec.state.isThreaded, capstan := s.capstan,
    reels := s.mec.reelDrive }

/-! ## Timers that follow the state -/

/-- The three resting situations of R18. -/
def Mec.idleSituation (m : Mec) : Bool :=
  m.owner == .host &&
    match m.state with
    | .still | .recordPause => true
    | .threaded => !m.drum
    | _ => false

/-- Start or stop the idle timer as the situation says. -/
def idleFollow (s : State) : State := s.mapMec fun m => { m with idle := m.idleSituation }

/-- R21: the stall timer runs while a reel is driven and neither sensor is lit. -/
def stallFollow (s : State) : State :=
  s.mapMec fun m => { m with stall := m.reelDriven.isSome && !s.pins.endLit && !s.pins.beginLit }

/-! ## Leaving and entering a state -/

/-- What leaving `o` for `n` does to the recording, the host's RECORD grant and the measurement. -/
def leaveState (o n : TState) (s : State) : State :=
  let s := if o = .record then abortMark s else s
  let s := reportIf (o == .record && s.mec.owner == .timer) .leftRecord s
  let s := reportIf (o.recordPair && !n.recordPair && s.mec.owner == .host) .hostRecEnd s
  let s := if o.measures && (!n.measures || o.reverse != n.reverse) then tpeSuspend s else s
  let s := if o.readsPulses && !n.readsPulses then ctuLeaveReading o s else s
  if o.isWind then tpeLeaveWind s else s

/-- What entering `n` from `o` does in the other blocks of the tape path. -/
def arriveState (o n : TState) (s : State) : State :=
  let s := if n.isWind then ctuEnterWind (tpeEnterWind s) else s
  let s := if n.readsPulses then ctuEnterReading o n s else s
  let s := reportIf (n.recordPair && !o.recordPair && s.mec.owner == .host) .hostRecStart s
  let s := reportIf (n == .record && s.mec.owner == .timer) .enteredRecord s
  let s := reportIf (n == .recordPause && s.mec.owner == .timer) .paused s
  let s := if n = .play then srvEnterPlay s else s
  let s := if n = .record then srvEnterRecord s else s
  let s := seekEntered n s
  let s := reportIf (n.forward && s.pins.endLit) .endStop s
  let s := reportIf (n.reverse && s.pins.beginLit) .beginStop s
  reportIf (n == .empty || n == .unthreaded || n == .fault) .rest s

/-- MEC enters a state (R2). `keepDrum` is for a THREADED passed through on the way to another target (R10). Entering the
state it is in changes nothing but the drum and the timers. -/
def enter (n : TState) (keepDrum : Bool) (s : State) : State :=
  let o := s.mec.state
  let s := if o = n then s else leaveState o n s
  let s := s.mapMec fun m => { m with state := n, move := .none }
  let s := if n.drumTurns then s.mapMec fun m => { m with drum := true } else if keepDrum then s else drumStop s
  let s := idleFollow s
  let s := if o = n then s else raise .deck (arriveState o n s)
  stallFollow s

/-- THREADED or UNTHREADED as a resting state, or any other state. -/
def enterState (n : TState) (s : State) : State := enter n false s

/-- THREADED passed through (R10). -/
def passThreaded (s : State) : State := enter .threaded true s

/-! ## Motions, pending targets and routes -/

/-- The limit of each motion in ms (R5). -/
def motionLimit : TState → Nat
  | .loading | .ejecting => 6000
  | _ => 3600

/-- Begin a motion (R5). The mode switch reads BETWEEN from then on (log 10). -/
def startMotion (n : TState) (s : State) : State :=
  let s := enterState n s
  (s.mapMec fun m => { m with motionTimer := some (motionLimit n) }).mapPins fun p => { p with mode := .between }

/-- Begin LOADING (R4): the tab is not known. -/
def startLoading (s : State) : State :=
  startMotion .loading (s.mapMec fun m => { m with tab := .unknown })

/-- The search targets. -/
def Target.isSearch : Target → Bool
  | .searchFwd | .searchRev => true
  | _ => false

/-- The recording targets. -/
def Target.isRecord : Target → Bool
  | .record | .recordPause => true
  | _ => false

/-- The pending target is cleared, or never comes: a seek still WAITING for it is ABANDONED (R57, log 29). -/
def loseTarget (s : State) : State :=
  let s := if s.ctu.seek.state = .waiting then endSeek .abandoned s else s
  s.mapMec fun m => { m with pending := none }

/-- R7: the target is dropped with a reason. -/
def dropTarget (p : PendingTarget) (r : Reason) (s : State) : State :=
  let s := loseTarget s
  let s := raise .deck (s.mapMec fun m => { m with reportCause := .refused r })
  reportIf (p.origin == .timer) (.targetDropped r) s

/-- The transport state a target names, where it is one of the states of R2's tape path. -/
def Target.stateOf : Target → TState
  | .play => .play | .still => .still | .searchFwd => .searchFwd | .searchRev => .searchRev
  | .record => .record | .recordPause => .recordPause | .windFwd => .windFwd | .windRev => .windRev
  | .unthread => .unthreaded | .eject => .empty | .stop => .threaded

/-- The target state is entered, and is pending no more (R7); a search takes its speed (R12). Where it is the present
state, nothing else changes (R10). -/
def enterTarget (p : PendingTarget) (s : State) : State :=
  let s := s.mapMec fun m =>
    { m with pending := none, speed := if p.target.isSearch then p.speed else m.speed }
  if s.mec.state = p.target.stateOf then s else enterState p.target.stateOf s

/-- The route's next motion, with the target pending (R10). -/
def routeMotion (n : TState) (p : PendingTarget) (s : State) : State :=
  startMotion n (s.mapMec fun m => { m with pending := some p })

/-- R13: the spin-up toward RECORD or RECORD_PAUSE begins, or the tab forbids it. -/
def beginSpinUp (p : PendingTarget) (s : State) : State :=
  if s.mec.tab = .absent then enterState .threaded (dropTarget p .tabProtected s)
  else
    idleFollow (s.mapMec fun m =>
      { m with pending := some p, spin := true, drum := true, grade := p.grade })

/-- No change: what is pending is the state reached (R7). -/
def targetReached (s : State) : State := s.mapMec fun m => { m with pending := none }

/-- The route of R10 from UNTHREADED. -/
def routeUnthreaded (p : PendingTarget) (s : State) : State :=
  match p.target with
  | .stop | .unthread => targetReached s
  | .eject => routeMotion .ejecting p s
  | .windFwd | .windRev => enterTarget p s
  | .record | .recordPause =>
    if s.mec.tab = .absent then dropTarget p .tabProtected s else routeMotion .threading p s
  | .play | .still | .searchFwd | .searchRev => routeMotion .threading p s

/-- The route of R10 from THREADED. -/
def routeThreaded (p : PendingTarget) (s : State) : State :=
  match p.target with
  | .stop => enterState .threaded (targetReached s)
  | .play | .still | .searchFwd | .searchRev => enterTarget p s
  | .record | .recordPause => beginSpinUp p s
  | .windFwd | .windRev | .unthread | .eject => routeMotion .unthreading p s

/-- The route of R10 from PLAY, STILL, SEARCH_FWD and SEARCH_REV. -/
def routePlaying (p : PendingTarget) (s : State) : State :=
  match p.target with
  | .stop => enterState .threaded (targetReached s)
  | .play | .still | .searchFwd | .searchRev => enterTarget p s
  | .record | .recordPause => beginSpinUp p (passThreaded s)
  | .windFwd | .windRev | .unthread | .eject => routeMotion .unthreading p (passThreaded s)

/-- The route of R10 and R14 from RECORD and RECORD_PAUSE. -/
def routeRecording (p : PendingTarget) (s : State) : State :=
  match p.target with
  | .stop => enterState .threaded (targetReached s)
  | .play | .still | .searchFwd | .searchRev => enterTarget p s
  | .recordPause => enterTarget p s
  | .record =>
    if s.mec.state = .record then targetReached s
    else s.mapMec fun m => { m with pending := some p, spin := true }
  | .windFwd | .windRev | .unthread | .eject => routeMotion .unthreading p (passThreaded s)

/-- The route of R10 from WIND_FWD and WIND_REV: the reels are braked. -/
def routeWinding (p : PendingTarget) (s : State) : State :=
  match p.target with
  | .stop | .unthread => enterState .unthreaded (targetReached s)
  | .eject => routeMotion .ejecting p s
  | .windFwd | .windRev => enterTarget p s
  | .play | .still | .searchFwd | .searchRev | .record | .recordPause => routeMotion .threading p s

/-- The next stage of the route toward a target, from a state with no motion and no spin-up in flight (R7, R10, R22). -/
def route (p : PendingTarget) (s : State) : State :=
  match s.mec.state with
  | .empty =>
    match p.target with
    | .stop | .unthread | .eject => targetReached s
    | _ => dropTarget p .noCassette s
  | .unthreaded => routeUnthreaded p s
  | .threaded => routeThreaded p s
  | .play | .still | .searchFwd | .searchRev => routePlaying p s
  | .record | .recordPause => routeRecording p s
  | .windFwd | .windRev => routeWinding p s
  | .fault =>
    match p.target with
    | .eject => routeMotion .ejecting p (s.mapMec fun m => { m with faultCause := .none })
    | _ => s
  | .loading | .threading | .unthreading | .ejecting | .recovery => s.mapMec fun m => { m with pending := some p }

/-- R7: a target taken during a motion; replacing one sets the report cause NONE. -/
def makePending (p : PendingTarget) (s : State) : State :=
  s.mapMec fun m =>
    { m with reportCause := if m.pending.isSome then .none else m.reportCause, pending := some p }

/-- R15: a target taken during a spin-up, or during the change of R14. A request for the spin-up's own target, and one that turns
it from RECORD to RECORD_PAUSE or back, keep the spin-up's grade, whatever grade they name: log 48, DESIGN CHOICE. -/
def duringSpinUp (p q : PendingTarget) (s : State) : State :=
  if p.target = q.target then s
  else if s.mec.state = .threaded ∧ p.target.isRecord then
    s.mapMec fun m => { m with pending := some { q with target := p.target, origin := p.origin } }
  else route p (s.mapMec fun m => { m with spin := false, pending := none })

/-- Execute a target, or make it pending (R7, R10, R15). -/
def execTarget (p : PendingTarget) (s : State) : State :=
  if s.mec.state.inMotion then makePending p s
  else
    match s.mec.spin, s.mec.pending with
    | true, some q => duringSpinUp p q s
    | _, _ => route p s

/-- R11. -/
def stopTransport (s : State) : State :=
  match s.mec.state with
  | .loading | .threading | .unthreading | .ejecting | .recovery => loseTarget s
  | .windFwd | .windRev => enterState .unthreaded s
  | .play | .still | .searchFwd | .searchRev | .record | .recordPause =>
    enterState .threaded (s.mapMec fun m => { m with spin := false, pending := none })
  | .threaded =>
    if s.mec.spin then enterState .threaded (loseTarget (s.mapMec fun m => { m with spin := false })) else s
  | .empty | .unthreaded | .fault => s

/-- A target with origin HOST that passed its checks: the idle timer stops (R18). -/
def hostTarget (t : Target) (speed : Speed) (grade : Grade) (s : State) : State :=
  let s := s.mapMec fun m => { m with idle := false }
  match t with
  | .stop => stopTransport s
  | _ => execTarget { target := t, speed := speed, grade := grade, origin := .host } s

/-- A request of CTU with origin HOST, at the speed and grade in use (log 18). -/
def ctuTarget (t : Target) (s : State) : State := hostTarget t s.mec.speed s.mec.grade s

/-- TSC's transport requests (R17): a failed check is reported and changes nothing. -/
def timerTarget (t : Target) (grade : Grade) (s : State) : State :=
  if s.mec.state = .fault then report (.targetDropped .fault) s
  else if (s.mec.state = .empty ∨ s.mec.state = .ejecting) ∧ t ≠ .stop then report (.targetDropped .noCassette) s
  else if t.isRecord ∧ s.mec.tab = .absent then report (.targetDropped .tabProtected) s
  else if t = .stop then stopTransport s
  else if t = .recordPause ∧ s.mec.state = .recordPause then
    report .paused (execTarget { target := t, speed := s.mec.speed, grade := grade, origin := .timer } s)
  else execTarget { target := t, speed := s.mec.speed, grade := grade, origin := .timer } s

/-! ## Motion completion -/

/-- R3: the tab is sensed at IN with a cassette present. -/
def senseTab (s : State) : State :=
  if s.pins.cassette then s.mapMec fun m => { m with tab := if s.pins.tab then .present else .absent } else s

/-- R7: MEC proceeds toward what is pending, from the state a completion gave. -/
def proceed (s : State) : State :=
  match s.mec.pending with
  | none => s
  | some p => if s.mec.state.inMotion then s else route p s

/-- A motion ends: the timer stops and the completion state is entered (R5). -/
def motionEnds (n : TState) (s : State) : State :=
  enterState n (s.mapMec fun m => { m with motionTimer := none })

/-- What a completed EJECTING and a RECOVERY settling in EMPTY do (R5, R24, R58, R77). -/
def settleEmpty (s : State) : State :=
  let s := motionEnds .empty s
  let s := s.mapMec fun m => { m with tab := .unknown }
  proceed (report .rebuild (tpeCassetteReset (disarmMatch s)))

/-- A completed LOADING (R5, R39, R48, R77). -/
def loadingDone (s : State) : State :=
  let s := motionEnds .unthreaded s
  proceed (report .rebuild (tpeCassetteReset (srvLoaded (ctuLoaded (senseTab s)))))

/-- RECOVERY settles in UNTHREADED (R24). -/
def settleUnthreaded (s : State) : State := proceed (senseTab (motionEnds .unthreaded s))

/-! ## FAULT and RECOVERY -/

/-- R22. -/
def enterFault (c : FaultCause) (s : State) : State :=
  let s := loseTarget s
  let s := s.mapMec fun m => { m with motionTimer := none, spin := false }
  let s := enterState .fault s
  let s := raise .deck (s.mapMec fun m => { m with faultCause := c, reportCause := .fault })
  report .deckFault (setSticky .mechFault s)

/-- RECOVERY drives the mode motor (R24). -/
def recoveryMove (mv : RecoveryMove) (limit : Nat) (s : State) : State :=
  stallFollow ((s.mapMec fun m => { m with move := mv, motionTimer := some limit }).mapPins fun p =>
    { p with mode := .between })

/-- R24's table, from what the switches read. -/
def recoveryRun (s : State) : State :=
  match s.pins.cassette, s.pins.mode with
  | _, .out => settleEmpty s
  | false, _ => recoveryMove .toOut 6000 s
  | true, .inn => settleUnthreaded s
  | true, _ => recoveryMove .toIn 3600 s

/-- R23: every motor and timer stops and the fault cause is NONE; the pending target and the owner go, but for what is
kept for an active occurrence. -/
def recoveryClear (keepTimer : Bool) (s : State) : State :=
  let s := s.mapMec fun m =>
    { m with motionTimer := none, spin := false, faultCause := .none,
             pending := match m.pending with
               | some p => if keepTimer && p.origin == .timer then some p else none
               | none => none,
             owner := if keepTimer then m.owner else .host }
  enterState .recovery s

/-- RECOVERY runs from what the switches read, where it is still to be begun (R24, R191). -/
def recoverTaken (s : State) : State := if s.mec.state = .recovery then recoveryRun s else s

/-- R23 and R24. `fromEjecting` is R25's case. -/
def enterRecovery (keepTimer fromEjecting : Bool) (s : State) : State :=
  let s := recoveryClear keepTimer s
  if fromEjecting && s.pins.cassette then recoveryMove .toOut 6000 s else recoveryRun s

/-- R27: MEC is powered up and reads its switches again. -/
def mecPowerUp (s : State) : State :=
  let agrees : Bool := match s.mec.state with
    | .empty => s.pins.mode == .out
    | .unthreaded => s.pins.mode == .inn && s.pins.cassette
    | .fault => true
    | _ => false
  if agrees then s else enterRecovery s.tsc.active.isSome false s

/-! ## MEC's events -/

/-- The mode switch reports a position (R5, R24). A position other than the motion's target changes nothing. -/
def modeSwitch (pos : ModePos) (s : State) : State :=
  match s.mec.state with
  | .loading => if pos = .inn then loadingDone s else s
  | .threading => if pos = .thread then proceed (motionEnds .threaded s) else s
  | .unthreading => if pos = .inn then proceed (motionEnds .unthreaded s) else s
  | .ejecting => if pos = .out then settleEmpty s else s
  | .recovery =>
    match s.mec.move with
    | .toOut => if pos = .out then settleEmpty s else s
    | .toIn => if pos = .inn then settleUnthreaded s else s
    | .unread => recoveryRun s
    | .none => s
  | _ => s

/-- R6. -/
def motionTimeout (s : State) : State :=
  when s.mec.motionTimer.isSome (enterFault .motionTimeout) s

/-- R13 step 4, and its like in R14. -/
def spinFails (s : State) : State :=
  match s.mec.spin, s.mec.pending with
  | true, some p =>
    let s := s.mapMec fun m => { m with spin := false, pending := none }
    let s := if s.mec.state = .threaded then enterState .threaded s else s
    let s := raise .deck (s.mapMec fun m =>
      { m with reportCause := if p.origin == .timer then .noLock else .refused .servoNoLock })
    reportIf (p.origin == .timer) .noLock s
  | _, _ => s

/-- A frame's lock meets a spin-up (R13 step 3, R14). -/
def spinFrame (drumIn capIn : Bool) (s : State) : State :=
  match s.mec.spin, s.mec.pending with
  | true, some p =>
    if drumIn && (capIn || p.target == .recordPause) then
      enterTarget p (s.mapMec fun m => { m with spin := false })
    else s
  | _, _ => s

/-- R18: the idle timer expires. -/
def idleExpires (s : State) : State :=
  when s.mec.idle
    (fun s =>
      let s := s.mapMec fun m => { m with idle := false, spin := false, pending := none, reportCause := .idle }
      raise .deck (if s.mec.state = .threaded then startMotion .unthreading s else enterState .threaded s)) s

/-- R19, steps 1 to 4. The end action is taken after TSC's and TAR's reports of a recording (log 21), and from WIND_FWD before
the rest that its end would report to PWR: a REWIND leaves that rest again (R26). -/
def endStop (s : State) : State :=
  when (s.mec.state.forward && s.pins.endLit)
    (fun s =>
      let recorded := s.mec.state == .record && s.mec.owner == .timer
      let s := s.mapMec fun m => { m with pending := none, reportCause := .tapeEnd }
      if s.mec.state = .windFwd then endSeek .notFound (enterState .unthreaded (report .endAction s))
      else report .endAction (reportIf recorded .tapeEndInRecord (endSeek .notFound (enterState .threaded s)))) s

/-- R19 step 5. A MEC that was powered down keeps its record (R26). -/
def applyEndAction (s : State) : State :=
  let resting := (s.mec.state == .threaded || s.mec.state == .unthreaded) && s.mec.pending.isNone
  when (s.deckPowered && resting && s.mec.owner == .host && s.mec.endAction == .rewind)
    (route { target := .windRev, speed := s.mec.speed, grade := s.mec.grade, origin := .host }) s

/-- R20. -/
def beginStop (s : State) : State :=
  when (s.mec.state.reverse && s.pins.beginLit)
    (fun s =>
      let s := s.mapMec fun m => { m with pending := none, reportCause := .tapeBegin }
      let s := enterState (if s.mec.state = .windRev then .unthreaded else .threaded) s
      endSeek .notFound (setBegun true s)) s

/-- R21, its three expiries; each ends a cue seek NOT_FOUND (R57). -/
def reelStalls (s : State) : State :=
  match s.mec.state with
  | .play | .searchFwd | .searchRev | .record =>
    let recorded := s.mec.state == .record && s.mec.owner == .timer
    let p : PendingTarget := { target := .unthread, speed := s.mec.speed, grade := s.mec.grade, origin := s.mec.owner }
    let s := routeMotion .unthreading p (s.mapMec fun m => { m with reportCause := .stall })
    reportIf recorded .stallInRecord (endSeek .notFound s)
  | .windFwd | .windRev =>
    endSeek .notFound (enterState .unthreaded (s.mapMec fun m => { m with reportCause := .stall }))
  | .unthreading | .recovery => enterFault .reelStall (endSeek .notFound s)
  | _ => s

/-- R16: SRV reports LOST while the transport is in RECORD. -/
def servoLost (s : State) : State :=
  when (s.mec.state == .record)
    (fun s =>
      let timed := s.mec.owner == .timer
      let s := enterState .threaded (s.mapMec fun m => { m with pending := none, reportCause := .servoLost })
      reportIf timed .lostInRecord s) s

/-- R4: the cassette leaves during LOADING. -/
def cassetteLeaves (s : State) : State :=
  when (s.mec.state == .loading)
    (fun s =>
      let s : State := match s.mec.pending with
        | some p => dropTarget p .noCassette s
        | none => s
      startMotion .ejecting s) s

/-- R17: TSC claims the transport. A spin-up of the host in THREADED, whose target stands as the pending one (log 13), ends with
that target, REFUSED BUSY_TIMER, and does not go on toward TSC's (log 80, DESIGN CHOICE). -/
def claimTransport (s : State) : State :=
  let s := endSeek .abandoned s
  let s : State := match s.mec.pending with
    | some p =>
      if p.origin = Owner.host then
        raise .deck (s.mapMec fun m => { m with pending := none, spin := false, reportCause := .refused .busyTimer })
      else s
    | none => s
  s.mapMec fun m => { m with owner := .timer, idle := false }

/-- R17: TSC releases the transport; the idle limit runs again (R18). -/
def releaseTransport (s : State) : State := idleFollow (s.mapMec fun m => { m with owner := .host })

/-- MEC at rest (R185). -/
def State.atRest (s : State) : Bool :=
  (match s.mec.state with
    | .empty | .unthreaded | .fault => true
    | _ => false) && s.mec.pending.isNone

/-- R26: PWR's rest request, STOP followed by UNTHREAD with origin HOST. -/
def restRequest (s : State) : State :=
  let s := endSeek .abandoned s
  let s := stopTransport (s.mapMec fun m => { m with idle := false })
  let p : PendingTarget := { target := .unthread, speed := s.mec.speed, grade := s.mec.grade, origin := .host }
  if s.mec.state = .fault then s else execTarget p s

end Sys2Proof.Machine
end

