-- ==== Sys2Proof/Machine/TapePath.lean ====
section
/-! DEFINITION. The tape path's events (02, 03): the servo frame, control pulses, capstan steps and reel edges, and what they
do across SRV, CTU and TPE: counter movement and the match, the cue reader and the seek, the supply length and its
thresholds, the cassette profile. -/

namespace Sys2Proof.Machine

/-! ## Counter movement and the match (R49 to R54) -/

/-- The value moves by some frames, saturating; BEGIN is cleared (R48, R51). -/
def moveValue (frames : Int) (s : State) : State :=
  let v := clampInt counterMin counterMax (s.ctu.value + frames)
  let shown := secondChanged s.ctu.value v
  setBegun false (raiseIf shown .counter (s.mapCtu fun c => { c with value := v }))

/-- The counter has crossed an armed match value (R54). -/
def Ctu.crosses (c : Ctu) : Bool :=
  c.mArmed && match c.mSide with
    | .below => decide (c.mValue ≤ c.value)
    | .above => decide (c.value ≤ c.mValue)
    | .atValue => false

/-- The match fires (R54). -/
def fireMatch (s : State) : State :=
  let s := raise .counter (setReported .counterMatched (s.mapCtu fun c => { c with mArmed := false }))
  if s.mec.owner = .timer then s
  else
    match s.ctu.mAction with
    | .notify => s
    | .stop => ctuTarget .stop (endSeek .abandoned s)
    | .stopThenPlay => ctuTarget .play (ctuTarget .stop (endSeek .abandoned s))

/-- R54: the test for a crossing, after which the side is set. A movement sets the side as well while the match is disarmed, where
R54 makes no test (log 70, DESIGN CHOICE). -/
def testMatch (s : State) : State :=
  let fires := s.ctu.crosses
  let s := setSide s
  if fires then fireMatch s else s

/-- A movement with its test; while UNCERTAIN is set the value does not move (R50). -/
def moveCounter (frames : Int) (s : State) : State :=
  if s.ctu.uncertain then s else testMatch (moveValue frames s)

/-- The sign of travel of a state. -/
def TState.travel (t : TState) : Int := if t.reverse then -1 else 1

/-- R49: a read pulse. It clears UNCERTAIN, and then sets the side without a test (R50, R53). -/
def counterPulse (s : State) : State :=
  let dir := s.mec.state.travel
  let s := s.mapCtu fun c => { c with source := .pulse, acc := 0, unread := 0 }
  if s.ctu.uncertain then setSide (moveValue dir (setUncertain false s)) else moveCounter dir s

/-- R49: the frames unread reach 60. -/
def sourceToStep (s : State) : State :=
  let s := s.mapCtu fun c => { c with unread := 60 }
  if s.ctu.source = .step then s
  else
    let f := stepsPerFrame s.srv.basis
    let frames := s.ctu.acc / f
    let s := s.mapCtu fun c => { c with source := .step, acc := c.acc % f }
    if frames = 0 then s else moveCounter (s.mec.state.travel * frames) s

/-- R49: a capstan step in PLAY or SEARCH. -/
def counterStep (s : State) : State :=
  let s := s.mapCtu fun c => { c with acc := c.acc + 1, accDir := if s.mec.state.reverse then .rev else .fwd }
  if s.ctu.source = .step ∧ stepsPerFrame s.srv.basis ≤ s.ctu.acc then
    moveCounter s.mec.state.travel (s.mapCtu fun c => { c with acc := 0 })
  else s

/-- R50: a change of L_s in a wind moves the counter by the whole frames between. Without a wind reference it does not move
(log 49). -/
def windMoved (l : Nat) (s : State) : State :=
  match s.ctu.windRef with
  | none => s
  | some ref =>
    if s.ctu.uncertain then s
    else
      let f : Int := stepsPerFrame s.srv.basis
      let frames := (ref - l).tdiv f
      let s := s.mapCtu fun c => { c with windRef := some (ref - frames * f) }
      if frames = 0 then s else moveCounter frames s

/-! ## The supply length and the thresholds (R66, R74) -/

/-- R74 for one limit: the side after the test, and whether the limit is crossed. -/
def sideTest (limit remaining : Nat) (side : TapeSide) : TapeSide × Bool :=
  if remaining < limit then (.below, side != .below) else (.above, false)

/-- R74. -/
def thresholdTest (s : State) : State :=
  match s.tpe.remaining s.currentGrade with
  | none => s
  | some r =>
    let low := sideTest 300 r s.tpe.lowSide
    let crit := sideTest 30 r s.tpe.critSide
    let s := s.mapTpe fun t => { t with lowSide := low.1, critSide := crit.1 }
    let s := if low.2 then setReported .tapeLow s else s
    let s := if crit.2 then setReported .tapeCritical s else s
    raiseIf (low.2 || crit.2) .tape s

/-- The states in which the thresholds are tested (R74). -/
def TState.testsTape : TState → Bool
  | .record | .play | .searchFwd => true
  | _ => false

/-- A computation of L_s, or its loss: a change is told to CTU and tested (R66). -/
def setLs (l : Option Nat) (m : Method) (s : State) : State :=
  let changed := s.tpe.ls != l
  let s := s.mapTpe fun t => { t with ls := l, method := if l.isSome then m else t.method }
  match changed, l with
  | true, some n =>
    let s := if s.mec.state.isWind then windMoved n s else s
    if s.mec.state.testsTape then thresholdTest s else s
  | _, _ => s

/-- R65 and R66: L_s from the supply C held, where there is one. -/
def directCalc (s : State) : State :=
  match s.tpe.supply.c with
  | none => s
  | some c => setLs (some (s.tpe.clampLength (lengthOfSquare (c ^ 2)))) .direct s

/-- R72: L_s from the two T, where both are VALID and the profile CALIBRATED. -/
def ratioCalc (s : State) : State :=
  match s.tpe.profile, s.tpe.supply.t, s.tpe.takeup.t with
  | .calibrated, some ts, some tt =>
    setLs (some (s.tpe.clampLength (lengthOfSquare (ratioSquare s.tpe.k ts tt)))) .ratio s
  | _, _, _ => s

/-- R71: the effects of a change of the profile state, and R50's in a wind. TSC's rebuild is a report, taken after TPE's own
recomputation, so it sees the recomputed L_s (log 83, DESIGN CHOICE). -/
def profileMoved (old : Profile) (s : State) : State :=
  if s.tpe.profile = old then s
  else
    let s := report .rebuild (raise .tape s)
    let s := if old = .calibrated ∧ s.mec.state.isWind then setUncertain true s else s
    if s.tpe.supply.status = .invalid then s else directCalc s

/-- R68: a sample, where both fresh flags are set. -/
def takeSample (s : State) : State :=
  match s.tpe.supply.fresh, s.tpe.takeup.fresh, s.tpe.supply.c, s.tpe.takeup.c with
  | true, true, some cs, some ct =>
    let old := s.tpe.profile
    let s := mapReels (fun r => { r with fresh := false }) s
    profileMoved old (s.mapTpe fun t => t.sample (cs ^ 2 + ct ^ 2))
  | _, _, _, _ => s

/-- A revolution that opens. -/
def OpenRev.start : OpenRev := { edges := 0, count := 0, spoiled := false }

/-- R61, R66, R68: a revolution closes in a measuring state, and the next opens. Only the rejection that makes the supply
reel INVALID takes L_s away; a reel that was INVALID already leaves L_s as a wind's ratio gave it. -/
def closeRev (reel : Reel) (v : OpenRev) (s : State) : State :=
  let r := (s.tpe.reel reel).close v.count v.spoiled
  let lost := (s.tpe.reel reel).status == .rejected && r.1.status == .invalid
  let s := mapReel reel (fun _ => { r.1 with rev := some OpenRev.start }) s
  let s := match reel with
    | .takeup => s
    | .supply =>
      if r.2 then directCalc s
      else if lost then setLs none .direct s
      else s
  if r.2 then takeSample s else s

/-- R60: a reel edge in a measuring state. -/
def edgeMeasuring (reel : Reel) (s : State) : State :=
  match (s.tpe.reel reel).rev with
  | none => mapReel reel (fun r => { r with rev := some OpenRev.start }) s
  | some v =>
    if v.edges = 3 then closeRev reel v s
    else mapReel reel (fun r => { r with rev := some { v with edges := v.edges + 1 } }) s

/-- R64: a revolution of a wind closes with this count. -/
def closeTimed (reel : Reel) (count : Nat) (s : State) : State :=
  if count < 20 then mapReel reel (fun r => { r with t := none, rev := some OpenRev.start }) s
  else ratioCalc (mapReel reel (fun r => { r with t := some count, rev := some OpenRev.start }) s)

/-- R64: a reel edge in a wind, some time after the reel's last one. -/
def edgeWinding (reel : Reel) (elapsed : Nat) (s : State) : State :=
  match (s.tpe.reel reel).rev with
  | none => mapReel reel (fun r => { r with rev := some OpenRev.start }) s
  | some v =>
    let count := v.count + elapsed
    if 65535 < count then mapReel reel (fun r => { r with t := none, rev := some OpenRev.start }) s
    else if v.edges = 3 then closeTimed reel count s
    else mapReel reel (fun r => { r with rev := some { v with edges := v.edges + 1, count := count } }) s

/-- A reel tacho edge (R60, R64). The stall timer, which it restarts, is held as running (R21, log 3). -/
def reelEdge (reel : Reel) (elapsed : Nat) (s : State) : State :=
  if s.mec.state.measures then edgeMeasuring reel s
  else if s.mec.state.isWind then edgeWinding reel elapsed s
  else s

/-- R64: the open revolution of a wind passes 65535 units. -/
def revOverflow (reel : Reel) (s : State) : State :=
  when (s.mec.state.isWind && (s.tpe.reel reel).rev.isSome)
    (mapReel reel fun r => { r with t := none, rev := none }) s

/-! ## Capstan steps and control pulses -/

/-- An open revolution takes a step, saturating (R61). -/
def OpenRev.step (v : OpenRev) : OpenRev := { v with count := min 65535 (v.count + 1) }

/-- A capstan step reaches TPE in the measuring states (R60, R62), SRV in PLAY (R38) and the counter in PLAY and SEARCH
(R49). -/
def capstanStepTaken (s : State) : State :=
  let st := s.mec.state
  let s :=
    if st.measures then
      mapReels (fun r => { r with rev := r.rev.map OpenRev.step })
        (s.mapTpe fun t => { t with spacing := t.spacing.map (· + 1) })
    else s
  let s := if st = .play then s.mapSrv fun v => { v with pulseSteps := v.pulseSteps.map (· + 1) } else s
  if st.readsPulses then counterStep s else s

/-- R62: TPE takes a read pulse. -/
def tpePulse (s : State) : State :=
  let bad := match s.tpe.spacing with
    | none => false
    | some n => !spacingPasses n
  let s := if bad then mapReels (fun r => { r with rev := r.rev.map fun v => { v with spoiled := true } }) s else s
  s.mapTpe fun t => { t with spacing := some 0 }

/-- R40: the class of a measured duty, in hundredths of a percent. -/
def classOf (duty : Nat) : PulseClass := if duty < 4000 then .short else if duty ≤ 7000 then .normal else .long

/-- The bit of a middle class of a mark. -/
def classBit : PulseClass → Option Nat
  | .short => some 0
  | .normal => none
  | .long => some 1

/-- A code from sixteen classes, the first the most significant bit. -/
def codeOf (classes : List PulseClass) : Option Nat :=
  classes.foldl
    (fun acc c => match acc, classBit c with
      | some n, some b => some (2 * n + b)
      | _, _ => none) (some 0)

/-- R45: the mark a full window of 24 holds, read forward. -/
def markForward (w : List PulseClass) : Option Nat :=
  if w.length = 24 ∧ w.take 4 = List.replicate 4 .long ∧ w.drop 20 = List.replicate 4 .short then
    codeOf ((w.drop 4).take 16)
  else none

/-- R45: the mark a full window holds, in the direction of travel. -/
def markIn (reverse : Bool) (w : List PulseClass) : Option Nat := markForward (if reverse then w.reverse else w)

/-- R56: a pattern field that is absent matches any mark. -/
def fieldMatches {α : Type} (f : Option α) (test : α → Bool) : Bool :=
  match f with
  | none => true
  | some a => test a

/-- R56's table. -/
def Seek.takes (k : Seek) (code : Nat) : Bool :=
  let timed := decide (32768 ≤ code)
  fieldMatches k.kind (fun c => match c with | .host => !timed | .timed => timed)
    && fieldMatches k.slot (fun n => timed && (code - 32768) / 64 == n)
    && fieldMatches k.day (fun n => timed && (code - 32768) % 64 == n)
    && fieldMatches k.range (fun r => decide (r.1 ≤ code) && decide (code ≤ r.2))

/-- A running seek finds its mark (R56). -/
def seekFound (code : Nat) (s : State) : State :=
  let play := s.ctu.seek.endPlay
  let s := s.mapCtu fun c => { c with seek := { c.seek with state := .idle } }
  let s := ctuTarget .stop (setReported .cueFound (recordCue .found (some code) s))
  if play then ctuTarget .play s else s

/-- A running seek passes a mark (R56). -/
def seekPassed (code : Nat) (s : State) : State :=
  let s := recordCue .passed (some code)
    (s.mapCtu fun c => { c with seek := { c.seek with passed := c.seek.passed + 1 } })
  if s.ctu.seek.limit ≠ 0 ∧ s.ctu.seek.limit ≤ s.ctu.seek.passed then endSeek .notFound (ctuTarget .stop s) else s

/-- R46 and R56: a recognised mark. -/
def markRecognised (code : Nat) (s : State) : State :=
  if s.ctu.seek.state = .running then
    if s.ctu.seek.takes code then seekFound code s else seekPassed code s
  else recordCue .passed (some code) s

/-- R45: a class added at the end of a window, which drops its oldest class when it is full. -/
def pushClass (c : PulseClass) (w : List PulseClass) : List PulseClass := (if 24 ≤ w.length then w.drop 1 else w) ++ [c]

/-- R45: a class enters the window. The test is made on the window as it stood before the pulse (`before`), so that a match
which the pulse fires and which starts the reading again does not hide the mark the pulse completes (R41, log 46). -/
def cueRead (reverse : Bool) (c : PulseClass) (before : List PulseClass) (s : State) : State :=
  match markIn reverse (pushClass c before) with
  | none => s.mapCtu fun u => { u with window := pushClass c u.window }
  | some code => markRecognised code (s.mapCtu fun u => { u with window := [] })

/-- R41: a pulse of a reading state. The counter and the match take it before the cue reader, and SRV and TPE before them
(log 68, DESIGN CHOICE). The capstan is phased to it in the next frame (R30). -/
def pulseTaken (duty : Nat) (s : State) : State :=
  let st := s.mec.state
  let before := s.ctu.window
  let s := s.mapSrv fun v => { v with pulsed := true }
  let s := if st = .play then srvPulse s else s
  cueRead st.reverse (classOf duty) before (counterPulse (tpePulse s))

/-- A control pulse comes from the tape: read in PLAY and SEARCH (R41), and after a stop still taken by the cue reader until
the frame ends (R57, log 46). -/
def pulseRead (duty : Nat) (s : State) : State :=
  if s.mec.state.readsPulses then pulseTaken duty s
  else
    match s.ctu.closing with
    | none => s
    | some d => cueRead (d == .rev) (classOf duty) s.ctu.window s

/-- R44: the mark in writing advances, or is complete. -/
def markAdvance (s : State) : State :=
  match s.ctu.writing with
  | none => s
  | some m =>
    if m.pos = 24 then
      recordCue .written (some m.code)
        (s.mapCtu fun c =>
          { c with writing := c.waiting.map fun w => { code := w.1, origin := w.2, pos := 1 }, waiting := none })
    else s.mapCtu fun c => { c with writing := some { m with pos := m.pos + 1 } }

/-- R40 and R44: a control pulse is written with the class called for, and the counter moves by one. A pulse that completes a
mark and fires a match completes the mark first (log 58, DESIGN CHOICE). -/
def pulseWritten (s : State) : State :=
  when (s.mec.state == .record)
    (fun s =>
      let s := s.mapCtu fun c => { c with written := some c.nextClass }
      if s.ctu.uncertain then markAdvance s else testMatch (markAdvance (moveValue 1 s))) s

/-! ## The servo frame (R30 to R35) -/

/-- A phase within 2% of the frame period of its reference is IN (R30); units of a hundredth of a percent. -/
def phaseIn (p : Int) : Bool := decide (-200 ≤ p ∧ p ≤ 200)

/-- R35: what a change of the quality state does. -/
def qualityMoved (old : Quality) (s : State) : State :=
  if s.srv.quality = old then s
  else
    let s := raise .servo s
    match s.srv.quality with
    | .lost =>
      let s := setSticky .servoLost s
      if s.mec.state = .record then report .servoLost s
      else if s.mec.state = .play ∧ s.srv.mode = .auto then sweepRestart s
      else s
    | .unstable => reportIf (s.mec.state == .record && s.mec.owner == .timer) .unstable s
    | _ => s

/-- R31 to R33: the frame is judged. -/
def judgeFrame (good : Bool) (s : State) : State :=
  let old := s.srv.quality
  qualityMoved old (s.mapSrv fun v => v.judge good)

/-- R30: the capstan's phase against the reference of the state: the control pulse read in PLAY and SEARCH, and the
internal one elsewhere and in frames without a pulse. -/
def State.capPhase (p : CapstanPhase) (s : State) : Int :=
  if s.mec.state.readsPulses && s.srv.pulsed then p.pulse else p.internal

/-- R31: a frame in which the drum is driven. The frame that locks a change from RECORD_PAUSE to RECORD is judged before MEC enters
RECORD, so that the entry meets the quality which that frame leaves (R35; log 71, DESIGN CHOICE). -/
def lockFrame (drumPhase : Int) (capstanPhase : CapstanPhase) (s : State) : State :=
  let drumIn := phaseIn drumPhase
  let capIn := s.capstan == .stopped || phaseIn (s.capPhase capstanPhase)
  let s := s.mapSrv fun v => { v with drumLock := drumIn, capLock := capIn }
  let s := if s.mec.state.drumTurns then judgeFrame (drumIn && capIn) s else s
  spinFrame drumIn capIn s

/-- R39: a frame of PLAY in which no pulse was read is counted (log 53). -/
def blankFrame (s : State) : State :=
  if s.mec.state = .play ∧ s.srv.pulsed = false ∧ s.srv.noPulse < 60 then
    if s.srv.noPulse = 59 then goBlank s else s.mapSrv fun v => { v with noPulse := v.noPulse + 1 }
  else s

/-- R48 and R49: a frame of PLAY or SEARCH in which no pulse was read is counted as unread (log 53). -/
def unreadFrame (s : State) : State :=
  if s.mec.state.readsPulses ∧ s.srv.pulsed = false ∧ s.ctu.unread < 60 then
    if s.ctu.unread = 59 then sourceToStep s else s.mapCtu fun c => { c with unread := c.unread + 1 }
  else s

/-- A frame ends: what was read in it is over (R30, R57). -/
def frameOver (s : State) : State :=
  (s.mapSrv fun v => { v with pulsed := false }).mapCtu fun c => { c with closing := none }

/-- One video frame. What a stop or a lock of this frame leaves is judged in it, so the frame's own marks go last. -/
def servoFrameTaken (drumPhase : Int) (capstanPhase : CapstanPhase) (s : State) : State :=
  frameOver (unreadFrame (blankFrame (if s.mec.drum then lockFrame drumPhase capstanPhase s else s)))

/-! ## Resets and power modes (R58) -/

/-- CTU at RESTART: RECORD is left, so a mark in writing is ABORTED (R44); the seek and the match end without a notice. -/
def ctuRestart (s : State) : State :=
  (abortMark s).mapCtu fun c =>
    { c with seek := { c.seek with state := .idle }, mArmed := false, writing := none, waiting := none, window := [],
             unread := 0 }

/-- SRV at RESTART and at BACKUP entry: the drum is stopped elsewhere, and the sweep holds. R58 sets the phase there; that
this is no entry to HOLD in R37's sense, and raises no SERVO, is the model's: log 51, DESIGN CHOICE. -/
def srvRestart (s : State) : State := s.mapSrv fun v => { v with phase := .hold }

/-- CTU at BACKUP entry: RECORD is left, so a mark in writing is ABORTED (R44). -/
def ctuBackup (moving : Bool) (s : State) : State :=
  let s := (abortMark s).mapCtu fun c =>
    { c with seek := { c.seek with state := .idle }, writing := none, waiting := none, window := [], unread := 0,
             closing := none }
  if moving then setUncertain true s else s

end Sys2Proof.Machine
end

