-- ==== Sys2Proof/Machine/DataLines.lean ====
section
/-! DEFINITION. DLD's own operations (06): the capture buffer, the name assembly, and what a retune does to both. Taking a
packet stands in Machine/Packets.lean. -/

namespace Sys2Proof.Machine

/-- The capture buffer is emptied and PACKET withdrawn (R123). -/
def captureEmpty (s : State) : State := withdraw .packet (s.mapDld fun d => { d with front := none, back := none })

/-- The name assembly restarts (R123). -/
def assemblyRestart (s : State) : State :=
  s.mapDld fun d => { d with asm := .empty, asmCode := none, chars := blankName, segs := 0 }

/-- TUN reports a retune (R123). -/
def retuned (s : State) : State := assemblyRestart (captureEmpty s)

/-- The bad-packet counter counts (R113). -/
def countBad (s : State) : State := s.mapDld fun d => { d with bad := min 255 (d.bad + 1) }

/-- A packet type's bit in the capture selection (R205). -/
def PacketType.bit : PacketType → Nat
  | .time => 0 | .label => 1 | .name => 2

/-- R119: an item of this type is taken now. -/
def State.takesCapture (s : State) (t : PacketType) : Bool :=
  s.dld.sel.getLsbD t.bit && s.pwr.mode == .on && s.lnk.mask.getLsbD Notice.packet.bit

/-- R120 and R122: a record enters the buffer. -/
def captureEnter (c : Capture) (s : State) : State :=
  match s.dld.front, s.dld.back with
  | none, _ => raise .packet (s.mapDld fun d => { d with front := some c, back := none })
  | some _, none => s.mapDld fun d => { d with back := some c }
  | some _, some _ => setSticky .packetOverrun (s.mapDld fun d => { d with back := some c })

/-- R119 to R121: an item is offered. -/
def captureOffer (t : PacketType) (preset : Nat) (data : List Byte) (s : State) : State :=
  if s.takesCapture t then
    let n := (s.dld.count + 1) % 256
    captureEnter { type := t, count := n, preset := preset, data := data } (s.mapDld fun d => { d with count := n })
  else s

/-- R121: the PACKET notice begins, so the front is freed and the back follows it. -/
def captureSent (s : State) : State :=
  let s := s.mapDld fun d => { d with front := d.back, back := none }
  raiseIf s.dld.front.isSome .packet s

/-- The characters of a segment are stored at its place (R117). -/
def storeSegment (seg : Nat) (new chars : List Byte) : List Byte := chars.take (8 * seg) ++ new ++ chars.drop (8 * seg + 8)

/-- The set of one segment. -/
def segBit (seg : Nat) : BitVec 4 := 1#4 <<< seg

/-- R117's table: the assembly after a segment. -/
def Dld.segment (code : BitVec 12) (seg : Nat) (new : List Byte) (d : Dld) : Dld :=
  if d.asm = .empty ∨ d.asmCode ≠ some code then
    { d with asm := .assembling, asmCode := some code, chars := storeSegment seg new blankName, segs := segBit seg }
  else if d.asm = .assembling then
    let segs := d.segs ||| segBit seg
    { d with asm := if segs = 0xF#4 then .complete else .assembling, chars := storeSegment seg new d.chars, segs := segs }
  else if (d.chars.drop (8 * seg)).take 8 = new then d
  else { d with asm := .assembling, chars := storeSegment seg new d.chars, segs := segBit seg }

end Sys2Proof.Machine
end

