-- ==== Sys2Proof/Machine/Tuner.lean ====
section
/-! DEFINITION. TUN (04): the preset table, the synthesizer, tune orders and tuning, the detector readings and AFC, the
station scan. -/

namespace Sys2Proof.Machine

/-! ## The preset table -/

/-- The entry of a preset number: number 0 and numbers above 99 name none (R79). -/
def State.preset (s : State) (n : Nat) : Preset :=
  if n = 0 then Preset.empty else (s.tun.presets[n - 1]?).getD Preset.empty

/-- Change the entry of a preset number from 1 to 99. -/
def setPreset (n : Nat) (p : Preset) (s : State) : State :=
  if n = 0 then s else s.mapTun fun t => { t with presets := t.presets.setIfInBounds (n - 1) p }

/-- A time-source preset exists (R89). -/
def State.hasTimeSource (s : State) : Bool := s.tun.presets.any fun p => p.used && p.timeSource

/-- A change of the table, with a change of "a time-source preset exists" reported to CLK (R89). -/
def tableChange (f : State → State) (s : State) : State :=
  let t := f s
  reportIf (t.hasTimeSource != s.hasTimeSource) (.sourceExists t.hasTimeSource) t

/-- The preset numbers. -/
def presetNumbers : List Nat := (List.range 99).map (· + 1)

/-- The tuned record's preset when it is USED and on the tuned frequency, else 0: the receiving preset (R115), and the
first conditions of R83 and R84. -/
def State.receivingPreset (s : State) : Nat :=
  let t := s.tun.tuned
  let p := s.preset t.preset
  if t.source = .preset ∧ p.used ∧ p.freq = t.freq then t.preset else 0

/-- R83. -/
def learnCode (code : BitVec 12) (s : State) : State :=
  let n := s.receivingPreset
  if n = 0 ∨ (s.preset n).network = some code then s
  else
    raise .tuner ((setPreset n { s.preset n with network := some code } s).mapTun fun t => { t with lastChanged := n })

/-- The first five characters without trailing spaces (R84). -/
def shortName (chars : List Byte) : List Byte := ((chars.take 5).reverse.dropWhile (· == 0x20)).reverse

/-- R84. -/
def learnName (code : BitVec 12) (chars : List Byte) (s : State) : State :=
  let n := s.receivingPreset
  if n ≠ 0 ∧ (s.preset n).network = some code ∧ (s.preset n).name = [] then
    raise .tuner
      ((setPreset n { s.preset n with name := shortName chars } s).mapTun fun t => { t with lastChanged := n })
  else s

/-! ## The synthesizer (R86) -/

/-- R86: the band of a frequency. -/
def bandOf (freq : Nat) : Band := if freq ≤ 3199 then .low else if freq ≤ 8999 then .mid else .high

/-- R86: the divider. -/
def dividerOf (freq : Nat) (fine : Int) : Nat := ((freq : Int) + 760 + fine).toNat

/-- The module is set to a frequency for a time that depends on whether the band switches change (R87, R94, R95): the
readings stop, AFC is idle, and DLD is told. R91 names readings as the way out of AFC LIMIT: that an order which sets AFC
IDLE is no such change, and raises no TUNER by itself, is the model's (log 54, DESIGN CHOICE). -/
def tuneTo (src : Source) (n freq : Nat) (fine : Int) (st : TunedState) (same : Nat) (s : State) : State :=
  let wait := if s.tun.tuned.band = some (bandOf freq) then same else 80
  retuned (s.mapTun fun t =>
    { t with
      tuned := { t.tuned with
        source := src, preset := n, freq := freq, fine := fine, band := some (bandOf freq),
        divider := dividerOf freq fine, state := st, disagree := 0, settle := some wait },
      afc := .idle, reading := false })

/-- A tuning ends in SIGNAL or NO_SIGNAL (R87, R96, R97): AFC starts in TRACKING for SIGNAL, and the readings start. -/
def tunedState (signal : Bool) (s : State) : State :=
  s.mapTun fun t =>
    { t with
      tuned := { t.tuned with state := if signal then .signal else .noSignal, settle := none },
      afc := if signal then .tracking else .idle, reading := true }

/-! ## Tune orders (R88, R89) -/

/-- What TAR orders. -/
inductive Order where
  | preset (n : Nat) | direct (freq : Nat) (fine : Int) | sync
  deriving DecidableEq, Repr

/-- What TUN answers an order at once. -/
inductive TuneAnswer where
  | begun | done (signal : Bool) | noChannel
  deriving DecidableEq, Repr

/-- The order of a view channel. -/
def Channel.order : Channel → Order
  | .preset n => .preset n
  | .direct f o => .direct f o

/-- The lowest-numbered USED preset with the time-source flag (R89). -/
def State.syncPreset (s : State) : Option Nat :=
  presetNumbers.find? fun n => (s.preset n).used && (s.preset n).timeSource

/-- The source, preset number, frequency and fine offset an order stands for now; none for an EMPTY preset. -/
def State.orderTarget (s : State) (o : Order) : Option (Source × Nat × Nat × Int) :=
  let ofPreset (n : Nat) : Option (Source × Nat × Nat × Int) :=
    if (s.preset n).used then some (.preset, n, (s.preset n).freq, (s.preset n).fine) else none
  match o with
  | .preset n => ofPreset n
  | .direct f fine => some (.direct, 0, f, fine)
  | .sync => s.syncPreset.bind ofPreset

/-- R87 and R88: TUN takes an order. -/
def tuneOrder (o : Order) (s : State) : TuneAnswer × State :=
  match s.orderTarget o with
  | none => (.noChannel, s)
  | some (src, n, freq, fine) =>
    let st := s.tun.tuned.state
    if (st = .signal ∨ st = .noSignal) ∧ s.tun.tuned.freq = freq then
      (.done (st == .signal), s.mapTun fun t => { t with tuned := { t.tuned with source := src, preset := n } })
    else (.begun, tuneTo src n freq fine .settling 20 s)

/-! ## Completion, readings, AFC (R87, R90, R91) -/

/-- The detectors as a command gives them (log 10). -/
def setDetectors (carrier sync : Bool) (s : State) : State :=
  s.mapPins fun p => { p with carrier := carrier, sync := sync }

/-- The settle timer of a tuning expires (R87). -/
def tuningCompletes (s : State) : State :=
  let signal := s.pins.carrier && s.pins.sync
  report (.tuningDone signal) (raise .tuner (tunedState signal s))

/-- R91's table: fine offset and AFC state after a discriminator reading. -/
def afcAfter (fine : Int) : Disc → Int × Afc
  | .centre => (fine, .centred)
  | .low => if fine < 16 then (fine + 1, if fine + 1 = 16 then .limit else .tracking) else (fine, .limit)
  | .high => if -16 < fine then (fine - 1, if fine - 1 = -16 then .limit else .tracking) else (fine, .limit)

/-- R91: a discriminator reading. -/
def afcReading (d : Disc) (s : State) : State :=
  let a := afcAfter s.tun.tuned.fine d
  let moved := (s.tun.afc == .limit) != (a.2 == .limit)
  raiseIf moved .tuner (s.mapTun fun t =>
    { t with tuned := { t.tuned with fine := a.1, divider := dividerOf t.tuned.freq a.1 }, afc := a.2 })

/-- R90: a change of state by the third disagreeing reading. -/
def signalChanges (signal : Bool) (s : State) : State :=
  report (.signalChange signal) (raise .tuner (s.mapTun fun t =>
    { t with
      tuned := { t.tuned with state := if signal then .signal else .noSignal, disagree := 0 },
      afc := if signal then .tracking else .idle }))

/-- R90 and R91: a reading at the 40 ms expiry. -/
def detectorRead (disc : Disc) (s : State) : State :=
  let signal := s.pins.carrier && s.pins.sync
  let was := s.tun.tuned.state == .signal
  if signal = was then
    let s := s.mapTun fun t => { t with tuned := { t.tuned with disagree := 0 } }
    if was then afcReading disc s else s
  else if 2 ≤ s.tun.tuned.disagree then signalChanges signal s
  else
    let s := s.mapTun fun t => { t with tuned := { t.tuned with disagree := t.tuned.disagree + 1 } }
    if was then afcReading disc s else s

/-! ## TUNE's stepping (R92) -/

/-- The presets NEXT and PREVIOUS look at, in order. -/
def stepsFrom (next : Bool) (n : Nat) : List Nat :=
  if next then presetNumbers.filter (fun m => decide (n < m)) ++ presetNumbers.filter (fun m => decide (m ≤ n))
  else (presetNumbers.filter (fun m => decide (m < n))).reverse ++ (presetNumbers.filter (fun m => decide (n ≤ m))).reverse

/-- The preset NEXT or PREVIOUS takes. -/
def State.stepPreset (s : State) (next : Bool) : Option Nat :=
  (stepsFrom next s.tun.lastView).find? fun n => (s.preset n).used && !(s.preset n).skip

/-! ## The station scan (R93 to R97) -/

/-- R94: a stride position is taken. -/
def scanPosition (p : Nat) (s : State) : State :=
  let s := s.mapTun fun t => { t with scan := { t.scan with pos := p, phase := .dwell } }
  tuneTo .direct 0 p 0 .scanning 25 s

/-- The scan ends (R97): a tuning in flight goes on as an ordinary one, with its remaining time. -/
def scanEnd (c : EndCause) (s : State) : State :=
  let inFlight := s.tun.tuned.state == .scanning
  raise .tuner (s.mapTun fun t =>
    { t with
      scan := { t.scan with state := .idle, cause := c },
      tuned := { t.tuned with state := if inFlight then .settling else t.tuned.state } })

/-- R97, DONE: the detectors are read at once. Where a paused scan is continued into its end, the run of disagreeing
readings stands as it was (log 57, DESIGN CHOICE). -/
def scanDone (s : State) : State :=
  report .scanEnded (scanEnd .done (tunedState (s.pins.carrier && s.pins.sync) s))

/-- R94: the next position, with the wrap and the end. -/
def scanNext (p : Nat) (s : State) : State :=
  let wraps := decide (17240 < p) && !s.tun.scan.wrapped
  let p := if wraps then 900 else p
  let s := if wraps then s.mapTun fun t => { t with scan := { t.scan with wrapped := true } } else s
  if s.tun.scan.wrapped ∧ s.tun.scan.start ≤ p then scanDone s else scanPosition p s

/-- R93: TUN begins a scan. -/
def scanBegin (freq : Nat) (auto : Bool) (s : State) : State :=
  scanPosition freq (s.mapTun fun t =>
    { t with scan := { t.scan with
        state := .running, start := freq, pos := freq, wrapped := false, auto := auto, found := 0, stored := 0,
        last := none, cause := .none } })

/-- No station at this position (R95). -/
def scanMovesOn (s : State) : State := scanNext (s.tun.scan.pos + 20) s

/-- R95: a fine step up or down. -/
def fineStep (up : Bool) (s : State) : State :=
  let f := if up then s.tun.scan.finePos + 1 else s.tun.scan.finePos - 1
  if s.tun.scan.steps = 19 ∨ 17240 < f ∨ f < 900 then scanMovesOn s
  else
    tuneTo .direct 0 f 0 .scanning 20 (s.mapTun fun t =>
      { t with scan := { t.scan with finePos := f, steps := t.scan.steps + 1, stepUp := some up, phase := .fine } })

/-- R95: the centre is held for a final 20 ms. -/
def fineHold (s : State) : State :=
  s.mapTun fun t => { t with scan := { t.scan with phase := .hold }, tuned := { t.tuned with settle := some 20 } }

/-- R95: a discriminator reading of a fine search. -/
def fineReading (d : Disc) (s : State) : State :=
  match d with
  | .centre => fineHold s
  | .low => if s.tun.scan.stepUp = some false then fineHold s else fineStep true s
  | .high => if s.tun.scan.stepUp = some true then fineHold s else fineStep false s

/-- R94 step 4. -/
def scanDwellRead (d : Disc) (s : State) : State :=
  if s.pins.carrier then
    fineReading d (s.mapTun fun t =>
      { t with scan := { t.scan with finePos := t.scan.pos, steps := 0, stepUp := none } })
  else scanMovesOn s

/-- R95: the end of a fine step. -/
def scanFineRead (d : Disc) (s : State) : State := if s.pins.carrier then fineReading d s else scanMovesOn s

/-- R96: a USED preset lies within 8 steps. -/
def State.duplicateStation (s : State) (f : Nat) : Bool :=
  s.tun.presets.any fun p => p.used && decide (distance p.freq f ≤ 8)

/-- The lowest-numbered EMPTY preset (R96). -/
def State.emptyPreset (s : State) : Option Nat := presetNumbers.find? fun n => !(s.preset n).used

/-- R96 with auto-store set. The stations stored stop at 99, the end of R93's range, where the host erases presets during
the scan (log 56, DESIGN CHOICE). When the table is full the tuned record is SIGNAL: AFC then starts in TRACKING and the
readings start, as after any tuning that ends in SIGNAL (log 55, DESIGN CHOICE). -/
def scanStore (f : Nat) (s : State) : State :=
  if s.duplicateStation f then scanNext (f + 20) s
  else
    match s.emptyPreset with
    | none => report .scanEnded (scanEnd .tableFull (tunedState true s))
    | some n =>
      let s := tableChange (setPreset n { Preset.empty with used := true, freq := f }) s
      scanNext (f + 20)
        (raise .tuner (s.mapTun fun t => { t with scan := { t.scan with stored := min 99 (t.scan.stored + 1) } }))

/-- R96 with auto-store clear. -/
def scanPause (s : State) : State :=
  raise .tuner ((tunedState true s).mapTun fun t => { t with scan := { t.scan with state := .paused } })

/-- R95 and R96: the final hold ends. -/
def scanHoldRead (s : State) : State :=
  if s.pins.carrier && s.pins.sync then
    let f := s.tun.scan.finePos
    let s := s.mapTun fun t =>
      { t with scan := { t.scan with found := min 255 (t.scan.found + 1), last := some f } }
    if s.tun.scan.auto then scanStore f s else scanPause s
  else scanMovesOn s

/-- R96: a paused scan goes on from its station. -/
def scanResume (s : State) : State :=
  scanNext (s.tun.scan.finePos + 20) (s.mapTun fun t => { t with scan := { t.scan with state := .running } })

/-! ## Power (R98) -/

/-- TUN and DLD lose power (R98, R125): a scan ends STOPPED, and the tuned record is NONE; AFC IDLE out of LIMIT raises no
TUNER here either (log 54). -/
def tunerPowerDown (s : State) : State :=
  let s := if s.tun.scan.state = .idle then s else scanEnd .stopped s
  retuned (s.mapTun fun t =>
    { t with
      tuned := { t.tuned with source := .none, preset := 0, band := none, divider := 0, state := .none, settle := none },
      afc := .idle, reading := false })

end Sys2Proof.Machine
end

