-- ==== Sys2Proof/Machine/Arbiter.lean ====
section
/-! DEFINITION. TAR (05): grants, waiting requests and their timers, the orders given to TUN; and the power-up of the deck
domains that a grant calls for (R187). -/

namespace Sys2Proof.Machine

/-- R187: PWR powers the deck domains up. A running return timer stops either way. -/
def deckPowerUp (s : State) : State :=
  let down := !s.pwr.deckUp
  let s := s.mapPwr fun p => { p with deckUp := true, returnTimer := false }
  if down then mecPowerUp s else s

/-- A change of the holder raises TUNER (R99). -/
def setHolder (h : Holder) (s : State) : State :=
  let changed := s.tar.holder != h
  raiseIf changed .tuner (s.mapTar fun t => { t with holder := h })

/-- R108: a completion is passed to the holder whose order it was. -/
def completionPassed (signal : Bool) (s : State) : State :=
  reportIf (s.tar.holder == .record && s.tar.orderOf == .record) (.tuningPassed signal) s

/-- The tuning is a holder's order from now on (R108, log 31). -/
def orderIs (h : Holder) (s : State) : State := s.mapTar fun t => { t with orderOf := h }

/-- TAR gives TUN an order for a holder (R88, R100), with TUN's answer. Where the preset was EMPTY, the tuning in flight stays
the order it was. -/
def orderFor (h : Holder) (o : Order) (s : State) : TuneAnswer × State :=
  let a := tuneOrder o s
  (a.1, if a.1 = .noChannel then a.2 else orderIs h a.2)

/-- A completion that TUN answers at once is passed on (R88, R108). -/
def answerPassed (a : TuneAnswer) (s : State) : State :=
  match a with
  | .done signal => completionPassed signal s
  | .begun | .noChannel => s

/-- TAR gives TUN an order for a holder, and passes on what TUN answers. The answer says whether a preset was EMPTY. -/
def giveOrder (h : Holder) (o : Order) (s : State) : Bool × State :=
  let a := orderFor h o s
  (a.1 != .noChannel, answerPassed a.1 a.2)

/-- What TUN answers an order of the RECORD holder: an EMPTY preset is told to TSC (R108). -/
def recordAnswer (a : TuneAnswer) (s : State) : State := reportIf (a == .noChannel) .noChannel (answerPassed a s)

/-- The order of the RECORD holder. -/
def recordOrder (o : Order) (s : State) : State :=
  let a := orderFor .record o s
  recordAnswer a.1 a.2

/-- The preset number of a view channel, 0 for a direct tuning (R92). -/
def Channel.number : Channel → Nat
  | .preset n => n
  | .direct _ _ => 0

/-- VIEW is granted with its order (R92, R104); an EMPTY preset leaves the tuning as it is (R108). -/
def grantView (c : Channel) (s : State) : State :=
  let s := setHolder .view (s.mapTar fun t => { t with view := some c })
  let a := giveOrder .view c.order s
  a.2.mapTun fun t => { t with lastView := c.number }

/-- SCAN is granted, and the scan begins (R93, R105). -/
def grantScan (freq : Nat) (auto : Bool) (s : State) : State :=
  scanBegin freq auto (setHolder .scan (s.mapTar fun t => { t with orderOf := .scan }))

/-- A waiting host request is granted, and its delayed reply becomes ready (R107). -/
def grantHostWait (s : State) : State :=
  match s.tar.hostWait with
  | none => s
  | some (.view c) => replyAccepted .tuned (grantView c (s.mapTar fun t => { t with hostWait := none }))
  | some (.scan f a) => replyAccepted .scan (grantScan f a (s.mapTar fun t => { t with hostWait := none }))

/-- A waiting host request is answered REFUSED TUNER_HELD (R101, R107, R110). -/
def refuseHostWait (s : State) : State :=
  if s.tar.hostWait.isSome then refuse .tunerHeld (s.mapTar fun t => { t with hostWait := none }) else s

/-- SYNC ends with a result: the timers stop, and CLK is told (R101, R104, R107). The holder is the caller's to set. -/
def syncEnds (r : SyncResult) (s : State) : State :=
  report .downTest (report (.syncResult r)
    (s.mapTar fun t => { t with minHold := false, holdLimit := false, lastSync := r }))

/-- SYNC is granted (R106): without a time-source preset it ends at once with NO_CHANNEL (R108). -/
def grantSync (s : State) : State :=
  let s := setHolder .sync (s.mapTar fun t =>
    { t with syncWait := false, waitTimer := false, minHold := true, holdLimit := true })
  let a := giveOrder .sync .sync (deckPowerUp (report .syncGranted s))
  if a.1 then a.2 else grantHostWait (setHolder .none (syncEnds .noChannel a.2))

/-- The tuner becomes free: a waiting SYNC is granted (R106). -/
def tunerFree (s : State) : State :=
  let s := setHolder .none s
  if s.tar.syncWait then grantSync s else s

/-- The scan of a SCAN holder is ended by TAR itself (R97, R105). -/
def tarEndsScan (c : EndCause) (s : State) : State := if s.tun.scan.state = .idle then s else scanEnd c s

/-- What taking RECORD does to the present holder (R101, R103). -/
def recordTakes (s : State) : State :=
  match s.tar.holder with
  | .view => s.mapTar fun t => { t with remembered := true }
  | .sync => refuseHostWait (syncEnds .abandoned s)
  | .scan => tarEndsScan .preempted s
  | .none | .record => s

/-- R101: TSC requests RECORD for a preset. -/
def requestRecord (preset : Nat) (s : State) : State :=
  let s := setHolder .record ((recordTakes s).mapTar fun t => { t with origin := .timer })
  recordOrder (.preset preset) (deckPowerUp s)

/-- R103: a host recording starts. -/
def hostRecordStarts (s : State) : State :=
  let old := s.tar.holder
  let view := s.tar.view
  let s := setHolder .record ((recordTakes s).mapTar fun t => { t with origin := .host })
  let s := deckPowerUp s
  match old, view with
  | .sync, some c => (giveOrder .record c.order s).2
  | .scan, some c => (giveOrder .record c.order s).2
  | _, _ => s

/-- R102: the RECORD grant is released; the remembered view is given back. -/
def releaseRecord (s : State) : State :=
  if s.tar.holder = .record then
    let s := report .downTest s
    match s.tar.remembered, s.tar.view with
    | true, some c => grantView c (s.mapTar fun t => { t with remembered := false })
    | _, _ => tunerFree (s.mapTar fun t => { t with remembered := false })
  else s

/-- R103: a host recording ends. -/
def hostRecordEnds (s : State) : State := if s.tar.origin = .host then releaseRecord s else s

/-! ## Host requests (R104, R105) -/

/-- What VIEW and SCAN meet: granted at once, waiting on SYNC, or refused. -/
def hostRequest (w : HostWait) (endScan : Bool) (grant : State → State) (s : State) : State :=
  match s.tar.holder with
  | .record => refuse .tunerHeld s
  | .sync =>
    if s.tar.minHold then s.mapTar fun t => { t with hostWait := some w } else grant (syncEnds .abandoned s)
  | .scan => grant (if endScan then tarEndsScan .stopped s else s)
  | .none | .view => grant s

/-- R104. -/
def viewRequest (c : Channel) (s : State) : State :=
  hostRequest (.view c) true (fun s => replyAccepted .tuned (grantView c s)) s

/-- R105. -/
def scanRequest (freq : Nat) (auto : Bool) (s : State) : State :=
  hostRequest (.scan freq auto) false (fun s => replyAccepted .scan (grantScan freq auto s)) s

/-- R104, VIEW_END. -/
def viewEnds (s : State) : State :=
  match s.tar.holder with
  | .view => tunerFree s
  | .record => s.mapTar fun t => { t with remembered := false }
  | _ => s

/-- R105: TUN reports the end of a scan. -/
def scanReleases (s : State) : State := if s.tar.holder = .scan then tunerFree s else s

/-! ## SYNC (R106, R107) -/

/-- CLK requests SYNC. -/
def requestSync (s : State) : State :=
  match s.tar.holder with
  | .none => grantSync s
  | .sync => s
  | _ => if s.tar.syncWait then s else s.mapTar fun t => { t with syncWait := true, waitTimer := true }

/-- CLK gives its request up, with RELEASED or WITHDRAWN; CLK takes that result itself (R106, R107). -/
def dropSync (r : SyncResult) (s : State) : State :=
  if s.tar.holder = .sync then
    let s := s.mapTar fun t => { t with minHold := false, holdLimit := false, lastSync := r }
    report .downTest (grantHostWait (setHolder .none s))
  else if s.tar.syncWait then
    s.mapTar fun t => { t with syncWait := false, waitTimer := false, lastSync := r }
  else s

/-- R106: the wait timer expires. -/
def waitLimitReached (s : State) : State :=
  when s.tar.waitTimer
    (fun s => report (.syncResult .waitLimit)
      (s.mapTar fun t => { t with syncWait := false, waitTimer := false, lastSync := .waitLimit })) s

/-- R107: the minimum hold expires. -/
def minimumHoldOver (s : State) : State :=
  when s.tar.minHold
    (fun s =>
      let s := s.mapTar fun t => { t with minHold := false }
      if s.tar.hostWait.isSome then grantHostWait (syncEnds .abandoned s) else s) s

/-- R107: the hold limit expires. -/
def holdLimitOver (s : State) : State :=
  when s.tar.holdLimit (fun s => tunerFree (syncEnds .timeout s)) s

/-! ## Resets and power modes (R109, R110) -/

/-- SYNC holds or waits. -/
def Tar.syncs (t : Tar) : Bool := t.holder == .sync || t.syncWait

/-- SYNC, holding or waiting, is recorded ABANDONED; CLK is told by the caller. -/
def abandonSync (s : State) : State :=
  if s.tar.syncs then s.mapTar fun t => { t with lastSync := .abandoned } else s

/-- Every grant, waiting request and timer ends; the view channel is kept. -/
def tarClear (s : State) : State :=
  setHolder .none (s.mapTar fun t =>
    { t with remembered := false, hostWait := none, syncWait := false, waitTimer := false, minHold := false,
             holdLimit := false })

/-- R109. -/
def tarRestart (s : State) : State :=
  let had := s.tar.syncs
  reportIf had (.syncResult .abandoned) (tarClear (abandonSync (tarEndsScan .stopped s)))

/-- R110, entry to STANDBY. -/
def tarStandby (s : State) : State :=
  let s := s.mapTar fun t => { t with remembered := false }
  match s.tar.holder with
  | .view => tunerFree s
  | .scan => tunerFree (tarEndsScan .stopped s)
  | .sync => refuseHostWait s
  | .none | .record => s

/-- R110, entry to BACKUP. -/
def tarBackup (s : State) : State := tarClear (abandonSync s)

end Sys2Proof.Machine
end

