-- ==== Sys2Proof/Machine/Packets.lean ====
section
/-! DEFINITION. DLD takes a packet (R112 to R119): the checks, the three types, and what each is handed to. Field positions
are those of R205's table. -/

namespace Sys2Proof.Machine

/-- The data bits of a packet's byte. -/
def field (data : List Nat) (i : Nat) : Nat := data.getD i 0

/-- The date and time of a TIME packet, where every digit and field is in range (R114). R205 gives bytes 1 and 2 to the
year's tens and units and names no bits: they are bits 0 to 3, and bits 4 to 6 are not judged (log 59, DESIGN CHOICE). -/
def timeOf (data : List Nat) : Option DateTime :=
  let tens := field data 1 % 16
  let units := field data 2 % 16
  match packetDigits (field data 3) 1, packetDigits (field data 4) 2, packetDigits (field data 5) 2,
      packetDigits (field data 6) 3, packetDigits (field data 7) 3 with
  | some mo, some d, some h, some mi, some sec =>
    let t : DateTime := { year := tens * 10 + units, month := mo, day := d, hour := h, minute := mi, second := sec }
    if tens ≤ 9 ∧ units ≤ 9 ∧ t.valid then some t else none
  | _, _, _, _, _ => none

/-- R115: the flag from a time-source preset. -/
def State.fromTimeSource (s : State) : Bool :=
  let n := s.receivingPreset
  n != 0 && (s.preset n).timeSource

/-- A network code (R205): low 7 bits, then high 5. -/
def networkOf (data : List Nat) : BitVec 12 := BitVec.ofNat 12 (field data 1 + 128 * (field data 2 % 32))

/-- The bytes of a capture record, from the packet's data bits (R205, log 32). -/
def dataBytes (data : List Nat) (first count : Nat) : List Byte := ((data.drop first).take count).map byteOf

/-- R114 and R115: a TIME packet. -/
def takeTime (data : List Nat) (s : State) : State :=
  let off := signed7 (field data 8)
  match timeOf data with
  | none => countBad s
  | some t =>
    if off < -48 ∨ 56 < off then countBad s
    else
      let src := s.fromTimeSource
      let s := report (.timePacket t.instant off (field data 9 % 2 == 1) src) s
      captureOffer .time s.receivingPreset (dataBytes data 1 9 ++ [flagByte src]) s

/-- The statuses in R111's order. -/
def statusOf (n : Nat) : LabelStatus :=
  match n % 4 with
  | 0 => .prepare | 1 => .running | 2 => .brk | _ => .ended

/-- R116: a LABEL packet, handed to TSC and to TUN and offered to capture. -/
def takeLabel (data : List Nat) (s : State) : State :=
  let n := s.receivingPreset
  let key := BitVec.ofNat 20 (field data 3 + 128 * field data 4 + 16384 * (field data 5 % 64))
  let s := report (.label n key (statusOf (field data 6))) s
  captureOffer .label n (dataBytes data 1 6) (learnCode (networkOf data) s)

/-- R114: a character of a NAME packet. -/
def nameChar (n : Nat) : Byte := if n < 0x20 ∨ n = 0x7F then 0x20 else byteOf n

/-- R117 and R118: a NAME packet. -/
def takeName (data : List Nat) (s : State) : State :=
  let code := networkOf data
  let new := ((data.drop 4).take 8).map nameChar
  let was := s.dld.asm
  let s := s.mapDld fun d => d.segment code (field data 3 % 4) new
  if s.dld.asm = .complete ∧ was ≠ .complete then
    let s := learnName code s.dld.chars s
    captureOffer .name s.receivingPreset (dataBytes data 1 2 ++ s.dld.chars) s
  else s

/-- R113 and R114: a packet that arrives while DLD takes one. -/
def takePacket (bytes : List Byte) (s : State) : State :=
  let data := bytes.map dataBits
  if bytes.all oddParity then
    if field data 0 = 0x21 then takeTime data s
    else if field data 0 = 0x22 then takeLabel data s
    else if field data 0 = 0x23 then takeName data s
    else s
  else countBad s

/-- R112: an arrival of 12 bytes, taken only while the tuned record is SIGNAL. -/
def packetArrives (bytes : List Byte) (s : State) : State :=
  when (s.tun.tuned.state == .signal && bytes.length == 12) (takePacket bytes) s

end Sys2Proof.Machine
end

