-- ==== Sys2Proof/Machine/Clock.lean ====
section
/-! DEFINITION. CLK (07): the tick and the steady advance, summer time, settings, and broadcast sync. -/

namespace Sys2Proof.Machine

/-! ## Reports and the visit condition -/

/-- R141: in BACKUP, CLK records that a change occurred (log 47). -/
def clockChanged (s : State) : State := s.mapClk fun c => { c with changed := true }

/-- R129: a clock report is handed to TSC and raises CLOCK. In BACKUP nothing is handed or raised: it is recorded that a
change occurred (R141). -/
def clockReport (kind : ClockKind) (old : ClockState) (size : Int) (s : State) : State :=
  if s.pwr.mode = .backup then clockChanged s
  else
    let new := s.clk.state
    let size := if kind = .resume ∨ old = .unset ∨ new = .unset then none else some size
    report (.clock { kind := kind, old := old, new := new, size := size }) (raise .clock s)

/-- R136: the visit condition. -/
def State.visitDue (s : State) : Bool :=
  s.clk.syncOn && s.clk.srcExists && s.clk.retry.isNone
    && (s.clk.state == .unset || match s.clk.visitAge with
        | none => true
        | some a => decide (360 ≤ a))
    && s.pwr.mode != .backup

/-- R136: the condition is tested, and SYNC is requested. -/
def visitTest (s : State) : State :=
  if s.visitDue && s.clk.request == .none then
    let s := requestSync s
    s.mapClk fun c => { c with request := if s.tar.syncWait then .waiting else .holding }
  else s

/-- A change of the clock state is an input of the condition (R136). -/
def stateMoved (old : ClockState) (s : State) : State := reportIf (s.clk.state != old) .visitTest s

/-- R137: SYNC is granted. -/
def syncGranted (s : State) : State :=
  if s.tar.holder = .sync then s.mapClk fun c => { c with request := .holding } else s

/-- R137: the request is over, with a result. -/
def requestOver (r : SyncResult) (s : State) : State :=
  raise .clock (s.mapClk fun c => { c with request := .none, lastSync := r })

/-- R137: TIMEOUT, NO_CHANNEL, WAIT_LIMIT or ABANDONED: the retry timer starts. -/
def syncFailed (r : SyncResult) (s : State) : State :=
  requestOver r (s.mapClk fun c => { c with retry := some 0 })

/-- R136: CLK withdraws its request. -/
def withdrawRequest (s : State) : State :=
  if s.clk.request = .none then s else requestOver .withdrawn (dropSync .withdrawn s)

/-- R89 and R136: TUN reports whether a time-source preset exists. -/
def sourceReported (b : Bool) (s : State) : State :=
  let s := s.mapClk fun c => { c with srcExists := b }
  visitTest (if b then s else withdrawRequest s)

/-- R136: SYNC_PUT. It raises no CLOCK but for a withdrawal (R137; log 85, DESIGN CHOICE). -/
def setSync (on : Bool) (s : State) : State :=
  let s := s.mapClk fun c => { c with syncOn := on }
  visitTest (if on then s else withdrawRequest s)

/-! ## Summer time (R130, R131) -/

/-- The offset in force from the zone and a summer state (R130). -/
def Clk.offsetOf (c : Clk) (m : Summer) : Int := c.zone + if m = .summer then 4 else 0

/-- Set the summer state and the offset in force; a change of the state raises CLOCK (R129), or in BACKUP is recorded
(R141). -/
def setSummer (m : Summer) (offset : Int) (s : State) : State :=
  let changed := s.clk.summer != m
  let s := s.mapClk fun c => { c with summer := m, offset := offset }
  if changed && s.pwr.mode == .backup then clockChanged s else raiseIf changed .clock s

/-- R131: evaluation of the present reading. -/
def evaluateReading (s : State) : State :=
  match s.clk.source with
  | .broadcast => s
  | .rule =>
    let m := match s.clk.rule with
      | none => Summer.standard
      | some r => r.evalReading s.clk.reading
    setSummer m (s.clk.offsetOf m) s

/-- R131: evaluation of a standard time with the rule, or with no rule. -/
def Clk.evaluateStandard (c : Clk) (t : Int) : Summer × Int :=
  match c.rule with
  | none => (.standard, t)
  | some r => r.evalStandard t

/-! ## The steady advance (R127, R128, R132) -/

/-- R132: what an advance to the next second meets. -/
inductive Transition where
  | none | forward | backward | repeatEnds
  deriving DecidableEq, Repr

/-- R132's three cases, for the instant the advance would reach. -/
def Clk.transition (c : Clk) (next : Nat) : Transition :=
  match c.ruleInForce with
  | Option.none => .none
  | some r =>
    match c.summer with
    | .standard => if next = r.startAt (instantYear next) then .forward else .none
    | .summer => if next = r.endAt (instantYear next) then .backward else .none
    | .repeated => if next = r.endAt (instantYear next) then .repeatEnds else .none

/-- R169: a steady second of a RECORDING occurrence under time control. -/
def remainingSecond (s : State) : State :=
  if s.pwr.mode = .backup then s
  else s.mapTsc fun t =>
    { t with active := t.active.map fun a =>
        if a.state = .recording ∧ a.control = .time then { a with remaining := a.remaining - 1 } else a }

/-- R127: the wrap after 2099. -/
def clockWraps (s : State) : State :=
  let old := s.clk.state
  let s := s.mapClk fun c => { c with now := Clk.reset.now, state := .unset }
  stateMoved old (clockReport .set old 0 (evaluateReading s))

/-- The clock reads an instant. -/
def setReading (i : Nat) (s : State) : State := s.mapClk fun c => { c with now := DateTime.ofInstant i }

/-- R132: the summer state and the offset after a transition; nothing is raised in BACKUP. -/
def summerMoves (m : Summer) (quarters : Int) (s : State) : State :=
  setSummer m (s.clk.offset + quarters) s

/-- R127 and R132: the clock advances by one second. -/
def advanceSecond (s : State) : State :=
  let old := s.clk.now
  let next := old.next
  let s := if old.second = 59 then s.mapClk fun c => { c with prescaler := (512 - 2 * c.trim).toNat } else s
  let s := remainingSecond s
  if 99 < next.year then clockWraps s
  else
    match s.clk.transition next.instant with
    | .none =>
      let s := s.mapClk fun c => { c with now := next }
      if old.hour = 23 ∧ next.hour = 0 then clockReport .midnight s.clk.state 0 s else s
    | .forward =>
      let s := summerMoves .summer 4 (setReading (next.instant + 3600) s)
      clockReport .jump s.clk.state 3600 s
    | .backward =>
      let s := summerMoves .repeated (-4) (setReading (next.instant - 3600) s)
      clockReport .jump s.clk.state (-3600) s
    | .repeatEnds =>
      let s := s.mapClk fun c => { c with now := next }
      setSummer .standard s.clk.offset s

/-- The visit age reaches 360 minutes (R136), where it counts. -/
def visitMinute (s : State) : State :=
  match s.clk.visitAge with
  | none => s
  | some a =>
    let s := s.mapClk fun c => { c with visitAge := some (min 360 (a + 1)) }
    reportIf (a == 359) .visitTest s

/-- The ages and the timer that count ticks (R136, R137, R138). -/
def agesPass (n : Nat) (s : State) : State :=
  let s := s.mapClk fun c =>
    { c with candidate := c.candidate.bind fun k => if 1920 < k.age + n then none else some { k with age := k.age + n } }
  let s :=
    if s.clk.visitAge.isNone then s
    else if s.clk.visitTicks + n < 3840 then s.mapClk fun c => { c with visitTicks := c.visitTicks + n }
    else visitMinute (s.mapClk fun c => { c with visitTicks := c.visitTicks + n - 3840 })
  match s.clk.retry with
  | none => s
  | some e =>
    if e + n < 57600 then s.mapClk fun c => { c with retry := some (e + n) }
    else report .visitTest (s.mapClk fun c => { c with retry := none })

/-- R127: one tick. -/
def clockTicks (s : State) : State :=
  let s := agesPass 1 (s.mapClk fun c => { c with prescaler := 512 })
  if s.clk.sub = 63 then advanceSecond (s.mapClk fun c => { c with sub := 0 })
  else s.mapClk fun c => { c with sub := c.sub + 1 }

/-- The ticks that are left of the present second (log 3). -/
def clockSecond (s : State) : State :=
  let s := agesPass (64 - s.clk.sub) (s.mapClk fun c => { c with prescaler := 512 })
  advanceSecond (s.mapClk fun c => { c with sub := 0 })

/-! ## Settings (R133, R134) -/

/-- R134: SET_TIME. -/
def setTime (d : DateTime) (s : State) : State :=
  let old := s.clk.state
  let was := s.clk.reading
  let s := evaluateReading (s.mapClk fun c => { c with now := d, sub := 0 })
  let s := s.mapClk fun c => { c with state := .manual }
  stateMoved old (raise .clock (clockReport .set old ((d.instant : Int) - was) s))

/-- R133: a BROADCAST clock is brought into line with the zone and the rule. After the evaluation the offset in force is
that of the zone and the summer state, whether the clock is moved or not (R131, log 37). -/
def zoneMoves (oldOffset : Int) (s : State) : State :=
  let was := s.clk.reading
  let std : Int := (was : Int) - oldOffset * 900 + s.clk.zone * 900
  let e := s.clk.evaluateStandard std
  let s := setSummer e.1 (s.clk.offsetOf e.1) s
  if e.2 < 0 ∨ (rangeSeconds : Int) ≤ e.2 then
    let s := s.mapClk fun c => { c with state := .manual }
    stateMoved .broadcast (clockReport .set .broadcast 0 s)
  else
    if e.2 = was then s
    else clockReport .jump .broadcast (e.2 - was) (setReading e.2.toNat s)

/-- R133: ZONE_PUT. -/
def setZone (zone : Int) (source : OffsetSource) (rule : Option SummerRule) (s : State) : State :=
  let oldOffset := s.clk.offset
  let s := s.mapClk fun c => { c with zone := zone, source := source, rule := rule }
  let s := match s.clk.state, source with
    | .broadcast, .rule => zoneMoves oldOffset s
    | _, .rule => evaluateReading s
    | _, .broadcast => s
  raise .clock s

/-! ## Broadcast sync (R138, R139) -/

/-- R139: the visit has concluded. -/
def visitConcluded (s : State) : State :=
  let s := s.mapClk fun c => { c with visitAge := some 0, visitTicks := 0, retry := none }
  match s.clk.request with
  | .holding => requestOver .released (dropSync .released s)
  | .waiting => withdrawRequest s
  | .none => s

/-- R139: the owner's time stands against a broadcast more than 12 hours away (log 22). -/
def syncDisagrees (s : State) : State :=
  let s := visitConcluded (setSticky .syncDisagree s)
  raise .clock (s.mapClk fun c => { c with lastSync := .disagree })

/-- R139: the clock becomes BROADCAST, moved when the reading is more than 1 s away. -/
def applyReading (reading : Nat) (m : Summer) (offset : Int) (s : State) : State :=
  let old := s.clk.state
  let d : Int := (reading : Int) - s.clk.reading
  let moved : Bool := decide (d < -1 ∨ 1 < d)
  let s := if moved then setReading reading (s.mapClk fun c => { c with sub := 0 }) else s
  let s := setSummer m offset (s.mapClk fun c => { c with state := .broadcast })
  let s :=
    if old = .unset then clockReport .set old d s
    else if moved then clockReport .jump old d s
    else raiseIf (old != .broadcast) .clock s
  visitConcluded (stateMoved old s)

/-- R139: a validated time. -/
def validated (utc : Nat) (offset : Int) (summer : Bool) (s : State) : State :=
  let r : Summer × Int × Int := match s.clk.source with
    | .broadcast => (if summer then .summer else .standard, (utc : Int) + offset * 900, offset)
    | .rule =>
      let e := s.clk.evaluateStandard ((utc : Int) + s.clk.zone * 900)
      (e.1, e.2, s.clk.offsetOf e.1)
  let d : Int := r.2.1 - s.clk.reading
  if r.2.1 < 0 ∨ (rangeSeconds : Int) ≤ r.2.1 then s
  else if s.clk.state = .manual ∧ (d < -43200 ∨ 43200 < d) then syncDisagrees s
  else applyReading r.2.1.toNat r.1 r.2.2 s

/-- R138: whether a packet agrees with the candidate. -/
def Candidate.agrees (k : Candidate) (utc : Nat) : Bool :=
  let x : Int := ((utc : Int) - k.utc) * 64 - k.age
  decide (-64 ≤ x ∧ x ≤ 64)

/-- R138: CLK takes a TIME packet. -/
def timePacketTaken (utc : Nat) (offset : Int) (summer fromSource : Bool) (s : State) : State :=
  if !fromSource then s
  else
    let fresh : Candidate := { utc := utc, offset := offset, summer := summer, age := 0 }
    match s.clk.candidate with
    | none => s.mapClk fun c => { c with candidate := some fresh }
    | some k =>
      if k.agrees utc then validated utc offset summer (s.mapClk fun c => { c with candidate := none })
      else s.mapClk fun c => { c with candidate := some fresh }

/-! ## Limits reached at once (log 3) -/

/-- R138: the candidate expires. -/
def candidateExpires (s : State) : State := s.mapClk fun c => { c with candidate := none }

/-- R136: the visit age comes to 360 minutes. -/
def visitAgeReached (s : State) : State :=
  match s.clk.visitAge with
  | none => s
  | some a =>
    if a < 360 then report .visitTest (s.mapClk fun c => { c with visitAge := some 360, visitTicks := 0 }) else s

/-- R137: the retry timer expires. -/
def retryExpires (s : State) : State :=
  when s.clk.retry.isSome (fun s => report .visitTest (s.mapClk fun c => { c with retry := none })) s

/-! ## Resets and power modes (R140, R141) -/

/-- CLK at RESTART and at BACKUP entry: the candidate goes. -/
def clkDropCandidate (s : State) : State := s.mapClk fun c => { c with candidate := none }

/-- R141: the primary supply returns. The RESUME report tells what BACKUP recorded. -/
def clkResume (s : State) : State :=
  report .visitTest (clockReport .resume s.clk.state 0 (s.mapClk fun c => { c with changed := false }))

end Sys2Proof.Machine
end

