-- ==== Sys2Proof/Machine/Plan.lean ====
section
/-! DEFINITION. TSC's plan (08, 09 sections 9.2 and 9.3): the event table, the skip list, drawing, selection, the conflict
pass and the fit pass. -/

namespace Sys2Proof.Machine

/-! ## Slots, entries and instants -/

/-- The event slot of a number from 0 to 15. -/
def State.slot (s : State) (n : Nat) : Slot := (s.tsc.slots[n]?).getD Slot.reset

/-- Change the event slot of a number. -/
def mapSlot (n : Nat) (f : Slot → Slot) (s : State) : State :=
  s.mapTsc fun t => { t with slots := t.slots.setIfInBounds n (f ((t.slots[n]?).getD Slot.reset)) }

/-- The entry is the occurrence of a slot and a date. -/
def PlanEntry.is (e : PlanEntry) (slot date : Nat) : Bool := e.slot == slot && e.date == date

/-- Change the entry of a slot and a date. -/
def mapEntry (slot date : Nat) (f : PlanEntry → PlanEntry) (s : State) : State :=
  s.mapTsc fun t => { t with plan := t.plan.map fun e => if e.is slot date then f e else e }

/-- The entry of a slot and a date. -/
def State.entry (s : State) (slot date : Nat) : Option PlanEntry := s.tsc.plan.find? fun e => e.is slot date

/-- R160: in the second living of the repeated hour, an instant in that hour counts as passed. The model asks this of every
instant that TSC compares, the computed ones too, such as an arming moment (log 63, DESIGN CHOICE). -/
def Clk.livedBefore (c : Clk) (i : Nat) : Bool :=
  c.summer == .repeated && match c.ruleInForce with
    | none => false
    | some r => r.repeats i

/-- The clock has reached an instant (R160). -/
def Clk.reached (c : Clk) (i : Nat) : Bool := decide (i ≤ c.reading) || c.livedBefore i

/-- An instant lies before the clock (R160). -/
def Clk.passed (c : Clk) (i : Nat) : Bool := decide (i < c.reading) || c.livedBefore i

/-- The entry's window is still open (R160). -/
def PlanEntry.open (e : PlanEntry) (c : Clk) : Bool := !c.reached e.windowEnd

/-- Planned and not yet armed. -/
def PlanEntry.waiting (e : PlanEntry) : Bool := e.state == .planned || e.state == .next

/-! ## Drawing (R143, R160, R161) -/

/-- R143: the slot calls for the date. -/
def Slot.callsFor (l : Slot) (date : Nat) : Bool :=
  match l.recurrence with
  | .once => l.once == date
  | .daily => true
  | .weekly | .days => l.days.getLsbD (dayOfWeek date)

/-- R160: an instant from a date and a time in minutes; a time the forward transition skips is placed after it. -/
def Clk.place (c : Clk) (date minutes : Nat) : Nat :=
  let i := instantOf date (minutes * 60)
  match c.ruleInForce with
  | none => i
  | some r => if r.skipped i then r.startAt (instantYear i) + 3600 else i

/-- The occurrence a slot calls for on a date (R143, R144, R160). An instant past the end of 2099, which an occurrence of
2099-12-31 that crosses midnight has, is held as it is (log 65, DESIGN CHOICE). -/
def occurrenceOf (c : Clk) (n : Nat) (l : Slot) (date : Nat) : PlanEntry :=
  let start := c.place date l.start
  let stop := if l.start < l.stop then c.place date l.stop else c.place (date + 1) l.stop
  let overrun := match l.label with
    | some k => k.overrun * 60
    | none => 0
  { slot := n, date := date, control := if l.label.isSome then .label else .time, priority := l.priority,
    pStart := start, pStop := stop, windowEnd := stop + overrun, eStart := start, eStop := stop, grade := .full,
    chained := false, conflict := .clear, fit := .unknown, state := .planned }

/-- R160: the occurrence starts from the reading on within 24 h, or its window contains the reading. -/
def PlanEntry.inHorizon (e : PlanEntry) (c : Clk) : Bool :=
  (!c.passed e.pStart && decide (e.pStart < c.reading + 86400)) || (c.reached e.pStart && e.open c)

/-- R161: the run guard leaves the date out. -/
def Slot.guarded (l : Slot) (date : Nat) : Bool :=
  match l.guard with
  | none => false
  | some g => decide (date ≤ g)

/-- The dates whose occurrences can be drawn: a window lasts less than 28 h. -/
def Clk.nearDates (c : Clk) : List Nat :=
  ((if 2 ≤ c.today then [c.today - 2] else []) ++ (if 1 ≤ c.today then [c.today - 1] else [])
    ++ [c.today, c.today + 1]).filter fun d => decide (d < rangeDays)

/-- R160 and R161: the occurrences drawn from one slot. -/
def drawSlot (s : State) (n : Nat) : List PlanEntry :=
  let l := s.slot n
  if l.state = .armed then
    (((s.clk.nearDates.filter l.callsFor).map (occurrenceOf s.clk n l)).filter fun e => e.inHorizon s.clk).filter fun e =>
      !l.guarded e.date && !s.tsc.skip.contains (n, e.date)
  else []

/-- R161's order as one number: programmed start, priority from high to low, slot. -/
def PlanEntry.key (e : PlanEntry) : Nat := e.pStart * 64 + (3 - e.priority) * 16 + e.slot

/-- An entry takes its place in plan order. -/
def insertEntry (e : PlanEntry) : List PlanEntry → List PlanEntry
  | [] => [e]
  | f :: rest => if e.key ≤ f.key then e :: f :: rest else f :: insertEntry e rest

/-- Plan order. -/
def sortPlan (l : List PlanEntry) : List PlanEntry := l.foldr insertEntry []

/-- The entry of the active occurrence. -/
def State.activeEntry (s : State) : Option PlanEntry := s.tsc.active.bind fun a => s.entry a.slot a.date

/-- The entry is the active one. -/
def State.isActive (s : State) (e : PlanEntry) : Bool :=
  match s.tsc.active with
  | none => false
  | some a => e.is a.slot a.date

/-- R161: drawing and selection. The active entry is always among the 8. -/
def selectPlan (s : State) : List PlanEntry :=
  let fromSlots := if s.clk.state = .unset then [] else (List.range 16).flatMap (drawSlot s)
  let others := fromSlots.filter fun e => !s.isActive e
  let all := sortPlan (others ++ s.activeEntry.toList)
  let kept := all.take 8
  match s.activeEntry with
  | none => kept
  | some a => if kept.any (fun e => e.is a.slot a.date) then kept else sortPlan (kept.take 7 ++ [a])

/-! ## The conflict pass (R162) -/

/-- The entry runs. -/
def PlanEntry.runs (e : PlanEntry) : Bool := e.conflict != .dropped

/-- The running entry whose effective stop is the current end (log 41). -/
def endingLast (l : List PlanEntry) : Option PlanEntry :=
  (l.filter PlanEntry.runs).foldl
    (fun best e => match best with
      | none => some e
      | some b => if b.eStop < e.eStop then some e else some b) none

/-- R162: an entry not active is clamped to the reading. -/
def PlanEntry.clamp (e : PlanEntry) (c : Clk) : PlanEntry :=
  if c.passed e.pStart then { e with eStart := c.reading, eStop := e.pStop, conflict := .lateStart }
  else { e with eStart := e.pStart, eStop := e.pStop, conflict := .clear }

/-- Change one entry of a walked list. -/
def changeEntry (p : PlanEntry) (f : PlanEntry → PlanEntry) (l : List PlanEntry) : List PlanEntry :=
  l.map fun e => if e.is p.slot p.date then f e else e

/-- R162, steps 1 to 3 for one entry, against those walked. The first number bounds how often step 1 is taken again. -/
def conflictStep (active : PlanEntry → Bool) : Nat → PlanEntry → List PlanEntry → List PlanEntry
  | 0, e, walked => walked ++ [e]
  | n + 1, e, walked =>
    match endingLast walked with
    | none => walked ++ [e]
    | some p =>
      if p.eStop ≤ e.eStart then walked ++ [e]
      else if p.priority < e.priority ∧ p.eStart < e.eStart then
        changeEntry p (fun q => { q with eStop := e.eStart, conflict := .trimmedEnd }) walked ++ [e]
      else if p.priority < e.priority ∧ active p = false then
        conflictStep active n e (changeEntry p (fun q => { q with conflict := .dropped }) walked)
      else
        walked ++ [{ e with eStart := p.eStop, conflict := if e.eStop ≤ p.eStop then .dropped else .lateStart }]

/-- R162: the active entry is walked first, then the others in plan order. -/
def conflictPass (s : State) (plan : List PlanEntry) : List PlanEntry :=
  let act := plan.filter s.isActive
  let rest := (plan.filter fun e => !s.isActive e).map fun e => e.clamp s.clk
  sortPlan (rest.foldl (fun walked e => conflictStep s.isActive (walked.length + 1) e walked) act)

/-! ## The fit pass (R163) -/

/-- R163: the need of an entry at a grade. Where the effective stop is not after the later of the reading and the effective start,
as with a label-controlled entry in its overrun, the need is 0 (log 86, DESIGN CHOICE). -/
def PlanEntry.need (e : PlanEntry) (reading : Nat) (g : Grade) : Nat :=
  (e.eStop - max reading e.eStart) * stepsPerSecond g

/-- R163: AUTO resolved against the length left. -/
def autoGrade (length : Option Nat) (need : Grade → Nat) : Grade :=
  match length with
  | none => .half
  | some l => if need .full ≤ l then .full else if need .half ≤ l then .half else .third

/-- R163: the verdict. -/
def fitOf (length : Option Nat) (need : Nat) (g : Grade) : Fit :=
  match length with
  | none => .unknown
  | some l => if need ≤ l then .fits else if l < 10 * stepsPerSecond g then .noTape else .short

/-- A fit verdict by its number in R157's list. -/
def fitOfNumber (n : Fin 4) : Fit := ([Fit.fits, .short, .noTape, .unknown][n.val]?).getD .unknown

/-- What the fit pass carries from entry to entry: the length left, and the running entry before. -/
structure FitWalk where
  length : Option Nat
  before : Option PlanEntry
  deriving DecidableEq, Repr

/-- The entry is chained to the running one before it (R163). -/
def FitWalk.chains (w : FitWalk) (e : PlanEntry) : Bool :=
  match w.before with
  | none => false
  | some b => decide (e.eStart ≤ b.eStop + 60)

/-- The grade to use of an entry that is not DROPPED (R163). -/
def FitWalk.gradeFor (w : FitWalk) (active : Bool) (slotGrade : Option Grade) (reading : Nat) (e : PlanEntry) : Grade :=
  if active then e.grade
  else
    match w.chains e, w.before with
    | true, some b => b.grade
    | _, _ => match slotGrade with
      | some g => g
      | none => autoGrade w.length (e.need reading)

/-- R163 for one entry. A DROPPED entry shows free values (log 9). -/
def fitStep (s : State) (w : FitWalk) (e : PlanEntry) : FitWalk × PlanEntry :=
  if e.runs then
    let act := s.isActive e
    let g := w.gradeFor act (s.slot e.slot).grade s.clk.reading e
    let need := e.need s.clk.reading g
    let e := { e with grade := g, chained := if act then e.chained else w.chains e, fit := fitOf w.length need g }
    ({ length := w.length.map fun l => l - min need l, before := some e }, e)
  else
    (w, { e with grade := Config.droppedGrade s.fresh (e.date * 16 + e.slot),
                 fit := fitOfNumber (Config.droppedFit s.fresh (e.date * 16 + e.slot)),
                 chained := false })

/-- R163 over the plan. -/
def fitWalk (s : State) : FitWalk → List PlanEntry → List PlanEntry
  | _, [] => []
  | w, e :: rest =>
    let r := fitStep s w e
    r.2 :: fitWalk s r.1 rest

/-- R163. -/
def fitPass (s : State) (plan : List PlanEntry) : List PlanEntry := fitWalk s { length := s.tpe.ls, before := none } plan

/-- Drawing, selection and the two passes (R159 steps 1 to 3); the free values are fresh afterwards. A waiting entry whose
window is over is not drawn again, so it leaves the plan without MISSED where another event's rebuild at that reading comes
before WINDOW_END (log 64, DESIGN CHOICE). -/
def drawPlan (s : State) : State :=
  let plan := fitPass s (conflictPass s (selectPlan s))
  { (s.mapTsc fun t => { t with plan := plan }) with fresh := s.fresh + 1 }

/-! ## Arming moments (R164) -/

/-- R164. -/
def PlanEntry.armAt (e : PlanEntry) : Nat :=
  match e.control with
  | .time => e.eStart - 60
  | .label => e.pStart - 600

/-- R164: due to arm. -/
def PlanEntry.due (c : Clk) (e : PlanEntry) : Bool := e.state == .planned && e.runs && c.reached e.armAt

/-! ## The skip list (R154, R155) -/

/-- R154: a pair is added. -/
def addSkip (pair : Nat × Nat) (l : List (Nat × Nat)) : List (Nat × Nat) :=
  if l.contains pair then l else if l.length < 8 then l ++ [pair] else l.drop 1 ++ [pair]

/-- R155: the pairs whose occurrence can no longer run are removed. -/
def expireSkip (today : Nat) (l : List (Nat × Nat)) : List (Nat × Nat) := l.filter fun p => decide (today ≤ p.2 + 1)

end Sys2Proof.Machine
end

