-- ==== Sys2Proof/Machine/Occurrence.lean ====
section
/-! DEFINITION. TSC's occurrences (08 section 8.3, 09): arming, the pre-roll, preemption, time and label control, endings,
hand-over and release, and the clock reports. -/

namespace Sys2Proof.Machine

/-! ## Results (R150 to R152) -/

/-- Outcomes that count as a completion (R152). -/
def OccOutcome.completes : OccOutcome → Bool
  | .complete | .truncated => true
  | _ => false

/-- Outcomes that set OCCURRENCE_FAILED (R152). -/
def OccOutcome.fails : OccOutcome → Bool
  | .complete | .truncated | .cancelled | .stopped => false
  | _ => true

/-- R152: a slot's side records at an ending. -/
def writeResult (slot : Nat) (r : Result) (s : State) : State :=
  let s := mapSlot slot (fun l =>
    { l with result := some r, count := if r.outcome.completes then min 255 (l.count + 1) else l.count }) s
  let s := if r.outcome.fails then setSticky .occurrenceFailed s else s
  raise .occurrence (s.mapTsc fun t => { t with lastEnded := slot })

/-- R150: the slot's history as an occurrence enters ARMING. -/
def Slot.armed (l : Slot) (date : Nat) : Slot :=
  { l with lastRun := some date, guard := match l.guard with
    | none => some date
    | some g => some (max g date) }

/-! ## Changes of the active occurrence -/

/-- Change the active occurrence record. -/
def mapActive (f : Active → Active) (s : State) : State := s.mapTsc fun t => { t with active := t.active.map f }

/-- The occurrence state changes, in the record and in the plan entry; PLAN is raised (R157, R158). -/
def setOccState (st : OccState) (s : State) : State :=
  match s.tsc.active with
  | none => s
  | some a => raise .plan (mapEntry a.slot a.date (fun e => { e with state := st }) (mapActive (fun a => { a with state := st }) s))

/-- Do something with the active occurrence, if there is one. -/
def withActive (f : Active → State → State) (s : State) : State :=
  match s.tsc.active with
  | none => s
  | some a => f a s

/-! ## Arming (R164 to R167) -/

/-- The host controller is using the transport, in the sense of check 6 (R165). -/
def State.hostUses (s : State) : Bool :=
  s.mec.owner == .host && match s.mec.state with
    | .play | .still | .searchFwd | .searchRev | .windFwd | .windRev => true
    | .threaded => !s.mec.spin
    | _ => false

/-- R165's checks in order: the outcome of the first that fails. -/
def armChecks (e : PlanEntry) (s : State) : Option OccOutcome :=
  let l := s.slot e.slot
  if s.mec.state = .fault then some .deckFault
  else if s.mec.state.recordPair ∧ s.mec.owner = .host then some .deckInUse
  else if s.mec.state = .empty ∨ s.mec.state = .ejecting then some .noCassette
  else if s.mec.tab = .absent then some .tabProtected
  else if (s.preset l.preset).used = false then some .noChannel
  else if s.hostUses ∧ l.preempt = false then some .deckInUse
  else none

/-- R167: the shadow context is filled, when it is empty, and the restored context is emptied. -/
def preempt (s : State) : State :=
  s.mapTsc fun t =>
    { t with
      shadow := some (t.shadow.getD
        { state := s.mec.state, counter := s.ctu.value, view := s.tar.view, viewing := s.tar.holder == .view }),
      restored := none }

/-- R166: the pre-roll, with what its step 5 does at TAR. An owner of TIMER means that the deck was handed over (R176). -/
def preRoll (tuner : State → State) (e : PlanEntry) (s : State) : State :=
  let chained := s.mec.owner == .timer
  let grade := if chained && s.mec.state.recordPair then s.mec.grade else e.grade
  let s := mapEntry e.slot e.date (fun x => { x with grade := grade }) (mapActive (fun a => { a with grade := grade }) s)
  let s := if s.hostUses then preempt s else s
  let s := claimTransport (deckPowerUp s)
  let s := if s.pwr.entry = .waitRest then
      raise .power (s.mapPwr fun p => { p with entry := .waitOccurrence })
    else s
  timerTarget .recordPause grade (tuner s)

/-- A new active occurrence record (R158). The remaining seconds, not meaningful before RECORDING, are held as 0 (log 73, DESIGN
CHOICE). -/
def Active.start (e : PlanEntry) : Active :=
  { slot := e.slot, date := e.date, control := e.control, state := .arming, grade := e.grade, transportReady := false,
    tuned := false, signalSeen := false, labelsSeen := false, recorded := false, remaining := 0, run := none,
    doubtful := false, noSignal := false, tested := false }

/-- R165: an entry enters ARMING. A failed check ends it at once, without the pre-roll and its step at TAR. -/
def armEntry (tuner : State → State) (e : PlanEntry) (s : State) : State :=
  let s := mapSlot e.slot (fun l => l.armed e.date) s
  let s := setOccState .arming (s.mapTsc fun t => { t with active := some (Active.start e) })
  match armChecks e s with
  | some o => reportFirst (.occEnd e.slot e.date o) s
  | none => preRoll tuner e s

/-- R164: the due entries. With none active the first arms, and the others become NEXT. -/
def armingTest (s : State) : State :=
  let due := s.tsc.plan.filter (PlanEntry.due s.clk)
  let next : State → State := fun s =>
    raiseIf (!due.isEmpty) .plan (s.mapTsc fun t =>
      { t with plan := t.plan.map fun e => if e.due s.clk then { e with state := .next } else e })
  match due, s.tsc.active with
  | e :: _, none => armEntry (requestRecord (s.slot e.slot).preset) e (next s)
  | _, _ => next s

/-- R162 and R169: the active entry was trimmed. -/
def trimTaken (s : State) : State :=
  match s.tsc.active, s.activeEntry with
  | some a, some e =>
    if e.conflict = .trimmedEnd ∧ a.state = .recording ∧ a.control = .time then
      let left := min a.remaining (e.eStop - s.clk.reading)
      let s := mapActive (fun a => { a with remaining := left }) s
      if left = 0 then reportFirst (.occEnd a.slot a.date .truncated) s else s
    else s
  | _, _ => s

/-- R159: a rebuild. -/
def rebuild (s : State) : State := raise .plan (armingTest (trimTaken (drawPlan s)))

/-! ## Endings (R175 to R178) -/

/-- The outcomes after which nothing is handed over and no context is restored (R175, R177). -/
def OccOutcome.abrupt : OccOutcome → Bool
  | .stopped | .restarted | .powerLoss => true
  | _ => false

/-- R187: at a release in STANDBY the return timer starts, before any power-down test that the release leads to. -/
def startReturn (s : State) : State :=
  if s.pwr.mode = .standby then s.mapPwr fun p => { p with returnTimer := true } else s

/-- R177: the deck is given back, where the occurrence or its chain has claimed it (log 40). -/
def releaseDeck (o : OccOutcome) (s : State) : State :=
  if s.mec.owner = .timer then
    let s := releaseRecord (startReturn s)
    let s := if s.mec.state.recordPair then timerTarget .stop s.mec.grade s else s
    let s := releaseTransport s
    let s := s.mapTsc fun t =>
      { t with restored := if o.abrupt || t.shadow.isNone then t.restored else t.shadow, shadow := none }
    report .released s
  else s

/-- The actual stop of an ending taken in RECORD (log 25). -/
def stopNow (s : State) (r : RunInfo) : RunInfo :=
  if s.mec.state = .record then { r with stop := some s.clk.reading } else r

/-- R175 step 1 and the removal of the ended entry: the active occurrence is over. -/
def closeActive (a : Active) (o : OccOutcome) (s : State) : State :=
  let run := a.run.map (stopNow s)
  let s := writeResult a.slot
    { date := a.date, outcome := o, run := run, doubtful := a.doubtful, noSignal := a.noSignal } s
  s.mapTsc fun t => { t with active := none, plan := t.plan.filter fun e => !e.is a.slot a.date }

/-- R175 step 2: the successor. An UNSET clock has no active occurrence (R161, log 44). -/
def State.successor (s : State) (o : OccOutcome) : Option PlanEntry :=
  if o.abrupt || s.clk.state == .unset then none else s.tsc.plan.find? fun e => e.state == .next && e.open s.clk

/-- R176: the deck is handed to the successor. TAR gives the order for its preset with the grant (R102), and then it enters
ARMING, where it takes what TUN answered. Where the ended occurrence held no grant, the successor requests it. -/
def handOver (e : PlanEntry) (s : State) : State :=
  let s := if s.mec.state = .record ∧ s.mec.owner = .timer then timerTarget .recordPause s.mec.grade s else s
  let preset := (s.slot e.slot).preset
  if s.tar.holder = .record ∧ s.tar.origin = .timer then
    let a := orderFor .record (.preset preset) s
    armEntry (recordAnswer a.1) e a.2
  else armEntry (requestRecord preset) e s

/-- R175: the active occurrence ends. -/
def endActive (o : OccOutcome) (s : State) : State :=
  match s.tsc.active with
  | none => s
  | some a =>
    let s := closeActive a o s
    rebuild (match s.successor o with
      | some e => handOver e s
      | none => releaseDeck o s)

/-- R182: the active occurrence ends at RESTART or at BACKUP entry, whose rebuild is taken elsewhere. -/
def endAbruptly (o : OccOutcome) (s : State) : State :=
  match s.tsc.active with
  | none => s
  | some a => releaseDeck o (closeActive a o s)

/-- An ending decided for one occurrence. -/
def endOccurrence (slot date : Nat) (o : OccOutcome) (s : State) : State :=
  withActive (fun a => if a.slot = slot ∧ a.date = date then endActive o else id) s

/-- End the active occurrence when it is in one of some states (R178). -/
def endWhile (states : List OccState) (o : OccOutcome) (s : State) : State :=
  withActive (fun a => if states.contains a.state then endActive o else id) s

/-- The states of an active occurrence. -/
def activeStates : List OccState := [.arming, .labelWait, .recording, .labelBreak]

/-- R178: MEC refuses or drops a TIMER target. -/
def targetDropped (r : Reason) (s : State) : State :=
  match r with
  | .fault => endWhile activeStates .deckFault s
  | .noCassette => endWhile [.arming] .noCassette s
  | .tabProtected => endWhile [.arming] .tabProtected s
  | _ => s

/-! ## The pre-roll's marks (R166, R171, R174) -/

/-- The pre-roll is complete (R166). -/
def Active.ready (a : Active) : Bool := a.transportReady && a.tuned

/-- A complete pre-roll under label control becomes LABEL_WAIT (R171). -/
def preRollTest (s : State) : State :=
  withActive (fun a => if a.ready && a.state == .arming && a.control == .label then setOccState .labelWait else id) s

/-- RECORD_PAUSE is reached with owner TIMER. -/
def pauseReached (s : State) : State :=
  if s.mec.state = .recordPause ∧ s.mec.owner = .timer then
    preRollTest (mapActive (fun a => if a.state = .arming then { a with transportReady := true } else a) s)
  else s

/-- TAR passes the tuning completion on (R166). -/
def tuningPassed (signal : Bool) (s : State) : State :=
  preRollTest (mapActive (fun a => { a with tuned := true, signalSeen := a.signalSeen || signal }) s)

/-- TUN reports a change of the signal (R166, R174). -/
def signalChanged (signal : Bool) (s : State) : State :=
  mapActive (fun a =>
    if signal then { a with signalSeen := true }
    else if a.state = .recording then { a with noSignal := true }
    else a) s

/-- MEC reports UNSTABLE in RECORD (R174). -/
def markDoubtful (s : State) : State := mapActive (fun a => { a with doubtful := true }) s

/-! ## Recording (R168, R171, R174) -/

/-- R168: the remaining seconds that a RECORD entry sets, the effective stop less the reading. A stop that is not ahead gives 0
(log 75, DEDUCED), and one further ahead than R158's field holds a free value in its range (log 74, DESIGN CHOICE). -/
def State.remainingUntil (s : State) (stop : Nat) : Nat :=
  let left := stop - s.clk.reading
  if left ≤ 86400 then left else (Config.longRemaining s.fresh left).val

/-- MEC enters RECORD for the occurrence. Under label control the remaining seconds are not used and stay as they are (R171,
log 73). The timed mark carries the day of month of the occurrence's date, also where RECORD is entered past midnight (log 69,
DESIGN CHOICE). -/
def recordEntered (s : State) : State :=
  withActive
    (fun a s =>
      let now := s.clk.reading
      let stop := ((s.entry a.slot a.date).map PlanEntry.eStop).getD now
      let left := match a.control with
        | .time => s.remainingUntil stop
        | .label => a.remaining
      let run : RunInfo := match a.run with
        | none => { start := now, stop := none, counter := s.ctu.value, grade := s.mec.grade }
        | some r => { r with grade := s.mec.grade }
      let silent := s.tun.tuned.state == .noSignal
      let mark := !a.recorded && (s.slot a.slot).cue
      let s := mapActive (fun a =>
        { a with recorded := true, run := some run, remaining := left, noSignal := a.noSignal || silent }) s
      let s := setOccState .recording s
      if mark then (requestMark (timedCode a.slot (monthDayOf a.date).2) .timer s).2 else s) s

/-- MEC leaves RECORD (R171, R174). -/
def recordLeft (s : State) : State :=
  mapActive (fun a => { a with run := a.run.map fun r => { r with stop := some s.clk.reading } }) s

/-- R168: a time-controlled occurrence asks for RECORD when all its conditions hold. -/
def timedStart (s : State) : State :=
  withActive
    (fun a s =>
      let start := ((s.entry a.slot a.date).map PlanEntry.eStart).getD 0
      if a.control = .time ∧ a.recorded = false ∧ a.ready ∧ a.signalSeen ∧ s.clk.reached start then
        timerTarget .record a.grade s
      else s) s

/-- R168: no signal until 60 s after the effective start. -/
def signalTimesOut (s : State) : State :=
  withActive
    (fun a s =>
      let start := ((s.entry a.slot a.date).map PlanEntry.eStart).getD 0
      if a.control = .time ∧ a.recorded = false ∧ a.ready ∧ a.signalSeen = false ∧ s.clk.reached (start + 60) then
        endActive .signal s
      else s) s

/-- The outcome of an entry that ran its time (R169). -/
def timeUpOutcome (e : Option PlanEntry) : OccOutcome :=
  match e with
  | some e => if e.conflict = .trimmedEnd then .truncated else .complete
  | none => .complete

/-- R169: the remaining seconds have reached 0. -/
def timeIsUp (s : State) : State :=
  withActive
    (fun a s =>
      if a.control = .time ∧ a.state = .recording ∧ a.remaining = 0 then
        endActive (timeUpOutcome (s.entry a.slot a.date)) s
      else s) s

/-! ## Label control (R170 to R173) -/

/-- R144: the key agrees under the mask. -/
def LabelControl.agrees (k : LabelControl) (key : BitVec 20) : Bool := (key ^^^ k.key) &&& k.mask == 0

/-- R171's table for a matching packet. -/
def labelActs (st : LabelStatus) (a : Active) (s : State) : State :=
  match a.state, st with
  | .labelWait, .running => timerTarget .record a.grade s
  | .labelBreak, .running => timerTarget .record a.grade s
  | .recording, .brk => setOccState .labelBreak (timerTarget .recordPause a.grade s)
  | .recording, .ended => endActive .complete s
  | .labelBreak, .ended => endActive .complete s
  | _, _ => s

/-- R170: TSC takes a LABEL packet. -/
def labelTaken (preset : Nat) (key : BitVec 20) (st : LabelStatus) (s : State) : State :=
  withActive
    (fun a s =>
      let l := s.slot a.slot
      if a.control = .label ∧ preset = l.preset then
        let s := mapActive (fun a => { a with labelsSeen := true }) s
        let matching := match l.label with
          | some k => k.agrees key
          | none => false
        if matching then labelActs st a s else s
      else s) s

/-- R172: the fallback test (log 26). The occurrence state stays as it is (log 61, DESIGN CHOICE), and so do the effective start and
stop: a stop that a JUMP or SET has moved (R169, R180) does not return to the programmed one (log 77, DESIGN CHOICE). -/
def fallbackTest (s : State) : State :=
  withActive
    (fun a s =>
      let start := ((s.entry a.slot a.date).map PlanEntry.pStart).getD 0
      if a.control = .label ∧ a.tested = false ∧ a.tuned ∧ s.clk.reached start then
        if a.labelsSeen then mapActive (fun a => { a with tested := true }) s
        else
          mapEntry a.slot a.date (fun e => { e with control := .time, windowEnd := e.pStop })
            (mapActive (fun a => { a with tested := true, control := .time }) s)
      else s) s

/-- R173: a trimmed label-controlled entry reaches its effective stop. -/
def labelTrimmed (s : State) : State :=
  withActive
    (fun a s =>
      match s.entry a.slot a.date with
      | some e =>
        if a.control = .label ∧ e.conflict = .trimmedEnd ∧ s.clk.reached e.eStop then endActive .truncated s else s
      | none => s) s

/-! ## Windows (R164, R166, R173) -/

/-- The outcome of an active occurrence whose window has closed, if that ends it. -/
def Active.windowOutcome (a : Active) : Option OccOutcome :=
  match a.control with
  | .label => some (if a.recorded then .complete else .missedLabel)
  | .time => if a.recorded then none else some .missed

/-- A waiting entry whose window is over (R164). -/
def PlanEntry.missed (c : Clk) (e : PlanEntry) : Bool := e.waiting && !e.open c

/-- R164: waiting entries whose window is over end MISSED, in plan order (log 60, DESIGN CHOICE). -/
def missEntries (s : State) : State :=
  let closed := s.tsc.plan.filter (PlanEntry.missed s.clk)
  let s := closed.foldl
    (fun s e => writeResult e.slot { date := e.date, outcome := .missed, run := none, doubtful := false, noSignal := false } s) s
  s.mapTsc fun t => { t with plan := t.plan.filter fun e => !e.missed s.clk }

/-- The clock reaches a window end by its steady advance. Where one moment finds both, the waiting entries whose windows are over
end first, the plan is rebuilt, and then the active occurrence's window is looked at (log 76, DESIGN CHOICE). -/
def windowsClose (s : State) : State :=
  let any := s.tsc.plan.any (PlanEntry.missed s.clk)
  let s := if any then rebuild (missEntries s) else s
  withActive
    (fun a s =>
      match s.entry a.slot a.date with
      | some e =>
        if e.open s.clk then s
        else
          match a.windowOutcome with
          | some o => endActive o s
          | none => s
      | none => s) s

/-! ## Clock reports (R155, R180) -/

/-- R180 step 3: the active entry's effective stop moves with the clock (R169). -/
def stopMoves (size : Int) (s : State) : State :=
  withActive (fun a => mapEntry a.slot a.date fun e => { e with eStop := ((e.eStop : Int) + size).toNat }) s

/-- R180. -/
def clockReported (r : ClockReport) (s : State) : State :=
  let unset := s.clk.state == .unset
  let s := if unset then s else s.mapTsc fun t => { t with skip := expireSkip s.clk.today t.skip }
  let s := if unset then s else missEntries s
  let s := match r.kind, r.size with
    | .jump, some d => stopMoves d s
    | .set, some d => stopMoves d s
    | _, _ => s
  if unset && s.tsc.active.isSome then endActive .missed s else rebuild s

end Sys2Proof.Machine
end

