-- ==== Sys2Proof/Machine/Power.lean ====
section
/-! DEFINITION. PWR (10): going to standby, the power-down test, waking, the primary supply, power-on reset, and the part
every block plays in RESTART (R203). -/

namespace Sys2Proof.Machine

/-- A change of the power mode or of the entry state raises POWER (R183). -/
def setPower (f : Pwr → Pwr) (s : State) : State :=
  let t := s.mapPwr f
  raiseIf (t.pwr.mode != s.pwr.mode || t.pwr.entry != s.pwr.entry) .power t

/-- The receiver is stopped, or starts in HUNT (R202). -/
def rxReset (s : State) : State := s.mapLnk fun l => { l with rx := Rx.reset }

/-! ## Standby (R185, R186) -/

/-- R186: CLK's test of step 4 is taken before the power-down test of step 5. The wake detector watches with the filter
now stored (R188). -/
def enterStandby (s : State) : State :=
  let s := setPower (fun p => { p with mode := .standby, entry := .none, lastCause := .standbyEntered }) s
  let s := captureEmpty (tarStandby s)
  let s := rxReset (s.mapPwr fun p => { p with link := .asleep, detector := some p.filter })
  reportFirst .visitTest (reportFirst .downTest s)

/-- R185: with no occurrence active, standby is entered at rest, or MEC is asked to rest. -/
def standbyFrom (s : State) : State :=
  if s.atRest then enterStandby s
  else restRequest (setPower (fun p => { p with entry := .waitRest }) s)

/-! ## The power-down test (R187) -/

/-- Condition A, but for the power mode. -/
def State.deckUnused (s : State) : Bool :=
  s.tsc.active.isNone && s.tar.holder != .sync && s.tar.holder != .record && s.atRest

/-- Condition B fails: an arming moment lies within the next 5 min. -/
def State.armsSoon (s : State) : Bool :=
  s.tsc.plan.any fun e =>
    e.waiting && decide (s.clk.reading ≤ e.armAt) && decide (e.armAt ≤ s.clk.reading + 300)

/-- The deck domains are powered down: MEC's timers stop, and TUN and DLD lose what they hold (R187). -/
def deckPowerDown (s : State) : State :=
  let s := s.mapPwr fun p => { p with deckUp := false, returnTimer := false }
  tunerPowerDown (s.mapMec fun m => { m with motionTimer := none, idle := false, spin := false, stall := false })

/-- The test itself. -/
def testPowerDown (s : State) : State :=
  if s.pwr.mode = .standby ∧ s.pwr.deckUp ∧ s.deckUnused then
    if s.armsSoon then s.mapPwr fun p => { p with returnTimer := true } else deckPowerDown s
  else s

/-- The test at any event but the return timer's expiry. -/
def downTest (s : State) : State := if s.pwr.returnTimer then s else testPowerDown s

/-- The return timer expires. -/
def returnTimerExpires (s : State) : State :=
  when s.pwr.returnTimer (fun s => testPowerDown (s.mapPwr fun p => { p with returnTimer := false })) s

/-- MEC reports rest (R26, R185, R187): standby is entered, with its own power-down test, or the test is made. -/
def restReported (s : State) : State :=
  if s.atRest then
    if s.pwr.entry = .waitRest ∧ s.pwr.mode = .on ∧ s.tsc.active.isNone then enterStandby s else downTest s
  else s

/-- An occurrence was released (R185, R187). -/
def occurrenceReleased (s : State) : State :=
  if s.tsc.active.isSome ∨ s.mec.owner = .timer then s
  else
    match s.pwr.mode with
    | .on => if s.pwr.entry = .waitOccurrence then standbyFrom s else s
    | .standby =>
      let s := if s.atRest then s else restRequest s
      s.mapPwr fun p => { p with returnTimer := true }
    | .backup => s

/-! ## Waking (R188, R189) -/

/-- R189: every entry to ON. The wake detector stops watching, but for an insertion, after which the wake event that races
with it still counts (log 28). -/
def enterOn (cause : PowerCause) (s : State) : State :=
  let s := setPower (fun p =>
    { p with mode := .on, entry := .none, lastCause := cause, returnTimer := false,
             detector := if cause = .cassette then p.detector else none }) s
  report .visitTest (deckPowerUp s)

/-- The wake detector watches, and its filter lets the signal through (R188). -/
def Pwr.wakes (p : Pwr) (sig : WakeSignal) : Bool :=
  match p.detector, sig with
  | none, _ => false
  | some _, .breakLow => true
  | some f, .edge => !f

/-- R188: a wake event; after an insertion, in ON, it still enters WAKING (R189, log 28). It is the detector's last. -/
def wakes (sig : WakeSignal) (s : State) : State :=
  when (s.pwr.mode != .backup && s.pwr.wakes sig)
    (fun s =>
      let s := if s.pwr.mode = .standby then enterOn .awake s else s
      rxReset (s.mapPwr fun p => { p with link := .waking, detector := none })) s

/-- R188: the receive line has been idle for 5 ms. -/
def lineIdle (s : State) : State :=
  when (s.pwr.link == .waking && s.pwr.mode == .on)
    (fun s => raise .power (rxReset (s.mapPwr fun p => { p with link := .awake }))) s

/-- R4 and R189: the cassette switch changes from absent to present. -/
def cassetteArrives (tab : Bool) (s : State) : State :=
  when (!s.pins.cassette)
    (fun s =>
      let s := s.mapPins fun p => { p with cassette := true, tab := tab }
      let s := if s.pwr.mode = .standby then
          let s := enterOn .cassette s
          rxReset (s.mapPwr fun p => { p with link := .awake })
        else s
      when (s.deckPowered && s.mec.state == .empty) startLoading s) s

/-- R4: the cassette switch changes from present to absent. -/
def cassetteGoes (s : State) : State :=
  let s := s.mapPins fun p => { p with cassette := false }
  when s.deckPowered cassetteLeaves s

/-! ## The primary supply (R28, R190, R191) -/

/-- MEC's record while it has no power (R28, log 19): what is kept, and the rest as after power-on reset. -/
def Mec.unpowered (m : Mec) : Mec :=
  { Mec.reset with grade := m.grade, speed := m.speed, endAction := m.endAction }

/-- TSC at BACKUP entry (R182). -/
def tscBackup (s : State) : State :=
  let s := match s.tsc.active with
    | none => s
    | some a => closeActive a .powerLoss s
  s.mapTsc fun t => { t with shadow := none }

/-- LNK at BACKUP entry (R202). -/
def lnkBackup (s : State) : State :=
  rxReset (s.mapLnk fun l => { l with buffer := none, reply := none, parts := [], line := none })

/-- CLK at BACKUP entry (R141): TAR has ended a SYNC request, and the candidate goes. -/
def clkBackup (synced : Bool) (s : State) : State :=
  clkDropCandidate (if synced then syncFailed .abandoned s else s)

/-- R190. What the blocks' endings raise is raised before the mode is BACKUP, in which nothing is. -/
def supplyLoss (s : State) : State :=
  when (s.pwr.mode != .backup)
    (fun s =>
      let moving := s.mec.state.movesTape
      let synced := s.tar.syncs
      let s := tscBackup s
      let s := tpeBackup moving (ctuBackup moving s)
      let s := srvRestart (drumStop s)
      let s := tunerPowerDown (tarBackup (s.mapMec Mec.unpowered))
      let s := raise .power (lnkBackup (clkBackup synced s))
      s.mapPwr fun p =>
        { p with supply := .lost, mode := .backup, entry := .none, link := .asleep, deckUp := false, returnTimer := false,
                 detector := none, supplyTimer := false, lastCause := .supplyLost }) s

/-- R191: the monitor reports the supply present. -/
def supplyAppears (s : State) : State :=
  when (s.pwr.mode == .backup && s.pwr.supply == .lost)
    (fun s => s.mapPwr fun p => { p with supply := .returning, supplyTimer := true }) s

/-- R191: the monitor reports the supply absent while RETURNING. -/
def supplyFails (s : State) : State :=
  when (s.pwr.mode == .backup && s.pwr.supply == .returning)
    (fun s => s.mapPwr fun p => { p with supply := .lost, supplyTimer := false }) s

/-- R28 and R191: the return is taken. MEC is in RECOVERY, a new transport state, before CLK reports the return, and
RECOVERY runs from the switches after TSC has taken the RESUME report. -/
def supplyReturns (s : State) : State :=
  when (s.pwr.mode == .backup && s.pwr.supply == .returning && s.pwr.supplyTimer)
    (fun s =>
      let s := s.mapPwr fun p =>
        { p with supply := .present, supplyTimer := false, mode := .standby, lastCause := .supplyReturn, link := .asleep,
                 detector := some p.filter, deckUp := true }
      let s := raise .deck (raise .power s)
      let s := s.mapMec fun m => { m with reportCause := .none, tab := .unknown }
      report .recover (clkResume (recoveryClear false s))) s

/-! ## Resets (R192, R203) -/

/-- R192: a power-on reset, with what the switches and sensors then read. The queue of commands and the counter of the free
values are the model's own and go on (log 11). -/
def powerOn (p : Pins) (s : State) : State :=
  let s := { State.reset with pins := p, pending := s.pending, fresh := s.fresh }
  enterRecovery false false s

/-- RESTART in the other blocks (R25, R58, R78, R98, R109, R125, R140, R182, R192; their order is log 20). -/
def restartBlocks (s : State) : State :=
  let fromEjecting := s.mec.state == .ejecting
  let s := ctuRestart (tarRestart s)
  let s := endAbruptly .restarted s
  let s := enterRecovery false fromEjecting (s.mapMec fun m => { m with reportCause := .none })
  let s := clkDropCandidate (retuned (tpeRestart (srvRestart s)))
  report .rebuild (enterOn .restart s)

end Sys2Proof.Machine
end

