-- ==== Sys2Proof/Machine/Layout.lean ====
section
/-! DEFINITION. The bodies of replies and notices (R205), each formed from the state as it stands when its frame begins
(R196, R197). A byte that has no meaning because its presence flag is 0 is a free value (00 section 2.4, log 8). -/

namespace Sys2Proof.Machine

/-! ## Fields -/

/-- A number in some bytes, least significant first. -/
def bytesOf (count n : Nat) : List Byte := (List.range count).map fun i => byteOf (n / 256 ^ i)

/-- A signed number in four bytes. -/
def signed32 (i : Int) : List Byte := bytes32 (BitVec.ofInt 32 i)

/-- Bytes without meaning: `place` tells those of one message apart. -/
def State.noBytes (s : State) (place count : Nat) : List Byte :=
  (List.range count).map fun i => Config.absentByte s.fresh (place + i)

/-- An optional field: its presence flag and its bytes. -/
def optional {α : Type} (s : State) (place count : Nat) (f : α → List Byte) : Option α → List Byte
  | some a => 1 :: f a
  | none => 0 :: s.noBytes place count

/-- A date as three BCD bytes. -/
def dateBytes (date : Nat) : List Byte :=
  let md := monthDayOf date
  [toBcd (yearOf date), toBcd md.1, toBcd md.2]

/-- A date and time as six BCD bytes. -/
def dateTimeBytes (d : DateTime) : List Byte :=
  [toBcd d.year, toBcd d.month, toBcd d.day, toBcd d.hour, toBcd d.minute, toBcd d.second]

/-- An instant as six BCD bytes. One past the end of 2099 shows the two lower digits of its year (log 65, DESIGN CHOICE). -/
def instantBytes (i : Nat) : List Byte := dateTimeBytes (DateTime.ofInstant i)

/-- A time of day in minutes as two BCD bytes. -/
def hhmmBytes (m : Nat) : List Byte := [toBcd (m / 60), toBcd (m % 60)]

/-- A view channel: kind, preset, frequency and fine offset, the preset's byte at `place`. What its kind does not have, frequency
and fine offset of a preset and the preset of a direct frequency, are free bytes (log 78, DESIGN CHOICE). -/
def channelBytes (s : State) (place : Nat) : Channel → List Byte
  | .preset n => [0, byteOf n] ++ s.noBytes (place + 1) 3
  | .direct f fine => [1] ++ s.noBytes place 1 ++ bytesOf 2 f ++ [signedByte fine]

/-! ## Status (R205) -/

/-- The status record. -/
def statusBody (s : State) : List Byte :=
  [conditionByte s, byteOf s.pwr.mode.code, s.lnk.sticky, (s.lnk.reported).setWidth 8, byteOf s.lnk.errors]
    ++ bytes16 (s.lnk.mask.setWidth 16)

/-! ## DECK_GET's groups -/

/-- A pending target's four bytes. -/
def pendingBytes (p : PendingTarget) : List Byte :=
  [byteOf p.target.code, byteOf p.speed.code, byteOf (gradeCode p.grade), byteOf p.origin.code]

/-- The transport group; the DECK notice. -/
def transportGroup (s : State) : List Byte :=
  [byteOf s.mec.state.code, byteOf s.mec.owner.code] ++ optional s 2 4 pendingBytes s.mec.pending
    ++ [byteOf s.mec.tab.code, byteOf (gradeCode s.mec.grade), byteOf s.mec.speed.code, byteOf s.mec.endAction.code,
      byteOf s.mec.faultCause.code, byteOf s.mec.reportCause.code, byteOf s.mec.reportCause.reasonCode]

/-- The servo group; the SERVO notice. -/
def servoGroup (s : State) : List Byte :=
  [byteOf s.srv.quality.code, byteOf s.srv.err, byteOf s.srv.mode.code, signedByte s.srv.offset,
    byteOf (detectedCode s.srv.detected), byteOf (gradeCode s.srv.basis)]

/-- The counter group. -/
def counterGroup (s : State) : List Byte :=
  signed32 s.ctu.value ++ [byteOf s.ctu.source.code,
    byteOf ((if s.ctu.begun then 1 else 0) + if s.ctu.uncertain then 2 else 0)]

/-- The match group. -/
def matchGroup (s : State) : List Byte :=
  signed32 s.ctu.mValue ++ [byteOf s.ctu.mAction.code, flagByte s.ctu.mArmed, byteOf s.ctu.mSide.code]

/-- The cue group; the CUE notice. The code bytes of a kind without a code are free bytes (log 79, DESIGN CHOICE). -/
def cueGroup (s : State) : List Byte :=
  [byteOf s.ctu.cue.kind.code]
    ++ (match s.ctu.cue.code with
      | some c => bytesOf 2 c
      | none => s.noBytes 34 2)
    ++ signed32 s.ctu.cue.counter

/-- Two reported flags as one byte. -/
def twoFlags (a b : Bool) : Byte := byteOf ((if a then 1 else 0) + if b then 2 else 0)

/-- The DECK_GET body. -/
def deckBody (s : State) : List Byte :=
  transportGroup s ++ servoGroup s ++ counterGroup s ++ matchGroup s ++ cueGroup s
    ++ [byteOf s.ctu.seek.state.code, twoFlags (s.reportedSet .counterMatched) (s.reportedSet .cueFound)]

/-- The DECK_GO body. Its last two bytes are the search speed and then the record grade, as R205's row lists them, though the
transport group has the grade first (log 84, DESIGN CHOICE). -/
def deckGoBody (s : State) : List Byte :=
  [byteOf s.mec.state.code] ++ optional s 1 4 pendingBytes s.mec.pending
    ++ [byteOf (match s.mec.pending with
        | some p => if p.target.isSearch then p.speed.code else s.mec.speed.code
        | none => s.mec.speed.code), byteOf (gradeCode s.mec.grade)]

/-! ## TAPE_GET (R76) -/

/-- A reel's status and C. -/
def reelBytes (s : State) (place : Nat) (r : ReelRec) : List Byte :=
  [byteOf r.status.code] ++ optional s place 2 (bytesOf 2) r.c

/-- The remaining times, the current grade and minutes. -/
def remainingBytes (s : State) (l : Nat) : List Byte :=
  bytesOf 2 (l / stepsPerSecond .full) ++ bytesOf 2 (l / stepsPerSecond .half) ++ bytesOf 2 (l / stepsPerSecond .third)
    ++ [byteOf (gradeCode s.currentGrade)] ++ bytesOf 2 (l / stepsPerSecond s.currentGrade / 60)

/-- The TAPE_GET body; the TAPE notice. -/
def tapeBody (s : State) : List Byte :=
  let t := s.tpe
  [byteOf t.profile.code] ++ bytesOf 4 t.k ++ optional s 6 3 (bytesOf 3) t.lt ++ [byteOf t.mismatch]
    ++ reelBytes s 12 t.supply ++ reelBytes s 16 t.takeup ++ optional s 19 3 (bytesOf 3) t.ls ++ [byteOf t.method.code]
    ++ (match t.ls with
      | some l => remainingBytes s l
      | none => s.noBytes 23 9)
    ++ [twoFlags (s.reportedSet .tapeLow) (s.reportedSet .tapeCritical)]

/-! ## Tuner -/

/-- The tuned record group. -/
def tunedGroup (s : State) : List Byte :=
  let t := s.tun.tuned
  [byteOf t.source.code, byteOf t.preset] ++ bytesOf 2 t.freq ++ [signedByte t.fine, byteOf (bandCode t.band)]
    ++ bytesOf 2 t.divider ++ [byteOf t.state.code, byteOf t.disagree]

/-- The scan record group. -/
def scanGroup (s : State) : List Byte :=
  let c := s.tun.scan
  [byteOf c.state.code] ++ bytesOf 2 c.start ++ bytesOf 2 c.pos ++ bytesOf 2 c.finePos
    ++ [flagByte c.wrapped, flagByte c.auto, byteOf c.found, byteOf c.stored] ++ optional s 24 2 (bytesOf 2) c.last
    ++ [byteOf c.cause.code]

/-- The grant record without its timers. -/
def grantGroup (s : State) : List Byte :=
  let t := s.tar
  [byteOf t.holder.code, byteOf t.origin.code] ++ optional s 30 5 (channelBytes s 31) t.view
    ++ [flagByte t.remembered, byteOf (hostWaitCode t.hostWait), flagByte t.syncWait, byteOf t.lastSync.code]

/-- The tuner body (R82). -/
def tunerBody (s : State) : List Byte :=
  tunedGroup s ++ [byteOf s.tun.afc.code, byteOf s.tun.lastView] ++ scanGroup s ++ grantGroup s

/-- A name of at most five characters, padded with spaces. -/
def namePadded (l : List Byte) : List Byte := (l ++ List.replicate 5 0x20).take 5

/-- The preset entry body. -/
def presetBody (n : Nat) (s : State) : List Byte :=
  let p := s.preset n
  [byteOf n, flagByte p.used] ++ bytesOf 2 p.freq
    ++ [signedByte p.fine, flagByte p.skip, flagByte p.timeSource, byteOf p.name.length]
    ++ namePadded p.name ++ optional s 14 2 (fun c => bytes16 (c.setWidth 16)) p.network

/-! ## Decoder, clock, power -/

/-- The decoder body (R111, R124). -/
def decoderBody (s : State) : List Byte :=
  let d := s.dld
  let held := (if d.front.isSome then 1 else 0) + if d.back.isSome then 1 else 0
  [byteOf d.bad, d.sel.setWidth 8, byteOf held, byteOf d.count, byteOf d.asm.code]
    ++ optional s 6 2 (fun c => bytes16 (c.setWidth 16)) d.asmCode ++ d.chars ++ [d.segs.setWidth 8]

/-- A packet type's code (R205). -/
def PacketType.code : PacketType → Byte
  | .time => 0x21 | .label => 0x22 | .name => 0x23

/-- A capture record; the PACKET notice. -/
def captureBody (c : Capture) : List Byte := [c.type.code, byteOf c.count, byteOf c.preset] ++ c.data

/-- A summer rule's six bytes. -/
def ruleBytes (r : SummerRule) : List Byte :=
  [byteOf r.startMonth, byteOf r.startWeek, byteOf r.startHour, byteOf r.endMonth, byteOf r.endWeek, byteOf r.endHour]

/-- The candidate without its age. -/
def candidateBytes (k : Candidate) : List Byte := instantBytes k.utc ++ [signedByte k.offset, flagByte k.summer]

/-- The clock body. -/
def clockBody (s : State) : List Byte :=
  let c := s.clk
  [byteOf c.state.code] ++ dateTimeBytes c.now
    ++ [byteOf c.sub, byteOf (dayOfWeek c.today), signedByte c.trim, signedByte c.zone, byteOf c.source.code]
    ++ optional s 13 6 ruleBytes c.rule
    ++ [byteOf c.summer.code, signedByte c.offset, flagByte c.syncOn, flagByte c.srcExists, byteOf c.request.code]
    ++ optional s 25 8 candidateBytes c.candidate ++ optional s 34 2 (bytesOf 2) c.visitAge
    ++ [byteOf c.lastSync.code, flagByte (s.stickySet .syncDisagree)]

/-- The power record without its timers: UP and ON stand first in their lists (R183). -/
def powerBody (s : State) : List Byte :=
  let p := s.pwr
  [byteOf p.mode.code, byteOf p.entry.code, byteOf p.link.code, flagByte (!p.deckUp), flagByte (!p.filter),
    byteOf p.supply.code, byteOf p.lastCause.code]

/-! ## Slots, results, plan -/

/-- A slot's label control, from the key on. -/
def labelBytes (k : LabelControl) : List Byte :=
  bytes24 (k.key.setWidth 24) ++ bytes24 (k.mask.setWidth 24) ++ [1, byteOf k.overrun]

/-- The event slot body; the overrun presence flag reads 1 (R205). -/
def slotBytes (n : Nat) (s : State) : List Byte :=
  let l := s.slot n
  [byteOf n, byteOf l.recurrence.code] ++ dateBytes l.once ++ [l.days.setWidth 8] ++ hhmmBytes l.start ++ hhmmBytes l.stop
    ++ [byteOf l.preset, byteOf (slotGradeCode l.grade), byteOf l.priority, flagByte l.preempt, flagByte l.cue]
    ++ (match l.label with
      | some k => 1 :: labelBytes k
      | none => 0 :: (s.noBytes 17 6 ++ [1] ++ s.noBytes 24 1))

/-- The EVENT_GET body (R149). -/
def slotBody (n : Nat) (s : State) : List Byte :=
  let l := s.slot n
  let skips := (s.tsc.skip.filter fun p => p.1 == n).map Prod.snd
  let active := match s.tsc.active with
    | some a => a.slot == n
    | none => false
  [byteOf l.state.code] ++ slotBytes n s ++ [byteOf l.count] ++ optional s 27 3 dateBytes l.lastRun
    ++ optional s 31 3 dateBytes l.guard ++ [flagByte l.result.isSome, byteOf skips.length] ++ skips.flatMap dateBytes
    ++ [flagByte active]

/-- The fields of a result that are present together. The stop of an occurrence that is still in its first RECORD has free
bytes (log 62, DESIGN CHOICE). -/
def runBytes (s : State) (place : Nat) (r : RunInfo) : List Byte :=
  instantBytes r.start
    ++ (match r.stop with
      | some i => instantBytes i
      | none => s.noBytes (place + 6) 6)
    ++ signed32 r.counter ++ [byteOf (gradeCode r.grade)]

/-- A result record after its presence flag. -/
def resultBytes (s : State) (place : Nat) (r : Result) : List Byte :=
  dateBytes r.date ++ [byteOf r.outcome.code] ++ optional s (place + 5) 17 (runBytes s (place + 5)) r.run
    ++ [twoFlags r.doubtful r.noSignal]

/-- The RESULT_GET body (R153). -/
def resultBody (n : Nat) (s : State) : List Byte :=
  [byteOf n, byteOf (s.slot n).count] ++ optional s 3 23 (resultBytes s 3) (s.slot n).result

/-- The OCCURRENCE notice (R152). -/
def occurrenceBody (s : State) : List Byte :=
  [byteOf s.tsc.lastEnded] ++ optional s 2 23 (resultBytes s 2) (s.slot s.tsc.lastEnded).result

/-- A plan entry body. -/
def entryBody (e : PlanEntry) : List Byte :=
  [byteOf e.slot] ++ dateBytes e.date
    ++ [byteOf (e.control.code + (if e.chained then 2 else 0) + 4 * e.priority), byteOf e.state.code,
      byteOf e.conflict.code, byteOf e.fit.code, byteOf (gradeCode e.grade)]
    ++ instantBytes e.pStart ++ instantBytes e.pStop ++ instantBytes e.eStart ++ instantBytes e.eStop

/-- The PLAN notice (R157). -/
def planNoticeBody (s : State) : List Byte :=
  [byteOf s.tsc.plan.length] ++ match s.tsc.plan with
    | e :: _ => entryBody e
    | [] => []

/-- The flags byte of the active occurrence record. -/
def activeFlags (a : Active) : Byte :=
  let bit (n : Nat) (b : Bool) : Nat := if b then 2 ^ n else 0
  byteOf (bit 0 a.transportReady + bit 1 a.tuned + bit 2 a.signalSeen + bit 3 a.labelsSeen + bit 4 a.recorded
    + bit 5 a.doubtful + bit 6 a.noSignal)

/-- The remaining seconds shown: free while they are not meaningful (R158; log 73, DESIGN CHOICE). -/
def State.remainingShown (s : State) (a : Active) : Nat :=
  if a.control = .time ∧ a.state = .recording then a.remaining else (Config.idleRemaining s.fresh).val

/-- The active occurrence record (R158). -/
def activeBytes (s : State) (a : Active) : List Byte :=
  [byteOf a.slot] ++ dateBytes a.date
    ++ [byteOf a.control.code, byteOf a.state.code, byteOf (gradeCode a.grade), activeFlags a]
    ++ bytesOf 3 (s.remainingShown a) ++ optional s 13 17 (runBytes s 13) a.run

/-- A shadow context (R167). -/
def shadowBytes (s : State) (place : Nat) (c : Shadow) : List Byte :=
  [byteOf c.state.code] ++ signed32 c.counter ++ optional s (place + 6) 5 (channelBytes s (place + 7)) c.view
    ++ [flagByte c.viewing]

/-- The parts of a PLAN_GET reply (R196, R205): OK, the part number and the part count come first in each. -/
def planParts (s : State) : List (List Byte) :=
  let first := dateTimeBytes s.clk.now ++ [byteOf s.tsc.plan.length, byteOf s.tsc.skip.length]
    ++ s.tsc.skip.flatMap (fun p => byteOf p.1 :: dateBytes p.2)
  let last := optional s 3 29 (activeBytes s) s.tsc.active ++ optional s 34 12 (shadowBytes s 34) s.tsc.shadow
    ++ optional s 47 12 (shadowBytes s 47) s.tsc.restored
  let bodies := [first] ++ s.tsc.plan.map entryBody ++ [last]
  (bodies.zipIdx).map fun b => [0, byteOf b.2, byteOf bodies.length] ++ b.1

/-! ## Replies and notices -/

/-- R43: the host's mark waits. The buffer holds one CUE_WRITE, so a waiting request of the host is the one answered
(log 27). -/
def Ctu.hostWaits (c : Ctu) : Bool :=
  match c.waiting with
  | some (_, .host) => true
  | _ => false

/-- R179: the outcome a NOT_FOUND carries, of the slot's result when that has the date asked for. -/
def State.pastOutcome (s : State) (slot date : Nat) : Option OccOutcome :=
  match (s.slot slot).result with
  | some r => if r.date = date then some r.outcome else none
  | none => none

/-- What an OK or ACCEPTED reply carries after its result byte. PLAN_GET's parts stand in `planParts`. -/
def replyBody (s : State) : ReplyBody → List Byte
  | .empty => []
  | .status => statusBody s
  | .mask => bytes16 (s.lnk.mask.setWidth 16)
  | .power => powerBody s
  | .deckGet => deckBody s
  | .counter => counterGroup s
  | .matchRec => matchGroup s
  | .cueWrite => [flagByte s.ctu.hostWaits]
  | .tape => tapeBody s
  | .preset n => presetBody n s
  | .tuner => tunerBody s
  | .tuned => tunedGroup s
  | .scan => scanGroup s
  | .decoder => decoderBody s
  | .clock => clockBody s
  | .slot n => slotBody n s
  | .plan => []
  | .result n => resultBody n s
  | .cancel r n d =>
    [byteOf r.code] ++ optional s 2 1 (fun o => [byteOf o.code]) (if r = .notFound then s.pastOutcome n d else none)

/-- R11: the states STOP rests in when it is taken in a state; RECOVERY settles in one of two (R24). -/
def TState.stopRests : TState → List TState
  | .empty | .ejecting => [.empty]
  | .loading | .unthreaded | .unthreading | .windFwd | .windRev => [.unthreaded]
  | .threading | .threaded | .play | .still | .searchFwd | .searchRev | .record | .recordPause => [.threaded]
  | .recovery => [.empty, .unthreaded]
  | .fault => []

/-- R8: the target of a DECK_GO taken in a state is reached. A THREADED with a spin-up in progress is no rest. -/
def State.targetMet (s : State) (takenIn : TState) : Target → Bool
  | .stop => takenIn.stopRests.contains s.mec.state && !(s.mec.state == .threaded && s.mec.spin)
  | .unthread => s.mec.state == .unthreaded || (s.mec.state == .empty && takenIn == .empty)
  | .eject => s.mec.state == .empty
  | t => s.mec.state == t.stateOf

/-- The result byte and body of a reply (R8, R195). -/
def replyBytes (kind : Byte) (s : State) : Reply → List Byte
  | .ok b => 0 :: replyBody s b
  | .accepted b => 1 :: replyBody s b
  | .deckGo t from' => (if s.targetMet from' t then 0 else 1) :: deckGoBody s
  | .refused r n => [2, byteOf r.code, byteOf n]
  | .malformed => [3]
  | .unknownKind => [4, kind]

/-- A reply's kind (R195): the request's plus 0x80, and 0xFF for UNKNOWN_KIND. -/
def replyKind (kind : Byte) : Reply → Byte
  | .unknownKind => 0xFF
  | _ => kind + 0x80

/-- The notice classes in the order of their codes. -/
def notices : List Notice :=
  [.deck, .counter, .cue, .tape, .servo, .tuner, .packet, .clock, .plan, .occurrence, .power, .link]

/-- A notice's code (R197). -/
def Notice.code (n : Notice) : Byte := byteOf (0x40 + n.bit)

/-- A notice's body (R197). -/
def noticeBody (s : State) : Notice → List Byte
  | .deck => transportGroup s
  | .counter => counterGroup s ++ matchGroup s
  | .cue => cueGroup s
  | .tape => tapeBody s
  | .servo => servoGroup s
  | .tuner => tunerBody s ++ [byteOf s.tun.lastChanged]
  | .packet => match s.dld.front with
    | some c => captureBody c
    | none => []
  | .clock => clockBody s
  | .plan => planNoticeBody s
  | .occurrence => occurrenceBody s
  | .power => powerBody s
  | .link => statusBody s

end Sys2Proof.Machine
end

