-- ==== Sys2Proof/Machine/Requests.lean ====
section
/-! DEFINITION. What each host request does once it is in the request buffer (R195): its checks in their order, its effect,
its reply. Enumerated fields are read by the place of a value in its owning rule's list (R205). -/

namespace Sys2Proof.Machine

/-- The first field whose check fails, in the order given. -/
def firstBad (checks : List (Nat × Bool)) : Option Nat := (checks.find? fun c => c.2).map Prod.fst

/-- Refuse with FIELD_RANGE and the first field that fails, or go on. -/
def checked (checks : List (Nat × Bool)) (act : State → State) (s : State) : State :=
  match firstBad checks with
  | some n => refuseField n s
  | none => act s

/-- A field is above its last value. -/
def above (last : Nat) (b : Byte) : Bool := decide (last < b.toNat)

/-- A field lies outside a range. -/
def outside (low high n : Nat) : Bool := decide (n < low) || decide (high < n)

/-! ## Status, notices, restart (R198, R200, R201, R203) -/

/-- STATUS_GET. -/
def reqStatusGet (s : State) : State := replyOk .status s

/-- STATUS_CLEAR: every position of the first byte names a flag. -/
def reqStatusClear (sticky reported : Byte) (s : State) : State :=
  checked [(2, decide (32 ≤ reported.toNat))]
    (fun s =>
      let s := clearReported (reported.setWidth 4) s
      replyOk .status (s.mapLnk fun l =>
        { l with sticky := l.sticky &&& ~~~sticky, errors := if reported.getLsbD 4 then 0 else l.errors })) s

/-- NOTICE_MASK. -/
def reqNoticeMask (mask : BitVec 16) (s : State) : State :=
  checked [(1, decide (4096 ≤ mask.toNat))]
    (fun s =>
      let m := mask.setWidth 12
      let closes := s.lnk.mask.getLsbD Notice.packet.bit && !m.getLsbD Notice.packet.bit
      let s := s.mapLnk fun l => { l with mask := m, notices := l.notices &&& m }
      replyOk .mask (if closes then captureEmpty s else s)) s

/-- RESTART: LNK clears its flags first. -/
def reqRestart (s : State) : State :=
  replyOk .status (restartBlocks (s.mapLnk fun l => { l with sticky := 0, reported := 0 }))

/-! ## Power (R185, R188) -/

/-- STANDBY with action ENTER. -/
def reqStandbyEnter (s : State) : State :=
  if s.mec.state.recordPair ∧ s.mec.owner = .host then refuse .busyRecording s
  else if s.pwr.entry ≠ .none then replyAccepted .power s
  else if s.tsc.active.isSome then
    replyAccepted .power (setPower (fun p => { p with entry := .waitOccurrence }) s)
  else if s.atRest then enterStandby (replyOk .power s)
  else standbyFrom (replyAccepted .power s)

/-- STANDBY with action CANCEL. -/
def reqStandbyCancel (s : State) : State := replyOk .power (setPower (fun p => { p with entry := .none }) s)

/-- WAKE_SET: ON is 0. -/
def reqWakeSet (filter : Byte) (s : State) : State :=
  checked [(1, above 1 filter)]
    (fun s => replyOk .power (s.mapPwr fun p => { p with filter := filter == 0 })) s

/-! ## Transport (R8, R9) -/

/-- R9's checks in order. -/
def deckGoRefusal (t : Target) (s : State) : Option Reason :=
  let st := s.mec.state
  if st = .fault ∧ t ≠ .eject then some .fault
  else if t = .eject ∧ (st = .record ∨ s.tsc.active.isSome) then some .busyRecording
  else if s.mec.owner = .timer ∧ t ≠ .stop then some .busyTimer
  else if (st = .empty ∨ st = .ejecting) ∧ ¬(t = .stop ∨ t = .unthread ∨ t = .eject) then some .noCassette
  else if st = .empty ∧ t = .eject then some .noCassette
  else if t.isRecord ∧ s.mec.tab = .absent then some .tabProtected
  else none

/-- The end action field: KEEP, STOP, REWIND. -/
def takeEndAction (e : Byte) (s : State) : State :=
  if e = 1 then s.mapMec fun m => { m with endAction := .stop }
  else if e = 2 then s.mapMec fun m => { m with endAction := .rewind }
  else s

/-- A DECK_GO that passed every check (R8, R36, R57): in RECORD and RECORD_PAUSE the grade in use is kept (R14). -/
def deckGoTaken (t : Target) (multiplier : Byte) (grade : Grade) (tracking : Byte) (offset : Byte) (endAction : Byte)
    (s : State) : State :=
  let timed := s.mec.owner == .timer
  let from' := s.mec.state
  let s := endSeek .abandoned (takeEndAction endAction s)
  let s := trackingTake (if tracking = 0 then .auto else .fixed) offset.toInt s
  let g := if s.mec.state.recordPair then s.mec.grade else grade
  let s := hostTarget t (speedOf multiplier.toNat) g s
  reply (.deckGo t from') (reportIf (t == .stop && timed) .hostStop s)

/-- DECK_GO. Where several fields are out of range, the refusal names the lowest (log 50, DESIGN CHOICE). -/
def reqDeckGo (target multiplier grade tracking offset endAction : Byte) (s : State) : State :=
  match pick targets target, pick grades grade with
  | none, _ => refuseField 1 s
  | some _, none => refuseField 3 s
  | some t, some g =>
    checked [(4, above 1 tracking), (6, above 2 endAction)]
      (fun s =>
        match deckGoRefusal t s with
        | some r => refuse r s
        | none => deckGoTaken t multiplier g tracking offset endAction s) s

/-- DECK_GET. -/
def reqDeckGet (s : State) : State := replyOk .deckGet s

/-! ## Counter, match, cue (R43, R52, R53, R55) -/

/-- A counter value as a request carries it, clamped. -/
def counterValue (v : BitVec 32) : Int := clampInt counterMin counterMax v.toInt

/-- COUNTER_SET. In a CALIBRATED wind whose L_s is absent there is no present L_s to take: no wind reference is left, and
later values of L_s do not move the counter in that wind (log 49, DESIGN CHOICE). -/
def reqCounterSet (mode : Byte) (value : BitVec 32) (s : State) : State :=
  checked [(1, above 1 mode)]
    (fun s =>
      let winding := s.mec.state.isWind && s.tpe.profile == .calibrated
      let s := s.mapCtu fun c =>
        { c with value := if mode = 0 then 0 else counterValue value, acc := 0, begun := false, uncertain := false,
                 windRef := if winding then s.tpe.ls.map Int.ofNat else c.windRef }
      replyOk .counter (raise .counter (setSide s))) s

/-- MATCH_SET with DISARM. -/
def reqMatchDisarm (s : State) : State := replyOk .matchRec (disarmMatch s)

/-- The match actions in R53's order. -/
def matchActions : List MatchAction := [.notify, .stop, .stopThenPlay]

/-- MATCH_SET. -/
def reqMatchSet (action : Byte) (value : BitVec 32) (s : State) : State :=
  match pick matchActions action with
  | some a =>
    replyOk .matchRec
      (setSide (s.mapCtu fun c => { c with mValue := counterValue value, mAction := a, mArmed := true }))
  | none => if action = 3 then reqMatchDisarm s else refuseField 1 s

/-- CUE_SEEK's pattern and fields, read (R55). -/
structure SeekRequest where
  dir     : Dir
  limit   : Nat
  endPlay : Bool
  kind    : Option CueClass
  slot    : Option Nat
  day     : Option Nat
  range   : Option (Nat × Nat)
  deriving DecidableEq, Repr

/-- R55: the seek is stored and MEC asked for the search, or it runs at once. -/
def seekTaken (r : SeekRequest) (s : State) : State :=
  let s := endSeek .abandoned s
  let want : TState := match r.dir with | .fwd => .searchFwd | .rev => .searchRev
  let target : Target := match r.dir with | .fwd => .searchFwd | .rev => .searchRev
  let st : SeekState := if s.mec.state = want then .running else .waiting
  let s := s.mapCtu fun c =>
    { c with seek :=
        { state := st, kind := r.kind, slot := r.slot, day := r.day, range := r.range, dir := r.dir, limit := r.limit,
          passed := 0, endPlay := r.endPlay } }
  replyAccepted .empty (hostTarget target .x15 s.mec.grade s)

/-- R55's checks after the fields. -/
def seekRefusal (s : State) : Option Reason :=
  if s.mec.state = .fault then some .fault
  else if s.mec.owner = .timer then some .busyTimer
  else if s.mec.state = .empty ∨ s.mec.state = .ejecting then some .noCassette
  else none

/-- CUE_SEEK. Where several of R55's FIELD_RANGE causes hold, the refusal names the lowest field (log 50, DESIGN CHOICE). -/
def reqCueSeek (direction limit endMode kindP kind slotP slot dayP day rangeP : Byte) (low high : BitVec 16)
    (s : State) : State :=
  let kp := flagOf s.fresh 4 kindP
  let sp := flagOf s.fresh 5 slotP
  let dp := flagOf s.fresh 6 dayP
  let rp := flagOf s.fresh 7 rangeP
  let host := kp && kind == 0
  let timed := kp && kind == 1
  checked
    [(1, above 1 direction), (3, above 1 endMode), (4, kp && above 1 kind), (5, sp && (above 15 slot || host)),
     (6, dp && (outside 1 31 day.toNat || host)),
     (7, rp && (decide (high.toNat < low.toNat) || decide (32767 < high.toNat) || timed))]
    (fun s =>
      match seekRefusal s with
      | some r => refuse r s
      | none =>
        seekTaken
          { dir := if direction = 0 then .fwd else .rev, limit := limit.toNat, endPlay := endMode == 1,
            kind := if kp then some (if kind = 0 then .host else .timed) else none,
            slot := if sp then some slot.toNat else none, day := if dp then some day.toNat else none,
            range := if rp then some (low.toNat, high.toNat) else none } s) s

/-- CUE_WRITE (R43). A code above 32767 is refused before the transport state is looked at (log 81, DESIGN CHOICE). -/
def reqCueWrite (code : BitVec 16) (s : State) : State :=
  checked [(1, decide (32767 < code.toNat))]
    (fun s =>
      if s.mec.state = .empty ∨ s.mec.state = .ejecting then refuse .noCassette s
      else if s.mec.state ≠ .record then refuse .notThreaded s
      else
        let a := requestMark code.toNat .host s
        match a.1 with
        | .writing | .waits => replyAccepted .cueWrite a.2
        | .full => refuse .cueBusy a.2) s

/-- TAPE_GET. -/
def reqTapeGet (s : State) : State := replyOk .tape s

/-! ## Tuner (R80 to R82, R92, R93, R104, R124) -/

/-- A fine offset as a request carries it, clamped. -/
def fineValue (b : Byte) : Int := clampInt (-16) 15 b.toInt

/-- TUNE: PRESET, DIRECT, NEXT, PREVIOUS. -/
def reqTune (mode number : Byte) (freq : BitVec 16) (fine : Byte) (s : State) : State :=
  if mode = 0 then
    checked [(2, outside 1 99 number.toNat || !(s.preset number.toNat).used)] (viewRequest (.preset number.toNat)) s
  else if mode = 1 then
    checked [(3, outside 900 17240 freq.toNat)] (viewRequest (.direct freq.toNat (fineValue fine))) s
  else if mode = 2 ∨ mode = 3 then
    match s.stepPreset (mode = 2) with
    | some n => viewRequest (.preset n) s
    | none => refuseField 1 s
  else refuseField 1 s

/-- A printable character (00 section 2.4). -/
def printable (b : Byte) : Bool := decide (0x20 ≤ b.toNat) && decide (b.toNat ≤ 0x7E)

/-- PRESET_PUT with WRITE. -/
def reqPresetWrite (number : Byte) (freq : BitVec 16) (fine skip timeSource : Byte) (name : List Byte) (s : State) : State :=
  checked
    [(1, outside 1 99 number.toNat), (3, outside 900 17240 freq.toNat), (7, decide (16 < name.length)),
     (8, !(name.take 5).all printable)]
    (fun s =>
      let n := number.toNat
      let old := s.preset n
      let p : Preset :=
        { used := true, freq := freq.toNat, fine := fineValue fine, skip := flagOf s.fresh 5 skip,
          timeSource := flagOf s.fresh 6 timeSource, name := name.take 5,
          network := if old.used ∧ old.freq = freq.toNat then old.network else none }
      replyOk (.preset n) (tableChange (setPreset n p) s)) s

/-- PRESET_PUT with STORE_FINE. -/
def reqPresetStoreFine (number : Byte) (s : State) : State :=
  let n := number.toNat
  let t := s.tun.tuned
  let takes := t.source == .preset && t.preset == n && (s.preset n).used
    && (t.state == .signal || t.state == .noSignal)
  checked [(1, outside 1 99 n || !takes)]
    (fun s => replyOk (.preset n) (setPreset n { s.preset n with fine := clampInt (-16) 15 t.fine } s)) s

/-- PRESET_PUT with ERASE. -/
def reqPresetErase (number : Byte) (s : State) : State :=
  checked [(1, outside 1 99 number.toNat)]
    (fun s => replyOk (.preset number.toNat) (tableChange (setPreset number.toNat Preset.empty) s)) s

/-- PRESET_GET. -/
def reqPresetGet (number : Byte) (s : State) : State :=
  checked [(1, above 99 number)] (replyOk (if number = 0 then .tuner else .preset number.toNat)) s

/-- SCAN with START. -/
def reqScanStart (freq : BitVec 16) (autoStore : Byte) (s : State) : State :=
  checked [(2, outside 900 17240 freq.toNat)] (scanRequest freq.toNat (flagOf s.fresh 3 autoStore)) s

/-- SCAN with CONTINUE (log 43). -/
def reqScanContinue (s : State) : State :=
  checked [(1, s.tun.scan.state != .paused)] (fun s => replyAccepted .scan (scanResume s)) s

/-- SCAN with STOP. -/
def reqScanStop (s : State) : State :=
  replyOk .scan (if s.tun.scan.state = .idle then s else report .scanEnded (scanEnd .stopped s))

/-- VIEW_END. -/
def reqViewEnd (s : State) : State := replyOk .empty (viewEnds s)

/-- CAPTURE_SET. With both fields out of range the refusal names field 1 (log 50, DESIGN CHOICE). -/
def reqCaptureSet (selection action : Byte) (s : State) : State :=
  checked [(1, above 7 selection), (2, above 1 action)]
    (fun s => replyOk .decoder (s.mapDld fun d =>
      { d with sel := selection.setWidth 3, bad := if action = 1 then 0 else d.bad })) s

/-! ## Clock (R133 to R136) -/

/-- A BCD byte outside a range, or no BCD byte. -/
def bcdOutside (low high : Nat) (b : Byte) : Bool :=
  match bcd b with
  | some n => outside low high n
  | none => true

/-- A BCD byte's value, where it has been checked. -/
def bcdValue (b : Byte) : Nat := (bcd b).getD 0

/-- CLOCK_PUT with SET_TIME. -/
def reqSetTime (year month day hours minutes seconds : Byte) (s : State) : State :=
  let d : DateTime :=
    { year := bcdValue year, month := bcdValue month, day := bcdValue day, hour := bcdValue hours,
      minute := bcdValue minutes, second := bcdValue seconds }
  let skips := match s.clk.ruleInForce with
    | none => false
    | some r => r.skipped (instantOf d.date (d.hour * 3600))
  checked
    [(2, bcdOutside 0 99 year), (3, bcdOutside 1 12 month), (4, bcdOutside 1 (monthLength d.year d.month) day),
     (5, bcdOutside 0 23 hours || skips), (6, bcdOutside 0 59 minutes), (7, bcdOutside 0 59 seconds)]
    (fun s => replyOk .clock (setTime d s)) s

/-- CLOCK_PUT with SET_TRIM (R134). It raises no CLOCK (log 85, DESIGN CHOICE). -/
def reqSetTrim (trim : Byte) (s : State) : State :=
  replyOk .clock (s.mapClk fun c => { c with trim := clampInt (-63) 63 trim.toInt })

/-- CLOCK_GET. -/
def reqClockGet (s : State) : State := replyOk .clock s

/-- ZONE_PUT. Where several of R133's FIELD_RANGE causes hold, the refusal names the lowest field (log 50, DESIGN CHOICE). -/
def reqZonePut (zone source ruleP startMonth startWeek startHour endMonth endWeek endHour : Byte) (s : State) : State :=
  let rp := ruleP == 1
  let z := zone.toInt
  checked
    [(1, decide (z < -48) || decide (56 < z)), (2, above 1 source), (3, above 1 ruleP),
     (4, rp && outside 1 12 startMonth.toNat), (5, rp && outside 1 5 startWeek.toNat), (6, rp && outside 1 22 startHour.toNat),
     (7, rp && (outside 1 12 endMonth.toNat || endMonth == startMonth)), (8, rp && outside 1 5 endWeek.toNat),
     (9, rp && outside 1 23 endHour.toNat)]
    (fun s =>
      let rule : Option SummerRule :=
        if rp then
          some { startMonth := startMonth.toNat, startWeek := startWeek.toNat, startHour := startHour.toNat,
                 endMonth := endMonth.toNat, endWeek := endWeek.toNat, endHour := endHour.toNat }
        else none
      replyOk .clock (setZone z (if source = 0 then .rule else .broadcast) rule s)) s

/-- SYNC_PUT: ENABLE is 0. -/
def reqSyncPut (setting : Byte) (s : State) : State :=
  checked [(1, above 1 setting)] (fun s => replyOk .clock (setSync (setting = 0) s)) s

/-! ## Timer (R145 to R149, R153, R157, R179) -/

/-- The slot has an active occurrence. -/
def State.slotBusy (s : State) (n : Nat) : Bool :=
  match s.tsc.active with
  | none => false
  | some a => a.slot == n

/-- Three BCD bytes are no valid date. -/
def badDate (y m d : Byte) : Bool :=
  bcdOutside 0 99 y || bcdOutside 1 12 m || bcdOutside 1 (monthLength (bcdValue y) (bcdValue m)) d

/-- Three BCD bytes as a date. -/
def dateValue (y m d : Byte) : Nat := dateOf (bcdValue y) (bcdValue m) (bcdValue d)

/-- The recurrences in R142's order. -/
def recurrences : List Recurrence := [.once, .daily, .weekly, .days]

/-- The day set is read. -/
def Recurrence.readsDays : Recurrence → Bool
  | .weekly | .days => true
  | _ => false

/-- R145, field 4. -/
def badDays (r : Recurrence) (days : Byte) : Bool :=
  days.getLsbD 7 || match r with
    | .weekly => onesOf days != 1
    | .days => days == 0
    | _ => false

/-- R146: the programme is written into the slot. -/
def programmeTaken (n : Nat) (p : Slot) (s : State) : State :=
  replyOk (.slot n) (rebuild (mapSlot n (fun l =>
    { p with state := if l.state = .empty then .armed else l.state, count := l.count, lastRun := l.lastRun,
             guard := l.guard, result := l.result }) s))

/-- R145, checks 4 and 5. -/
def onceChecks (once : Bool) (date : Nat) (act : State → State) (s : State) : State :=
  if once ∧ s.clk.state = .unset then refuse .clockUnset s
  else if once ∧ date < s.clk.today then refuseField 3 s
  else act s

/-- EVENT_PUT with a recurrence of its list. -/
def eventTaken (n : Nat) (r : Recurrence)
    (year month day days startH startM stopH stopM preset grade priority preempt cue labelP : Byte)
    (key mask : BitVec 24) (overrunP overrun : Byte) (s : State) : State :=
  let once := r == .once
  let lp := flagOf s.fresh 12 labelP
  let start := bcdValue startH * 60 + bcdValue startM
  let stop := bcdValue stopH * 60 + bcdValue stopM
  let date := dateValue year month day
  checked
    [(3, once && badDate year month day), (4, r.readsDays && badDays r days),
     (5, bcdOutside 0 23 startH || bcdOutside 0 59 startM),
     (6, bcdOutside 0 23 stopH || bcdOutside 0 59 stopM || stop == start), (7, outside 1 99 preset.toNat),
     (8, above 3 grade), (9, above 3 priority), (13, lp && decide (1048575 < key.toNat)),
     (14, lp && decide (1048575 < mask.toNat))]
    (onceChecks once date (fun s =>
      let label : Option LabelControl :=
        if lp then
          some { key := key.setWidth 20, mask := mask.setWidth 20,
                 overrun := if flagOf s.fresh 15 overrunP then min 240 overrun.toNat else 60 }
        else none
      programmeTaken n
        { Slot.reset with
          recurrence := r, once := if once then date else 0, days := if r.readsDays then days.setWidth 7 else 0,
          start := start, stop := stop, preset := preset.toNat, grade := (pick slotGrades grade).getD none,
          priority := priority.toNat, preempt := flagOf s.fresh 10 preempt, cue := flagOf s.fresh 11 cue,
          label := label } s)) s

/-- EVENT_PUT. -/
def reqEventPut (slot recurrence year month day days startH startM stopH stopM preset grade priority preempt cue
    labelP : Byte) (key mask : BitVec 24) (overrunP overrun : Byte) (s : State) : State :=
  if above 15 slot then refuseField 1 s
  else if s.slotBusy slot.toNat then refuse .slotBusy s
  else
    match pick recurrences recurrence with
    | none => refuseField 2 s
    | some r =>
      eventTaken slot.toNat r year month day days startH startM stopH stopM preset grade priority preempt cue labelP key
        mask overrunP overrun s

/-- EVENT_GET. -/
def reqEventGet (slot : Byte) (s : State) : State := checked [(1, above 15 slot)] (replyOk (.slot slot.toNat)) s

/-- EVENT_STATE with ARM. -/
def reqEventArm (slot : Byte) (s : State) : State :=
  let n := slot.toNat
  checked [(1, above 15 slot || (s.slot n).state == .empty)]
    (fun s => replyOk (.slot n)
      (if (s.slot n).state = .held then rebuild (mapSlot n (fun l => { l with state := .armed }) s) else s)) s

/-- EVENT_STATE with HOLD. -/
def reqEventHold (slot : Byte) (s : State) : State :=
  let n := slot.toNat
  checked [(1, above 15 slot || (s.slot n).state == .empty)]
    (fun s =>
      if (s.slot n).state = .held then replyOk (.slot n) s
      else if s.slotBusy n then refuse .slotBusy s
      else replyOk (.slot n) (rebuild (mapSlot n (fun l => { l with state := .held }) s))) s

/-- R148: the slot is erased. -/
def eraseSlot (n : Nat) (s : State) : State :=
  let s := mapSlot n (fun l => { Slot.reset with guard := l.guard }) s
  rebuild (s.mapTsc fun t => { t with skip := t.skip.filter fun p => p.1 != n })

/-- EVENT_STATE with ERASE. -/
def reqEventErase (slot : Byte) (s : State) : State :=
  let n := slot.toNat
  checked [(1, above 15 slot)]
    (fun s =>
      if (s.slot n).state = .empty then replyOk (.slot n) s
      else if s.slotBusy n then refuse .slotBusy s
      else replyOk (.slot n) (eraseSlot n s)) s

/-- PLAN_GET. -/
def reqPlanGet (s : State) : State := replyOk .plan s

/-- R179: a waiting entry is removed, with a pair in the skip list. -/
def cancelEntry (slot date : Nat) (s : State) : State :=
  rebuild (s.mapTsc fun t =>
    { t with plan := t.plan.filter (fun e => !e.is slot date), skip := addSkip (slot, date) t.skip })

/-- R179's table. -/
def cancelTaken (slot date : Nat) (s : State) : State :=
  match s.entry slot date with
  | some e =>
    if s.isActive e then
      if e.state = .arming then replyOk (.cancel .cancelled slot date) (endActive .cancelled s)
      else replyOk (.cancel .tooLate slot date) s
    else replyOk (.cancel .cancelled slot date) (cancelEntry slot date s)
  | none => replyOk (.cancel .notFound slot date) s

/-- CANCEL. With both fields out of range the refusal names field 1 (log 50, DESIGN CHOICE). -/
def reqCancel (slot year month day : Byte) (s : State) : State :=
  checked [(1, above 15 slot), (2, badDate year month day)] (cancelTaken slot.toNat (dateValue year month day)) s

/-- RESULT_GET. -/
def reqResultGet (slot : Byte) (s : State) : State := checked [(1, above 15 slot)] (replyOk (.result slot.toNat)) s

/-! ## All of them -/

/-- The owning block's part of a request (R195). The rows that are no request do nothing here. -/
def request : Instr → State → State
  | .statusGet => reqStatusGet
  | .statusClear a b => reqStatusClear a b
  | .noticeMask m => reqNoticeMask m
  | .restart => reqRestart
  | .standbyEnter => reqStandbyEnter
  | .standbyCancel => reqStandbyCancel
  | .wakeSet f => reqWakeSet f
  | .deckGo t m g k o e => reqDeckGo t m g k o e
  | .deckGoStop m g k o e => reqDeckGo 0 m g k o e
  | .deckGet => reqDeckGet
  | .counterSet m v => reqCounterSet m v
  | .matchSet a v => reqMatchSet a v
  | .matchSetDisarm => reqMatchDisarm
  | .cueSeek dir lim em kp k sp n dp d rp l h => reqCueSeek dir lim em kp k sp n dp d rp l h
  | .cueWrite c => reqCueWrite c
  | .tapeGet => reqTapeGet
  | .tune m n f fine => reqTune m n f fine
  | .presetPutWrite n f fine skip src name => reqPresetWrite n f fine skip src name
  | .presetPutStoreFine n => reqPresetStoreFine n
  | .presetPutErase n => reqPresetErase n
  | .presetGet n => reqPresetGet n
  | .scanStart f auto => reqScanStart f auto
  | .scanContinue => reqScanContinue
  | .scanStop => reqScanStop
  | .viewEnd => reqViewEnd
  | .captureSet sel a => reqCaptureSet sel a
  | .clockPutSetTime y mo d h mi s => reqSetTime y mo d h mi s
  | .clockPutSetTrim t => reqSetTrim t
  | .clockGet => reqClockGet
  | .zonePut z src rp sm sw sh em ew eh => reqZonePut z src rp sm sw sh em ew eh
  | .syncPut b => reqSyncPut b
  | .eventPut n r y mo d days sh sm eh em pre gr prio pt cue lp key mask op ov =>
    reqEventPut n r y mo d days sh sm eh em pre gr prio pt cue lp key mask op ov
  | .eventGet n => reqEventGet n
  | .eventStateArm n => reqEventArm n
  | .eventStateHold n => reqEventHold n
  | .eventStateErase n => reqEventErase n
  | .planGet => reqPlanGet
  | .cancel n y m d => reqCancel n y m d
  | .resultGet n => reqResultGet n
  | _ => id

end Sys2Proof.Machine
end

