-- ==== Sys2Proof/Machine/Link.lean ====
section
/-! DEFINITION. LNK (11): the receiver, the test of a complete frame, the reports between blocks and who takes each, and the
transmit arbiter. `settled` is how every command ends. -/

namespace Sys2Proof.Machine

/-- The link works both ways: AWAKE in ON (R202). -/
def State.linkAwake (s : State) : Bool := s.pwr.link == .awake && s.pwr.mode == .on

/-! ## The receiver (R193) -/

/-- Change the receiver. -/
def setRx (r : Rx) (s : State) : State := s.mapLnk fun l => { l with rx := r }

/-- A framing error, an abandonment or a line error: the frame in progress is lost and counted. -/
def rxError (s : State) : State := setRx Rx.reset (linkError .linkFraming s)

/-- R193's table: a byte is received. -/
def rxByte (b : Byte) (s : State) : State :=
  let r := s.lnk.rx
  match r.state with
  | .hunt => if b = 0xC3 then setRx { r with state := .length } s else s
  | .length =>
    if 1 ≤ b.toNat ∧ b.toNat ≤ 64 then setRx { state := .body, len := b.toNat, held := [] } s else rxError s
  | .body =>
    let held := r.held ++ [b]
    setRx { r with held := held, state := if held.length = r.len then .check else .body } s
  | .check => report (.frame r.len r.held b) (setRx Rx.reset s)

/-- A byte comes in: it reaches the receiver while the link is AWAKE. -/
def byteArrives (b : Byte) (s : State) : State := when s.linkAwake (rxByte b) s

/-- A LEN byte that is 0 or above 64 after a frame's SYNC. -/
def framingError (len : Byte) (s : State) : State :=
  when s.linkAwake
    (fun s => rxByte len (if s.lnk.rx.state = .hunt then rxByte 0xC3 s else s)) s

/-- The inter-byte timer expires: it runs outside HUNT. -/
def byteTimeout (s : State) : State := when (s.linkAwake && s.lnk.rx.state != .hunt) rxError s

/-- A byte's stop bit is low. -/
def lineErrorTaken (s : State) : State := when s.linkAwake rxError s

/-! ## Taking a request (R194, R195) -/

/-- The buffer is free or the frame is an overrun (R194). -/
def intoBuffer (kind : Byte) (act : State → State) (s : State) : State :=
  if s.lnk.buffer.isSome then linkError .linkOverrun s else act (s.mapLnk fun l => { l with buffer := some kind })

/-- A request row: its frame, good and complete, arrives while the link is AWAKE (log 6). -/
def arrives (kind : Byte) (act : State → State) (s : State) : State := when s.linkAwake (intoBuffer kind act) s

/-- R195: what is read from KIND and BODY. -/
def requestRead (kind : Byte) (body : List Byte) (s : State) : State :=
  match decodeRequest kind body with
  | .unknownKind => reply .unknownKind s
  | .malformed => reply .malformed s
  | .badField n => refuseField n s
  | .command i => request i s

/-- R194: a complete frame is tested. -/
def frameTested (len : Nat) (payload : List Byte) (check : Byte) (s : State) : State :=
  if checkByte (byteOf len) payload = check then
    match payload with
    | kind :: body => intoBuffer kind (requestRead kind body) s
    | [] => s
  else linkError .linkCheck s

/-! ## Reports between blocks -/

/-- Each report is taken by the block its rule names. -/
def takeReport : Report → State → State
  | .endStop => endStop
  | .beginStop => beginStop
  | .endAction => applyEndAction
  | .servoLost => servoLost
  | .recover => recoverTaken
  | .targetDropped r => targetDropped r
  | .noLock => endWhile [.arming, .labelWait, .labelBreak] .servo
  | .unstable => markDoubtful
  | .lostInRecord => endWhile [.recording] .servo
  | .tapeEndInRecord => endWhile [.recording] .tapeEnd
  | .stallInRecord => endWhile [.recording] .tapeStall
  | .deckFault => endWhile activeStates .deckFault
  | .hostStop => endWhile activeStates .stopped
  | .enteredRecord => recordEntered
  | .leftRecord => recordLeft
  | .paused => pauseReached
  | .noChannel => endWhile activeStates .noChannel
  | .tuningPassed b => tuningPassed b
  | .signalChange b => signalChanged b
  | .label n key st => labelTaken n key st
  | .clock r => clockReported r
  | .rebuild => rebuild
  | .occEnd n d o => endOccurrence n d o
  | .hostRecStart => hostRecordStarts
  | .hostRecEnd => hostRecordEnds
  | .tuningDone b => completionPassed b
  | .scanEnded => scanReleases
  | .syncGranted => syncGranted
  | .syncResult r => syncFailed r
  | .sourceExists b => sourceReported b
  | .visitTest => visitTest
  | .timePacket u o m b => timePacketTaken u o m b
  | .rest => restReported
  | .downTest => downTest
  | .released => occurrenceReleased
  | .frame n p c => fun s => when s.linkAwake (frameTested n p c) s

/-- The reports are taken in the order made, those made meanwhile after them, up to a bound (log 4). -/
def settle : Nat → State → State
  | 0, s => s
  | n + 1, s =>
    match s.reports with
    | [] => s
    | r :: rest => settle n (takeReport r { s with reports := rest })

/-! ## The transmit arbiter (R196, R197, R199) -/

/-- A frame begins. The free values of the next one are fresh. -/
def sendFrame (kind : Byte) (body : List Byte) (s : State) : State :=
  { (s.mapLnk fun l => { l with line := some (frameOf kind body) }) with fresh := s.fresh + 1 }

/-- The reported flags a reply clears as it begins (R200). -/
def flagsCleared : Reply → BitVec 4
  | .ok .tape => 0b0011
  | .ok .deckGet => 0b1100
  | _ => 0

/-- The bodies of a reply's frames: PLAN_GET has one for each part (R196). -/
def replyFrames (kind : Byte) (s : State) (r : Reply) : List (List Byte) :=
  match r with
  | .ok .plan => planParts s
  | _ => [replyBytes kind s r]

/-- A reply begins: its body is formed, its flags are cleared, the buffer is freed (R196). -/
def beginReply (r : Reply) (s : State) : State :=
  let kind := s.lnk.buffer.getD 0
  let frames := replyFrames kind s r
  let s := clearReported (flagsCleared r) s
  let s := s.mapLnk fun l => { l with buffer := none, reply := none, parts := frames.drop 1 }
  sendFrame (replyKind kind r) (frames.headD []) s

/-- The next part of a PLAN_GET run (R196). -/
def beginPart (body : List Byte) (rest : List (List Byte)) (s : State) : State :=
  sendFrame 0xBB body (s.mapLnk fun l => { l with parts := rest })

/-- A notice begins: its body is formed and its flag cleared; PACKET hands its record over (R121, R197). -/
def beginNotice (n : Notice) (s : State) : State :=
  let body := noticeBody s n
  let s := sendFrame n.code body (withdraw n s)
  match n with
  | .packet => captureSent s
  | _ => s

/-- Replies may be sent: the link is AWAKE in ON, or what was ready goes out as the link sleeps (R199, R202). -/
def State.repliesGo (s : State) : Bool :=
  s.linkAwake || (s.pwr.link == .asleep && s.pwr.mode == .standby)

/-- The pending class with the lowest code. -/
def State.firstNotice (s : State) : Option Notice := notices.find? s.pendingNotice

/-- A notice, if one may go (R199). -/
def transmitNotice (s : State) : State :=
  match s.linkAwake, s.firstNotice with
  | true, some n => beginNotice n s
  | _, _ => s

/-- R199: a free line takes the next part or reply, or else a notice. -/
def transmit (s : State) : State :=
  if s.lnk.line.isSome then s
  else if s.repliesGo then
    match s.lnk.parts, s.lnk.reply with
    | p :: rest, _ => beginPart p rest s
    | [], some r => beginReply r s
    | [], none => transmitNotice s
  else s

/-- The end of every command: the reports are taken, and a free line takes what is ready (log 4, log 5). -/
def settled (s : State) : State := transmit (settle Config.reportBound s)

/-- The outcome of a command with an effect. -/
def done (s : State) : Host.Outcome State Fault Refusal := .next (settled s)

/-- A byte comes in, and another follows it: where it ends a frame, complete or in error, the frame is tested and what it leads
to is taken before the next byte (R193, log 5). -/
def byteSettles (s : State) (b : Byte) : State :=
  let t := byteArrives b s
  if s.lnk.rx.state ≠ .hunt ∧ t.lnk.rx.state = .hunt then settled t else t

/-- Bytes come in one after another. The last is settled as the command ends. -/
def rxBytes (bytes : List Byte) (s : State) : State :=
  match bytes.getLast? with
  | none => s
  | some b => byteArrives b (bytes.dropLast.foldl byteSettles s)

/-- R199: the frame on the line ends. -/
def lineFreed (s : State) : State := s.mapLnk fun l => { l with line := none }

end Sys2Proof.Machine
end

