-- ==== Sys2Proof/Machine/ClockRows.lean ====
section
/-! DEFINITION. The rows of the clock (07). One meaning for each row; a row whose condition does not hold changes nothing (log 1). -/

namespace Sys2Proof.Machine

/-- CLOCK_PUT_SET_TIME (R134): a request of kind 0x30. -/
def execClockPutSetTime (year month day hours minutes seconds : Byte) (s : State) : Host.Outcome State Fault Refusal
    :=
  done (arrives 0x30 (reqSetTime year month day hours minutes seconds) s)

/-- CLOCK_PUT_SET_TRIM (R134): a request of kind 0x30. -/
def execClockPutSetTrim (trim : Byte) (s : State) : Host.Outcome State Fault Refusal :=
  done (arrives 0x30 (reqSetTrim trim) s)

/-- CLOCK_GET (R135): a request of kind 0x31. -/
def execClockGet (s : State) : Host.Outcome State Fault Refusal :=
  done (arrives 0x31 reqClockGet s)

/-- ZONE_PUT (R133): a request of kind 0x32. -/
def execZonePut (zone source ruleP startMonth startWeek startHour endMonth endWeek endHour : Byte) (s : State) :
    Host.Outcome State Fault Refusal :=
  done (arrives 0x32 (reqZonePut zone source ruleP startMonth startWeek startHour endMonth endWeek endHour) s)

/-- SYNC_PUT (R136): a request of kind 0x33. -/
def execSyncPut (setting : Byte) (s : State) : Host.Outcome State Fault Refusal :=
  done (arrives 0x33 (reqSyncPut setting) s)

/-- CLOCK_SECOND_ADVANCE (R127): the ticks that are left of the present second pass at once (log 3). -/
def execClockSecondAdvance (s : State) : Host.Outcome State Fault Refusal :=
  done (clockSecond s)

/-- CANDIDATE_EXPIRY (R138): the candidate passes its age (log 3). -/
def execCandidateExpiry (s : State) : Host.Outcome State Fault Refusal :=
  done (candidateExpires s)

/-- VISIT_AGE_LIMIT (R136): the visit age comes to its limit (log 3). -/
def execVisitAgeLimit (s : State) : Host.Outcome State Fault Refusal :=
  done (visitAgeReached s)

/-- SYNC_RETRY_EXPIRY (R137): the retry timer expires (log 3). -/
def execSyncRetryExpiry (s : State) : Host.Outcome State Fault Refusal :=
  done (retryExpires s)

/-- CLOCK_TICK (R127): one tick. -/
def execClockTick (s : State) : Host.Outcome State Fault Refusal :=
  done (clockTicks s)

end Sys2Proof.Machine
end

