-- ==== Sys2Proof/Machine/DeckRows.lean ====
section
/-! DEFINITION. The rows of the mechanism (01). One meaning for each row; a row whose condition does not hold changes nothing (log 1). -/

namespace Sys2Proof.Machine

/-- MOTION_COMPLETE: the mode switch is a pin, read by MEC while it has power (R5, R24, log 10). -/
def switchReads (position : ModePos) (s : State) : State :=
  let s := s.mapPins fun p => { p with mode := position }
  when s.deckPowered (modeSwitch position) s

/-- R19: the change from dark to lit; R21: the stall timer stops. -/
def endLights (s : State) : State :=
  when (!s.pins.endLit)
    (fun s =>
      let s := s.mapPins fun p => { p with endLit := true }
      when s.deckPowered (fun s => endStop (stallFollow s)) s) s

/-- R20: the change from dark to lit; R21: the stall timer stops. -/
def beginLights (s : State) : State :=
  when (!s.pins.beginLit)
    (fun s =>
      let s := s.mapPins fun p => { p with beginLit := true }
      when s.deckPowered (fun s => beginStop (stallFollow s)) s) s

/-- R19 to R21: the change from lit to dark; the stall timer runs again where a reel is driven. -/
def sensorDarkens (sensor : LeaderSensor) (s : State) : State :=
  let s := s.mapPins fun p =>
    match sensor with
    | .endSensor => { p with endLit := false }
    | .beginSensor => { p with beginLit := false }
  when s.deckPowered stallFollow s

/-- DECK_GO (R8): a request of kind 0x10. -/
def execDeckGo (target multiplier grade tracking offset endAction : Byte) (s : State) :
    Host.Outcome State Fault Refusal :=
  done (arrives 0x10 (reqDeckGo target multiplier grade tracking offset endAction) s)

/-- DECK_GO_STOP (R11): a request of kind 0x10. -/
def execDeckGoStop (multiplier grade tracking offset endAction : Byte) (s : State) : Host.Outcome State Fault Refusal
    :=
  done (arrives 0x10 (reqDeckGo 0 multiplier grade tracking offset endAction) s)

/-- DECK_GET (R1): a request of kind 0x11. -/
def execDeckGet (s : State) : Host.Outcome State Fault Refusal :=
  done (arrives 0x11 reqDeckGet s)

/-- CASSETTE_INSERTED (R4): the cassette switch, with what the tab switch will read. -/
def execCassetteInserted (tab : Bool) (s : State) : Host.Outcome State Fault Refusal :=
  done (cassetteArrives tab s)

/-- CASSETTE_REMOVED (R4): the cassette switch. -/
def execCassetteRemoved (s : State) : Host.Outcome State Fault Refusal :=
  done (cassetteGoes s)

/-- MOTION_COMPLETE (R5): the mode switch reports a position. -/
def execMotionComplete (position : ModePos) (s : State) : Host.Outcome State Fault Refusal :=
  done (switchReads position s)

/-- MOTION_TIMEOUT (R6): the motion timer expires. -/
def execMotionTimeout (s : State) : Host.Outcome State Fault Refusal :=
  done (when s.deckPowered motionTimeout s)

/-- SPIN_UP_TIMEOUT (R13): the spin-up timer expires. -/
def execSpinUpTimeout (s : State) : Host.Outcome State Fault Refusal :=
  done (when s.deckPowered spinFails s)

/-- IDLE_TIMEOUT (R18): the idle timer expires. -/
def execIdleTimeout (s : State) : Host.Outcome State Fault Refusal :=
  done (when s.deckPowered idleExpires s)

/-- END_SENSOR_LIT (R19): the end sensor changes from dark to lit. -/
def execEndSensorLit (s : State) : Host.Outcome State Fault Refusal :=
  done (endLights s)

/-- BEGIN_SENSOR_LIT (R20): the begin sensor changes from dark to lit. -/
def execBeginSensorLit (s : State) : Host.Outcome State Fault Refusal :=
  done (beginLights s)

/-- REEL_STALL (R21): the stall timer expires. -/
def execReelStall (s : State) : Host.Outcome State Fault Refusal :=
  done (when (s.deckPowered && s.mec.stall) reelStalls s)

/-- END_OR_BEGIN_SENSOR_DARK (R21): a sensor changes from lit to dark. -/
def execEndOrBeginSensorDark (sensor : LeaderSensor) (s : State) : Host.Outcome State Fault Refusal :=
  done (sensorDarkens sensor s)

end Sys2Proof.Machine
end

