-- ==== Sys2Proof/Machine/LinkRows.lean ====
section
/-! DEFINITION. The rows of the link and of the status record (11). One meaning for each row; a row whose condition does not hold changes nothing (log 1). -/

namespace Sys2Proof.Machine

/-- STATUS_GET (R200): a request of kind 0x01. -/
def execStatusGet (s : State) : Host.Outcome State Fault Refusal :=
  done (arrives 0x01 reqStatusGet s)

/-- STATUS_CLEAR (R201): a request of kind 0x02. -/
def execStatusClear (sticky reported : Byte) (s : State) : Host.Outcome State Fault Refusal :=
  done (arrives 0x02 (reqStatusClear sticky reported) s)

/-- NOTICE_MASK (R198): a request of kind 0x03. -/
def execNoticeMask (mask : BitVec 16) (s : State) : Host.Outcome State Fault Refusal :=
  done (arrives 0x03 (reqNoticeMask mask) s)

/-- RESTART (R203): a request of kind 0x04. -/
def execRestart (s : State) : Host.Outcome State Fault Refusal :=
  done (arrives 0x04 reqRestart s)

/-- FRAME_COMPLETE (R194): bytes come in on the line and each complete frame is tested. -/
def execFrameComplete (bytes : List Byte) (s : State) : Host.Outcome State Fault Refusal :=
  done (rxBytes bytes s)

/-- FRAMING_ERROR (R193): a LEN byte is received; the receiver in HUNT takes a SYNC before it (log 3). -/
def execFramingError (len : Byte) (s : State) : Host.Outcome State Fault Refusal :=
  done (framingError len s)

/-- INTER_BYTE_TIMEOUT (R193): the inter-byte timer expires. -/
def execInterByteTimeout (s : State) : Host.Outcome State Fault Refusal :=
  done (byteTimeout s)

/-- LINE_ERROR (R193): a byte with a low stop bit. -/
def execLineError (s : State) : Host.Outcome State Fault Refusal :=
  done (lineErrorTaken s)

/-- TRANSMIT_FRAME_END (R199): the frame on the line ends; what is ready then begins (`settled`). -/
def execTransmitFrameEnd (s : State) : Host.Outcome State Fault Refusal :=
  done (lineFreed s)

end Sys2Proof.Machine
end

