-- ==== Sys2Proof/Machine/PowerRows.lean ====
section
/-! DEFINITION. The rows of standby, waking and the supply (10). One meaning for each row; a row whose condition does not hold changes nothing (log 1). -/

namespace Sys2Proof.Machine

/-- The pins at power-on reset; the detectors read nothing yet (log 11). -/
def Pins.atPowerOn (cassette tab : Bool) (position : ModePos) (endLit beginLit : Bool) : Pins :=
  { cassette := cassette, tab := tab, mode := position, endLit := endLit, beginLit := beginLit, carrier := false,
    sync := false }

/-- STANDBY_ENTER (R185): a request of kind 0x05. -/
def execStandbyEnter (s : State) : Host.Outcome State Fault Refusal :=
  done (arrives 0x05 reqStandbyEnter s)

/-- STANDBY_CANCEL (R185): a request of kind 0x05. -/
def execStandbyCancel (s : State) : Host.Outcome State Fault Refusal :=
  done (arrives 0x05 reqStandbyCancel s)

/-- WAKE_SET (R188): a request of kind 0x06. -/
def execWakeSet (filter : Byte) (s : State) : Host.Outcome State Fault Refusal :=
  done (arrives 0x06 (reqWakeSet filter) s)

/-- WAKE_EVENT (R188): what the wake detector sees. -/
def execWakeEvent (signal : WakeSignal) (s : State) : Host.Outcome State Fault Refusal :=
  done (wakes signal s)

/-- WAKING_BYTE_DISCARD (R188): the byte changes nothing. -/
def execWakingByteDiscard (_byte : Byte) (s : State) : Host.Outcome State Fault Refusal :=
  done s

/-- LINK_IDLE_AWAKE (R188): the receive line has been idle for 5 ms. -/
def execLinkIdleAwake (s : State) : Host.Outcome State Fault Refusal :=
  done (lineIdle s)

/-- RETURN_TIMER_EXPIRY (R187): the return timer expires. -/
def execReturnTimerExpiry (s : State) : Host.Outcome State Fault Refusal :=
  done (returnTimerExpires s)

/-- SUPPLY_LOST (R190): the primary supply is absent. -/
def execSupplyLost (s : State) : Host.Outcome State Fault Refusal :=
  done (supplyLoss s)

/-- SUPPLY_PRESENT (R191): the primary supply is present in BACKUP. -/
def execSupplyPresent (s : State) : Host.Outcome State Fault Refusal :=
  done (supplyAppears s)

/-- SUPPLY_ABSENT_RETURNING (R191): the primary supply is absent again. -/
def execSupplyAbsentReturning (s : State) : Host.Outcome State Fault Refusal :=
  done (supplyFails s)

/-- SUPPLY_RETURN (R191): the timer of the supply expires. -/
def execSupplyReturn (s : State) : Host.Outcome State Fault Refusal :=
  done (supplyReturns s)

/-- POWER_ON_RESET (R192): first power, with what the switches and sensors read. -/
def execPowerOnReset (cassette tab : Bool) (position : ModePos) (endLit beginLit : Bool) (s : State) :
    Host.Outcome State Fault Refusal :=
  done (powerOn (Pins.atPowerOn cassette tab position endLit beginLit) s)

end Sys2Proof.Machine
end

