-- ==== Sys2Proof/Machine/TapeRows.lean ====
section
/-! DEFINITION. The rows of the tape path (02, 03). One meaning for each row; a row whose condition does not hold changes nothing (log 1). -/

namespace Sys2Proof.Machine

/-- R37: SRV takes a reading in PLAY under AUTO, while the sweep does not hold. -/
def State.sweeps (s : State) (levels : List Byte) : Bool :=
  s.mec.state == .play && s.srv.mode == .auto && s.srv.phase != .hold && levels.length == 8

/-- COUNTER_SET (R52): a request of kind 0x12. -/
def execCounterSet (mode : Byte) (value : BitVec 32) (s : State) : Host.Outcome State Fault Refusal :=
  done (arrives 0x12 (reqCounterSet mode value) s)

/-- MATCH_SET (R53): a request of kind 0x13. -/
def execMatchSet (action : Byte) (value : BitVec 32) (s : State) : Host.Outcome State Fault Refusal :=
  done (arrives 0x13 (reqMatchSet action value) s)

/-- MATCH_SET_DISARM (R53): a request of kind 0x13. -/
def execMatchSetDisarm (s : State) : Host.Outcome State Fault Refusal :=
  done (arrives 0x13 reqMatchDisarm s)

/-- CUE_SEEK (R55): a request of kind 0x14. -/
def execCueSeek (direction limit endMode kindP kind slotP slot dayP day rangeP : Byte) (low high : BitVec 16)
    (s : State) : Host.Outcome State Fault Refusal :=
  done (arrives 0x14 (reqCueSeek direction limit endMode kindP kind slotP slot dayP day rangeP low high) s)

/-- CUE_WRITE (R43): a request of kind 0x15. -/
def execCueWrite (code : BitVec 16) (s : State) : Host.Outcome State Fault Refusal :=
  done (arrives 0x15 (reqCueWrite code) s)

/-- TAPE_GET (R76): a request of kind 0x16. -/
def execTapeGet (s : State) : Host.Outcome State Fault Refusal :=
  done (arrives 0x16 reqTapeGet s)

/-- SERVO_FRAME (R31): one video frame. -/
def execServoFrame (drumPhase : Int) (capstanPhase : CapstanPhase) (s : State) : Host.Outcome State Fault Refusal :=
  done (when s.deckPowered (servoFrameTaken drumPhase capstanPhase) s)

/-- TRACKING_READING (R37): eight envelope levels at one offset. -/
def execTrackingReading (levels : List Byte) (s : State) : Host.Outcome State Fault Refusal :=
  done (when (s.deckPowered && s.sweeps levels) (sweepReading (readingOf levels)) s)

/-- CONTROL_PULSE_READ (R41): a control pulse is read. -/
def execControlPulseRead (duty : Nat) (s : State) : Host.Outcome State Fault Refusal :=
  done (when s.deckPowered (pulseRead duty) s)

/-- BLANK_DETECTED (R39): the 60th frame of PLAY without a pulse (log 3). -/
def execBlankDetected (s : State) : Host.Outcome State Fault Refusal :=
  done (when (s.deckPowered && s.mec.state == .play && decide (s.srv.noPulse < 60)) goBlank s)

/-- FRAMES_UNREAD_LIMIT (R49): the 60th frame unread (log 3). -/
def execFramesUnreadLimit (s : State) : Host.Outcome State Fault Refusal :=
  done (when (s.deckPowered && s.mec.state.readsPulses && decide (s.ctu.unread < 60)) sourceToStep s)

/-- CAPSTAN_STEP (R49): a capstan tacho edge. -/
def execCapstanStep (s : State) : Host.Outcome State Fault Refusal :=
  done (when s.deckPowered capstanStepTaken s)

/-- CONTROL_PULSE_WRITE (R40): a control pulse is written. -/
def execControlPulseWrite (s : State) : Host.Outcome State Fault Refusal :=
  done (when s.deckPowered pulseWritten s)

/-- REEL_TACHO_EDGE (R60): a reel tacho edge. -/
def execReelTachoEdge (reel : Reel) (elapsed : Nat) (s : State) : Host.Outcome State Fault Refusal :=
  done (when s.deckPowered (reelEdge reel elapsed) s)

/-- WIND_REVOLUTION_OVERFLOW (R64): a revolution of a wind passes its limit. -/
def execWindRevolutionOverflow (reel : Reel) (s : State) : Host.Outcome State Fault Refusal :=
  done (when s.deckPowered (revOverflow reel) s)

end Sys2Proof.Machine
end

