-- ==== Sys2Proof/Machine/TimerRows.lean ====
section
/-! DEFINITION. The rows of the timer (08, 09). One meaning for each row; a row whose condition does not hold changes nothing (log 1). -/

namespace Sys2Proof.Machine

/-- EVENT_PUT (R145): a request of kind 0x38. -/
def execEventPut
    (slot recurrence year month day days startH startM stopH stopM preset grade priority preempt cue labelP : Byte)
    (key mask : BitVec 24) (overrunP overrun : Byte) (s : State) : Host.Outcome State Fault Refusal :=
  done (arrives 0x38 (reqEventPut slot recurrence year month day days startH startM stopH stopM preset grade priority
    preempt cue labelP key mask overrunP overrun) s)

/-- EVENT_GET (R149): a request of kind 0x39. -/
def execEventGet (slot : Byte) (s : State) : Host.Outcome State Fault Refusal :=
  done (arrives 0x39 (reqEventGet slot) s)

/-- EVENT_STATE_ARM (R147): a request of kind 0x3A. -/
def execEventStateArm (slot : Byte) (s : State) : Host.Outcome State Fault Refusal :=
  done (arrives 0x3A (reqEventArm slot) s)

/-- EVENT_STATE_HOLD (R147): a request of kind 0x3A. -/
def execEventStateHold (slot : Byte) (s : State) : Host.Outcome State Fault Refusal :=
  done (arrives 0x3A (reqEventHold slot) s)

/-- EVENT_STATE_ERASE (R148): a request of kind 0x3A. -/
def execEventStateErase (slot : Byte) (s : State) : Host.Outcome State Fault Refusal :=
  done (arrives 0x3A (reqEventErase slot) s)

/-- PLAN_GET (R157): a request of kind 0x3B. -/
def execPlanGet (s : State) : Host.Outcome State Fault Refusal :=
  done (arrives 0x3B reqPlanGet s)

/-- CANCEL (R179): a request of kind 0x3C. -/
def execCancel (slot year month day : Byte) (s : State) : Host.Outcome State Fault Refusal :=
  done (arrives 0x3C (reqCancel slot year month day) s)

/-- RESULT_GET (R153): a request of kind 0x3D. -/
def execResultGet (slot : Byte) (s : State) : Host.Outcome State Fault Refusal :=
  done (arrives 0x3D (reqResultGet slot) s)

/-- ARMING_MOMENT (R164): the arming test at the reading the clock shows (log 35). -/
def execArmingMoment (s : State) : Host.Outcome State Fault Refusal :=
  done (when (s.pwr.mode != .backup) armingTest s)

/-- TIMED_RECORD_START (R168): RECORD is asked for where its conditions hold (log 35). -/
def execTimedRecordStart (s : State) : Host.Outcome State Fault Refusal :=
  done (when (s.pwr.mode != .backup) timedStart s)

/-- SIGNAL_TIMEOUT (R168): no signal in time (log 35). -/
def execSignalTimeout (s : State) : Host.Outcome State Fault Refusal :=
  done (when (s.pwr.mode != .backup) signalTimesOut s)

/-- RECORDING_TIME_UP (R169): the remaining seconds are over (log 35). -/
def execRecordingTimeUp (s : State) : Host.Outcome State Fault Refusal :=
  done (when (s.pwr.mode != .backup) timeIsUp s)

/-- LABEL_FALLBACK_TEST (R172): the fallback test (log 35). -/
def execLabelFallbackTest (s : State) : Host.Outcome State Fault Refusal :=
  done (when (s.pwr.mode != .backup) fallbackTest s)

/-- WINDOW_END (R164): a window end is reached (log 35). -/
def execWindowEnd (s : State) : Host.Outcome State Fault Refusal :=
  done (when (s.pwr.mode != .backup) windowsClose s)

/-- LABEL_TRIMMED_STOP (R173): the trimmed effective stop is reached (log 35). -/
def execLabelTrimmedStop (s : State) : Host.Outcome State Fault Refusal :=
  done (when (s.pwr.mode != .backup) labelTrimmed s)

end Sys2Proof.Machine
end

