-- ==== Sys2Proof/Machine/TunerRows.lean ====
section
/-! DEFINITION. The rows of the tuner, its arbiter and the data line (04, 05, 06). One meaning for each row; a row whose condition does not hold changes nothing (log 1). -/

namespace Sys2Proof.Machine

/-- R87: the settle timer of a tuning that no scan ordered expires; the detectors read so. -/
def tuningEnds (carrier sync : Bool) (s : State) : State :=
  let s := setDetectors carrier sync s
  when (s.tun.tuned.state == .settling && s.tun.tuned.settle.isSome) tuningCompletes s

/-- R90: the reading timer expires. It runs in SIGNAL and NO_SIGNAL. -/
def readingTimer (carrier sync : Bool) (disc : Disc) (s : State) : State :=
  let s := setDetectors carrier sync s
  when (s.tun.reading && (s.tun.tuned.state == .signal || s.tun.tuned.state == .noSignal)) (detectorRead disc) s

/-- R94, R95: the settle timer expires in a phase of a running scan. -/
def scanTimer (phase : ScanPhase) (carrier sync : Bool) (act : State → State) (s : State) : State :=
  let s := setDetectors carrier sync s
  when (s.tun.scan.state == .running && s.tun.tuned.state == .scanning && s.tun.scan.phase == phase) act s

/-- TUNE (R92): a request of kind 0x20. -/
def execTune (mode number : Byte) (freq : BitVec 16) (fine : Byte) (s : State) : Host.Outcome State Fault Refusal :=
  done (arrives 0x20 (reqTune mode number freq fine) s)

/-- PRESET_PUT_WRITE (R80): a request of kind 0x21. -/
def execPresetPutWrite (number : Byte) (freq : BitVec 16) (fine skip timeSource : Byte) (name : List Byte) (s : State)
    : Host.Outcome State Fault Refusal :=
  done (arrives 0x21 (reqPresetWrite number freq fine skip timeSource name) s)

/-- PRESET_PUT_STORE_FINE (R81): a request of kind 0x21. -/
def execPresetPutStoreFine (number : Byte) (s : State) : Host.Outcome State Fault Refusal :=
  done (arrives 0x21 (reqPresetStoreFine number) s)

/-- PRESET_PUT_ERASE (R81): a request of kind 0x21. -/
def execPresetPutErase (number : Byte) (s : State) : Host.Outcome State Fault Refusal :=
  done (arrives 0x21 (reqPresetErase number) s)

/-- PRESET_GET (R82): a request of kind 0x22. -/
def execPresetGet (number : Byte) (s : State) : Host.Outcome State Fault Refusal :=
  done (arrives 0x22 (reqPresetGet number) s)

/-- SCAN_START (R93): a request of kind 0x23. -/
def execScanStart (freq : BitVec 16) (autoStore : Byte) (s : State) : Host.Outcome State Fault Refusal :=
  done (arrives 0x23 (reqScanStart freq autoStore) s)

/-- SCAN_CONTINUE (R96): a request of kind 0x23. -/
def execScanContinue (s : State) : Host.Outcome State Fault Refusal :=
  done (arrives 0x23 reqScanContinue s)

/-- SCAN_STOP (R97): a request of kind 0x23. -/
def execScanStop (s : State) : Host.Outcome State Fault Refusal :=
  done (arrives 0x23 reqScanStop s)

/-- VIEW_END (R104): a request of kind 0x24. -/
def execViewEnd (s : State) : Host.Outcome State Fault Refusal :=
  done (arrives 0x24 reqViewEnd s)

/-- CAPTURE_SET (R124): a request of kind 0x25. -/
def execCaptureSet (selection action : Byte) (s : State) : Host.Outcome State Fault Refusal :=
  done (arrives 0x25 (reqCaptureSet selection action) s)

/-- TUNING_COMPLETE (R87): the settle timer of an ordinary tuning expires. -/
def execTuningComplete (carrier sync : Bool) (s : State) : Host.Outcome State Fault Refusal :=
  done (tuningEnds carrier sync s)

/-- DETECTOR_READING (R90): the reading timer expires. -/
def execDetectorReading (carrier sync : Bool) (disc : Disc) (s : State) : Host.Outcome State Fault Refusal :=
  done (readingTimer carrier sync disc s)

/-- SCAN_DWELL_END (R94): the dwell at a stride position ends. -/
def execScanDwellEnd (carrier sync : Bool) (disc : Disc) (s : State) : Host.Outcome State Fault Refusal :=
  done (scanTimer .dwell carrier sync (scanDwellRead disc) s)

/-- SCAN_FINE_STEP_END (R95): the hold of a fine step ends. -/
def execScanFineStepEnd (carrier sync : Bool) (disc : Disc) (s : State) : Host.Outcome State Fault Refusal :=
  done (scanTimer .fine carrier sync (scanFineRead disc) s)

/-- SCAN_FINAL_HOLD_END (R95): the final hold ends. -/
def execScanFinalHoldEnd (carrier sync : Bool) (s : State) : Host.Outcome State Fault Refusal :=
  done (scanTimer .hold carrier sync scanHoldRead s)

/-- SYNC_WAIT_LIMIT (R106): the wait timer expires. -/
def execSyncWaitLimit (s : State) : Host.Outcome State Fault Refusal :=
  done (waitLimitReached s)

/-- MINIMUM_HOLD_EXPIRY (R107): the minimum hold timer expires. -/
def execMinimumHoldExpiry (s : State) : Host.Outcome State Fault Refusal :=
  done (minimumHoldOver s)

/-- HOLD_LIMIT_EXPIRY (R107): the hold limit timer expires. -/
def execHoldLimitExpiry (s : State) : Host.Outcome State Fault Refusal :=
  done (holdLimitOver s)

/-- PACKET_ARRIVAL (R112): twelve bytes of a data line. -/
def execPacketArrival (bytes : List Byte) (s : State) : Host.Outcome State Fault Refusal :=
  done (packetArrives bytes s)

end Sys2Proof.Machine
end

