-- ==== Sys2Proof/Machine/Dispatch.lean ====
section
/-! DEFINITION. The meaning of every command: one arm for each row of spec/opcode_table.json. -/

namespace Sys2Proof.Machine

/-- The effect of a command on everything but the queue. -/
def exec (i : Instr) (s : State) : Host.Outcome State Fault Refusal :=
  match i with
  | .statusGet => Sys2Proof.Machine.execStatusGet s
  | .statusClear sticky reported => Sys2Proof.Machine.execStatusClear sticky reported s
  | .noticeMask mask => Sys2Proof.Machine.execNoticeMask mask s
  | .restart => Sys2Proof.Machine.execRestart s
  | .standbyEnter => Sys2Proof.Machine.execStandbyEnter s
  | .standbyCancel => Sys2Proof.Machine.execStandbyCancel s
  | .wakeSet filter => Sys2Proof.Machine.execWakeSet filter s
  | .deckGo target multiplier grade tracking offset endAction => Sys2Proof.Machine.execDeckGo target multiplier grade tracking offset endAction s
  | .deckGoStop multiplier grade tracking offset endAction => Sys2Proof.Machine.execDeckGoStop multiplier grade tracking offset endAction s
  | .deckGet => Sys2Proof.Machine.execDeckGet s
  | .counterSet mode value => Sys2Proof.Machine.execCounterSet mode value s
  | .matchSet action value => Sys2Proof.Machine.execMatchSet action value s
  | .matchSetDisarm => Sys2Proof.Machine.execMatchSetDisarm s
  | .cueSeek direction limit endMode kindP kind slotP slot dayP day rangeP low high => Sys2Proof.Machine.execCueSeek direction limit endMode kindP kind slotP slot dayP day rangeP low high s
  | .cueWrite code => Sys2Proof.Machine.execCueWrite code s
  | .tapeGet => Sys2Proof.Machine.execTapeGet s
  | .tune mode number freq fine => Sys2Proof.Machine.execTune mode number freq fine s
  | .presetPutWrite number freq fine skip timeSource name => Sys2Proof.Machine.execPresetPutWrite number freq fine skip timeSource name s
  | .presetPutStoreFine number => Sys2Proof.Machine.execPresetPutStoreFine number s
  | .presetPutErase number => Sys2Proof.Machine.execPresetPutErase number s
  | .presetGet number => Sys2Proof.Machine.execPresetGet number s
  | .scanStart freq autoStore => Sys2Proof.Machine.execScanStart freq autoStore s
  | .scanContinue => Sys2Proof.Machine.execScanContinue s
  | .scanStop => Sys2Proof.Machine.execScanStop s
  | .viewEnd => Sys2Proof.Machine.execViewEnd s
  | .captureSet selection action => Sys2Proof.Machine.execCaptureSet selection action s
  | .clockPutSetTime year month day hours minutes seconds => Sys2Proof.Machine.execClockPutSetTime year month day hours minutes seconds s
  | .clockPutSetTrim trim => Sys2Proof.Machine.execClockPutSetTrim trim s
  | .clockGet => Sys2Proof.Machine.execClockGet s
  | .zonePut zone source ruleP startMonth startWeek startHour endMonth endWeek endHour => Sys2Proof.Machine.execZonePut zone source ruleP startMonth startWeek startHour endMonth endWeek endHour s
  | .syncPut setting => Sys2Proof.Machine.execSyncPut setting s
  | .eventPut slot recurrence year month day days startH startM stopH stopM preset grade priority preempt cue labelP key mask overrunP overrun => Sys2Proof.Machine.execEventPut slot recurrence year month day days startH startM stopH stopM preset grade priority preempt cue labelP key mask overrunP overrun s
  | .eventGet slot => Sys2Proof.Machine.execEventGet slot s
  | .eventStateArm slot => Sys2Proof.Machine.execEventStateArm slot s
  | .eventStateHold slot => Sys2Proof.Machine.execEventStateHold slot s
  | .eventStateErase slot => Sys2Proof.Machine.execEventStateErase slot s
  | .planGet => Sys2Proof.Machine.execPlanGet s
  | .cancel slot year month day => Sys2Proof.Machine.execCancel slot year month day s
  | .resultGet slot => Sys2Proof.Machine.execResultGet slot s
  | .frameComplete bytes => Sys2Proof.Machine.execFrameComplete bytes s
  | .framingError len => Sys2Proof.Machine.execFramingError len s
  | .interByteTimeout => Sys2Proof.Machine.execInterByteTimeout s
  | .lineError => Sys2Proof.Machine.execLineError s
  | .transmitFrameEnd => Sys2Proof.Machine.execTransmitFrameEnd s
  | .wakeEvent signal => Sys2Proof.Machine.execWakeEvent signal s
  | .wakingByteDiscard byte => Sys2Proof.Machine.execWakingByteDiscard byte s
  | .linkIdleAwake => Sys2Proof.Machine.execLinkIdleAwake s
  | .cassetteInserted tab => Sys2Proof.Machine.execCassetteInserted tab s
  | .cassetteRemoved => Sys2Proof.Machine.execCassetteRemoved s
  | .motionComplete position => Sys2Proof.Machine.execMotionComplete position s
  | .motionTimeout => Sys2Proof.Machine.execMotionTimeout s
  | .spinUpTimeout => Sys2Proof.Machine.execSpinUpTimeout s
  | .idleTimeout => Sys2Proof.Machine.execIdleTimeout s
  | .endSensorLit => Sys2Proof.Machine.execEndSensorLit s
  | .beginSensorLit => Sys2Proof.Machine.execBeginSensorLit s
  | .reelStall => Sys2Proof.Machine.execReelStall s
  | .servoFrame drumPhase capstanPhase => Sys2Proof.Machine.execServoFrame drumPhase capstanPhase s
  | .trackingReading levels => Sys2Proof.Machine.execTrackingReading levels s
  | .controlPulseRead duty => Sys2Proof.Machine.execControlPulseRead duty s
  | .blankDetected => Sys2Proof.Machine.execBlankDetected s
  | .framesUnreadLimit => Sys2Proof.Machine.execFramesUnreadLimit s
  | .capstanStep => Sys2Proof.Machine.execCapstanStep s
  | .controlPulseWrite => Sys2Proof.Machine.execControlPulseWrite s
  | .reelTachoEdge reel elapsed => Sys2Proof.Machine.execReelTachoEdge reel elapsed s
  | .windRevolutionOverflow reel => Sys2Proof.Machine.execWindRevolutionOverflow reel s
  | .tuningComplete carrier sync => Sys2Proof.Machine.execTuningComplete carrier sync s
  | .detectorReading carrier sync disc => Sys2Proof.Machine.execDetectorReading carrier sync disc s
  | .scanDwellEnd carrier sync disc => Sys2Proof.Machine.execScanDwellEnd carrier sync disc s
  | .scanFineStepEnd carrier sync disc => Sys2Proof.Machine.execScanFineStepEnd carrier sync disc s
  | .scanFinalHoldEnd carrier sync => Sys2Proof.Machine.execScanFinalHoldEnd carrier sync s
  | .syncWaitLimit => Sys2Proof.Machine.execSyncWaitLimit s
  | .minimumHoldExpiry => Sys2Proof.Machine.execMinimumHoldExpiry s
  | .holdLimitExpiry => Sys2Proof.Machine.execHoldLimitExpiry s
  | .packetArrival bytes => Sys2Proof.Machine.execPacketArrival bytes s
  | .clockSecondAdvance => Sys2Proof.Machine.execClockSecondAdvance s
  | .candidateExpiry => Sys2Proof.Machine.execCandidateExpiry s
  | .visitAgeLimit => Sys2Proof.Machine.execVisitAgeLimit s
  | .syncRetryExpiry => Sys2Proof.Machine.execSyncRetryExpiry s
  | .armingMoment => Sys2Proof.Machine.execArmingMoment s
  | .timedRecordStart => Sys2Proof.Machine.execTimedRecordStart s
  | .signalTimeout => Sys2Proof.Machine.execSignalTimeout s
  | .recordingTimeUp => Sys2Proof.Machine.execRecordingTimeUp s
  | .labelFallbackTest => Sys2Proof.Machine.execLabelFallbackTest s
  | .windowEnd => Sys2Proof.Machine.execWindowEnd s
  | .labelTrimmedStop => Sys2Proof.Machine.execLabelTrimmedStop s
  | .returnTimerExpiry => Sys2Proof.Machine.execReturnTimerExpiry s
  | .supplyLost => Sys2Proof.Machine.execSupplyLost s
  | .supplyPresent => Sys2Proof.Machine.execSupplyPresent s
  | .supplyAbsentReturning => Sys2Proof.Machine.execSupplyAbsentReturning s
  | .supplyReturn => Sys2Proof.Machine.execSupplyReturn s
  | .powerOnReset cassette tab position endLit beginLit => Sys2Proof.Machine.execPowerOnReset cassette tab position endLit beginLit s
  | .clockTick => Sys2Proof.Machine.execClockTick s
  | .endOrBeginSensorDark sensor => Sys2Proof.Machine.execEndOrBeginSensorDark sensor s

end Sys2Proof.Machine
end

