-- ==== Sys2Proof/Safety.lean ====
section
/-! DEFINITION. What counts as a safe outcome, and the ranges the spec gives the block's counters: the invariants that
statements use. -/

namespace Sys2Proof.Machine

/-- The outcome is a next state: no fault and no refusal. -/
def Completes (o : Host.Outcome State Fault Refusal) : Prop := ∃ t, o = .next t

/-- No report is left over from an earlier command (log 4). -/
def State.Quiet (s : State) : Prop := s.reports = []

/-- A request that arrives is held: the link is AWAKE in ON and the request buffer is empty (R194). -/
def State.Listens (s : State) : Prop := s.linkAwake = true ∧ s.lnk.buffer = none

/-- The state with a request of a kind held and its reply ready, and nothing else changed (R194, R196). -/
def State.answering (kind : Byte) (r : Reply) (s : State) : State :=
  { s with lnk := { s.lnk with buffer := some kind, reply := some r } }

/-- The ranges of the link's records: the link error counter is at most 255 and only enabled classes are pending (R193,
R197, R198). -/
def LinkInv (s : State) : Prop := s.lnk.errors ≤ 255 ∧ s.lnk.notices &&& ~~~s.lnk.mask = 0

/-- The ranges of the servo record: the lock error counter is at most 255, the quality state is the one R32 gives for it,
the recovery run is below 128 (R29, R32, R33). -/
def ServoInv (s : State) : Prop := s.srv.err ≤ 255 ∧ s.srv.quality = qualityOf s.srv.err ∧ s.srv.run < 128

/-- The ranges of the counter: its value and its match value stay between the ends, the frames unread at most 60 and the
cue reader's window at most 24 classes (R45, R48, R51, R53). -/
def CounterInv (s : State) : Prop :=
  (counterMin ≤ s.ctu.value ∧ s.ctu.value ≤ counterMax) ∧ (counterMin ≤ s.ctu.mValue ∧ s.ctu.mValue ≤ counterMax)
    ∧ s.ctu.unread ≤ 60 ∧ s.ctu.window.length ≤ 24

/-- The range of an active occurrence's remaining seconds: at most 86,400 (R158). -/
def RemainingInv (s : State) : Prop := ∀ a, s.tsc.active = some a → a.remaining ≤ 86400

/-- The range of the timer's skip list: at most 8 pairs (R154). -/
def SkipInv (s : State) : Prop := s.tsc.skip.length ≤ 8

end Sys2Proof.Machine
end

