-- ==== Sys2Proof/Certificates/Slice0/Obligations.lean ====
section
/-! DEFINITION. What is to be proved of the model: one `Prop` for each entry of OBLIGATIONS.json. A statement about a command is
about the state its outcome gives; `transmit` at its end is the transmit arbiter, which may put one frame on a free line, and `=
.next (transmit …)` says that nothing else changes. -/

open Sys2Proof Sys2Proof.Machine

/-! ### Steps, completion, frames -/

/-- The command at the front of the queue is what a step runs; on an empty queue the block idles, which is the model's
choice (log 2). -/
def Obligations.StepRunsFrontCommand : Prop :=
  (∀ (c : Instr) (rest : List Instr) (s : State), s.pending = c :: rest → step s = exec c { s with pending := rest }) ∧
    ∀ s : State, s.pending = [] → step s = .next s

/-- No command stops, and none touches the queue of commands. The model's own shape: log 2 and log 4. -/
def Obligations.EveryCommandCompletes : Prop :=
  ∀ (c : Instr) (s : State), ∃ t, exec c s = .next t ∧ t.pending = s.pending

/-- What LNK reads from the KIND and BODY of a request is that request (R195, R205). -/
def Obligations.RequestDecodesToItself : Prop :=
  ∀ (i : Instr) (kind : Byte) (body : List Byte),
    encodeRequest i = some (kind, body) → i.wellFormed = true → decodeRequest kind body = .command i

/-- The CHECK byte of a frame makes LEN, KIND, BODY and CHECK sum to 0 modulo 256, and a frame with one bit of CHECK
changed does not. LINK_CHECK: a frame whose sum is not 0 modulo 256 is dropped with no reply, counted and flagged. -/
def Obligations.FrameChecks : Prop :=
  (∀ (kind : Byte) (body : List Byte) (check : Byte),
     let len : Byte := BitVec.ofNat 8 (body.length + 1)
     (len + (kind :: body).sum + check = 0) ↔ check = checkByte len (kind :: body)) ∧
  (∀ (kind check : Byte) (body : List Byte) (s : State),
     body.length ≤ 63 → s.linkAwake = true → s.lnk.rx = Rx.reset → s.reports = [] → s.lnk.line.isSome →
     check ≠ checkByte (BitVec.ofNat 8 (body.length + 1)) (kind :: body) →
     exec (.frameComplete ([0xC3, BitVec.ofNat 8 (body.length + 1), kind] ++ body ++ [check])) s =
       .next { s with lnk := { s.lnk with
         sticky := s.lnk.sticky ||| 1#8, errors := min 255 (s.lnk.errors + 1),
         notices :=
           if s.stickySet .linkCheck = false then s.lnk.notices ||| (0x800#12 &&& s.lnk.mask) else s.lnk.notices } })

/-- The bytes of a request's frame, received in HUNT, do what the request's own row does; they take one report more,
the frame's own (log 6). -/
def Obligations.FrameRunsItsRequest : Prop :=
  ∀ (i : Instr) (kind : Byte) (body : List Byte) (s : State),
    encodeRequest i = some (kind, body) →
      exec i s = .next (transmit (settle Config.reportBound (arrives kind (request i) s))) ∧
      (i.wellFormed = true → s.linkAwake = true → s.lnk.rx = Rx.reset → s.reports = [] →
        exec (.frameComplete (frameOf kind body)) s =
          .next (transmit (settle (Config.reportBound - 1) (arrives kind (request i) s))))

/-- A request row whose frame completes while the buffer is occupied is an overrun: LINK_OVERRUN is set, the link
error counter counts and saturates, and every other record stays. While the link is not AWAKE in ON no request is
received (the model's guard: log 6). -/
def Obligations.RequestsThatAreNotHeld : Prop :=
  (∀ (i : Instr) (kind : Byte) (body : List Byte) (s : State),
     encodeRequest i = some (kind, body) → s.linkAwake = true → s.lnk.buffer.isSome → s.lnk.line.isSome → s.reports = [] →
     ∃ n, exec i s = .next { s with lnk := { s.lnk with
       sticky := s.lnk.sticky ||| 2#8, errors := min 255 (s.lnk.errors + 1), notices := n } } ∧
       n = if s.stickySet .linkOverrun = false then s.lnk.notices ||| (0x800#12 &&& s.lnk.mask) else s.lnk.notices) ∧
  (∀ (i : Instr) (kind : Byte) (body : List Byte) (s : State),
     encodeRequest i = some (kind, body) → s.linkAwake = false → s.reports = [] → exec i s = .next (transmit s))

/-- A framing error, an abandonment by the inter-byte timer and a line error each set LINK_FRAMING, count, and leave
the receiver in HUNT, and a flag that becomes set raises LINK; in HUNT the timer does not run (a row that changes nothing:
log 1), a bad LEN is one that a SYNC precedes (log 3), and a byte other than 0xC3 is discarded. -/
def Obligations.LineErrorsAreCounted : Prop :=
  ∀ s : State, s.linkAwake = true → s.lnk.line.isSome → s.reports = [] →
    let counted : State :=
      { s with lnk := { s.lnk with
        rx := Rx.reset, sticky := s.lnk.sticky ||| 4#8, errors := min 255 (s.lnk.errors + 1),
        notices :=
          if s.stickySet .linkFraming = false then s.lnk.notices ||| (0x800#12 &&& s.lnk.mask) else s.lnk.notices } }
    exec .lineError s = .next counted ∧
    (s.lnk.rx.state ≠ .hunt → exec .interByteTimeout s = .next counted) ∧
    (s.lnk.rx.state = .hunt → exec .interByteTimeout s = .next s) ∧
    (∀ len : Byte, (len = 0 ∨ 64 < len.toNat) → (s.lnk.rx.state = .length ∨ s.lnk.rx.state = .hunt) →
      exec (.framingError len) s = .next counted) ∧
    (∀ b : Byte, b ≠ 0xC3 → s.lnk.rx.state = .hunt → exec (.frameComplete [b]) s = .next s)

/-- R199: while a frame is on the line nothing begins; when the line is free a ready reply goes before any notice, and
of the pending notices the one with the lowest code goes. Its flag is cleared; TRANSMIT_FRAME_END frees the line. A
reply's body is formed as it begins, and the flags it reports are cleared then: TAPE_GET clears TAPE_LOW and
TAPE_CRITICAL, DECK_GET clears COUNTER_MATCHED and CUE_FOUND, STATUS_GET clears none. -/
def Obligations.TransmitArbiter : Prop :=
  ((∀ s : State, s.lnk.line.isSome → transmit s = s) ∧
   (∀ (s : State) (r : Reply), s.lnk.line = none → s.linkAwake = true → s.lnk.parts = [] → s.lnk.reply = some r →
     r ≠ .ok .plan →
     (transmit s).lnk.line = some (frameOf (replyKind (s.lnk.buffer.getD 0) r) (replyBytes (s.lnk.buffer.getD 0) s r)) ∧
       (transmit s).lnk.buffer = none ∧ (transmit s).lnk.reply = none ∧ (transmit s).lnk.notices = s.lnk.notices) ∧
   (∀ (s : State) (n : Notice), s.lnk.line = none → s.linkAwake = true → s.lnk.parts = [] → s.lnk.reply = none →
     s.pendingNotice n = true → (∀ m : Notice, m.bit < n.bit → s.pendingNotice m = false) →
     (transmit s).lnk.line = some (frameOf n.code (noticeBody s n)) ∧
       (n ≠ .packet → (transmit s).pendingNotice n = false)) ∧
   (∀ s : State, s.reports = [] → exec .transmitFrameEnd s = .next (transmit { s with lnk := { s.lnk with line := none } }))) ∧
  (∀ s : State, s.lnk.line = none → s.linkAwake = true → s.lnk.parts = [] →
     (s.lnk.reply = some (.ok .tape) →
       (transmit s).reportedSet .tapeLow = false ∧ (transmit s).reportedSet .tapeCritical = false ∧
       (transmit s).reportedSet .counterMatched = s.reportedSet .counterMatched ∧
       (transmit s).reportedSet .cueFound = s.reportedSet .cueFound) ∧
     (s.lnk.reply = some (.ok .deckGet) →
       (transmit s).reportedSet .counterMatched = false ∧ (transmit s).reportedSet .cueFound = false ∧
       (transmit s).reportedSet .tapeLow = s.reportedSet .tapeLow ∧
       (transmit s).reportedSet .tapeCritical = s.reportedSet .tapeCritical) ∧
     (s.lnk.reply = some (.ok .status) → (transmit s).lnk.reported = s.lnk.reported))

/-! ### Requests that the status record, the link and the power record answer -/

/-- The queries change nothing but the reply they make ready: STATUS_GET, DECK_GET, TAPE_GET, CLOCK_GET, PLAN_GET,
PRESET_GET, EVENT_GET and RESULT_GET. The reply's body is formed when it begins. -/
def Obligations.QueriesOnlyReply : Prop :=
  ∀ s : State, s.Listens → s.reports = [] →
    exec .statusGet s = .next (transmit (s.answering 0x01 (.ok .status))) ∧
    exec .deckGet s = .next (transmit (s.answering 0x11 (.ok .deckGet))) ∧
    exec .tapeGet s = .next (transmit (s.answering 0x16 (.ok .tape))) ∧
    exec .clockGet s = .next (transmit (s.answering 0x31 (.ok .clock))) ∧
    exec .planGet s = .next (transmit (s.answering 0x3B (.ok .plan))) ∧
    (∀ n : Byte, exec (.presetGet n) s = .next (transmit (s.answering 0x22
      (if 99 < n.toNat then .refused .fieldRange 1 else if n = 0 then .ok .tuner else .ok (.preset n.toNat))))) ∧
    (∀ n : Byte, exec (.eventGet n) s = .next (transmit (s.answering 0x39
      (if 15 < n.toNat then .refused .fieldRange 1 else .ok (.slot n.toNat))))) ∧
    ∀ n : Byte, exec (.resultGet n) s = .next (transmit (s.answering 0x3D
      (if 15 < n.toNat then .refused .fieldRange 1 else .ok (.result n.toNat))))

/-- STATUS_CLEAR clears the flags it names, zeroes the link error counter when asked, and refuses a position that
names nothing; nothing else changes. -/
def Obligations.StatusClearClearsWhatItNames : Prop :=
  ∀ (sticky reported : Byte) (s : State), s.Listens → s.reports = [] →
    exec (.statusClear sticky reported) s = .next (transmit
      (if 32 ≤ reported.toNat then s.answering 0x02 (.refused .fieldRange 2)
       else { s with lnk := { s.lnk with
          buffer := some 0x02, reply := some (.ok .status), sticky := s.lnk.sticky &&& ~~~sticky,
          reported := s.lnk.reported &&& ~~~(reported.extractLsb' 0 4),
          errors := if reported.getLsbD 4 then 0 else s.lnk.errors } }))

/-- NOTICE_MASK stores the mask and withdraws the pending classes it disables; PACKET's becoming disabled empties
DLD's capture buffer. -/
def Obligations.NoticeMaskStoresAndWithdraws : Prop :=
  ∀ (mask : BitVec 16) (s : State), s.Listens → s.reports = [] →
    exec (.noticeMask mask) s = .next (transmit
      (if 4096 ≤ mask.toNat then s.answering 0x03 (.refused .fieldRange 1)
       else
        let closes := s.lnk.mask.getLsbD 6 && !mask.getLsbD 6
        { s with
          dld := if closes then { s.dld with front := none, back := none } else s.dld,
          lnk := { s.lnk with
            buffer := some 0x03, reply := some (.ok .mask), mask := mask.extractLsb' 0 12,
            notices := s.lnk.notices &&& mask.extractLsb' 0 12 } }))

/-- WAKE_SET stores the filter and changes nothing else; STANDBY CANCEL ends a staged entry, and a change of the entry
state raises POWER. STANDBY ENTER is refused while the host records, and is ACCEPTED and staged while an occurrence is
active. With none active and the transport not at rest it is ACCEPTED and waits for rest, and MEC is asked for STOP and
UNTHREAD: from the tape path UNTHREADING begins, a motion in flight gets UNTHREAD as its pending target, and a wind, whose
STOP rests at once, goes on into standby. -/
def Obligations.PowerRequests : Prop :=
  (∀ s : State, s.Listens → s.reports = [] →
     (∀ f : Byte, exec (.wakeSet f) s = .next (transmit
       (if 1 < f.toNat then s.answering 0x06 (.refused .fieldRange 1)
        else { s.answering 0x06 (.ok .power) with pwr := { s.pwr with filter := f == 0 } }))) ∧
     ∃ n, exec .standbyCancel s = .next (transmit
       { s with
         pwr := { s.pwr with entry := .none },
         lnk := { s.lnk with buffer := some 0x05, reply := some (.ok .power), notices := n } }) ∧
       n = if s.pwr.entry = .none then s.lnk.notices else s.lnk.notices ||| (0x400#12 &&& s.lnk.mask)) ∧
  (∀ s : State, s.Listens → s.reports = [] →
     (((s.mec.state = .record ∨ s.mec.state = .recordPause) ∧ s.mec.owner = .host) →
       exec .standbyEnter s = .next (transmit (s.answering 0x05 (.refused .busyRecording 0)))) ∧
     (¬((s.mec.state = .record ∨ s.mec.state = .recordPause) ∧ s.mec.owner = .host) → s.pwr.entry ≠ .none →
       exec .standbyEnter s = .next (transmit (s.answering 0x05 (.accepted .power)))) ∧
     (¬((s.mec.state = .record ∨ s.mec.state = .recordPause) ∧ s.mec.owner = .host) → s.pwr.entry = .none →
       s.tsc.active.isSome →
       exec .standbyEnter s = .next (transmit
         { s with
           pwr := { s.pwr with entry := .waitOccurrence },
           lnk := { s.lnk with
             buffer := some 0x05, reply := some (.accepted .power),
             notices := s.lnk.notices ||| (0x400#12 &&& s.lnk.mask) } }))) ∧
  (∀ s : State, s.Listens → s.reports = [] → s.mec.owner = .host → s.mec.spin = false → s.pwr.entry = .none → s.tsc.active = none →
     let unthread (t : State) : Prop :=
       t.mec.pending.map (fun p => (p.target, p.origin)) = some (Target.unthread, Owner.host)
     let waits (t : State) : Prop :=
       t.pwr = { s.pwr with entry := .waitRest } ∧ t.tun = s.tun ∧ t.tar = s.tar ∧ t.clk = s.clk ∧ t.tsc = s.tsc ∧
         (s.lnk.line.isSome → t.lnk.reply = some (.accepted .power) ∧ t.lnk.buffer = some 0x05)
     ((s.mec.state = .threaded ∨ s.mec.state = .play ∨ s.mec.state = .still ∨ s.mec.state = .searchFwd ∨
         s.mec.state = .searchRev) →
       ∃ t, exec .standbyEnter s = .next t ∧ waits t ∧ t.mec.state = .unthreading ∧ t.mec.motionTimer = some 3600 ∧
         unthread t ∧ t.mec.drum = false) ∧
     ((s.mec.state = .loading ∨ s.mec.state = .threading ∨ s.mec.state = .unthreading ∨ s.mec.state = .ejecting ∨
         s.mec.state = .recovery) →
       ∃ t, exec .standbyEnter s = .next t ∧ waits t ∧ t.mec.state = s.mec.state ∧
         t.mec.motionTimer = s.mec.motionTimer ∧ unthread t) ∧
     ((s.mec.state = .windFwd ∨ s.mec.state = .windRev) → s.mec.pending = none → s.pwr.deckUp = true → s.clk.syncOn = false →
       s.tar.syncWait = false →
       ∃ t, exec .standbyEnter s = .next t ∧ t.mec.state = .unthreaded ∧ t.mec.pending = none ∧ t.pwr.mode = .standby ∧
         t.pwr.entry = .none ∧ t.pwr.lastCause = .standbyEntered ∧ t.pwr.link = .asleep))

/-- CAPTURE_SET stores the selection and zeroes the bad-packet counter when asked, and names the lower field where both are out
of range (log 50); CLOCK_PUT SET_TRIM stores the trim,
clamped to -63 to +63, and raises no notice (log 85); MATCH_SET DISARM clears the armed flag. -/
def Obligations.SmallSettersStore : Prop :=
  ∀ s : State, s.Listens → s.reports = [] →
    (∀ sel act : Byte, exec (.captureSet sel act) s = .next (transmit
      (if 7 < sel.toNat then s.answering 0x25 (.refused .fieldRange 1)
       else if 1 < act.toNat then s.answering 0x25 (.refused .fieldRange 2)
       else { s.answering 0x25 (.ok .decoder) with
          dld := { s.dld with sel := sel.extractLsb' 0 3, bad := if act = 1 then 0 else s.dld.bad } }))) ∧
    (∀ t : Byte, exec (.clockPutSetTrim t) s = .next (transmit
      { s.answering 0x30 (.ok .clock) with
        clk := { s.clk with trim := max (-63) (min 63 t.toInt) } })) ∧
    exec .matchSetDisarm s = .next (transmit
      { s.answering 0x13 (.ok .matchRec) with ctu := { s.ctu with mArmed := false } })

/-! ### Transport and tape -/

/-- COUNTER_SET sets the counter, clamped to its range, clears BEGIN and UNCERTAIN, takes the wind reference in a wind of a
CALIBRATED cassette (none where L_s is absent: log 49), sets the match side without firing, and raises COUNTER. MATCH_SET
stores the value, clamped, and the action, arms the match and sets its side; an action outside the list is refused. -/
def Obligations.CounterAndMatchSet : Prop :=
  (∀ (mode : Byte) (v : BitVec 32) (s : State), s.Listens → s.reports = [] →
     (1 < mode.toNat → exec (.counterSet mode v) s = .next (transmit (s.answering 0x12 (.refused .fieldRange 1)))) ∧
     (mode.toNat ≤ 1 →
       let n : Int := if mode = 0 then 0 else max (-1080000) (min 1079999 v.toInt)
       exec (.counterSet mode v) s = .next (transmit
         { s with
           ctu := { s.ctu with
             value := n, acc := 0, begun := false, uncertain := false,
             windRef :=
               if (s.mec.state = .windFwd ∨ s.mec.state = .windRev) ∧ s.tpe.profile = .calibrated then s.tpe.ls.map Int.ofNat
               else s.ctu.windRef,
             mSide := if n < s.ctu.mValue then .below else if n = s.ctu.mValue then .atValue else .above },
           lnk := { s.lnk with
             buffer := some 0x12, reply := some (.ok .counter), notices := s.lnk.notices ||| (2#12 &&& s.lnk.mask) } }))) ∧
  (∀ (action : Byte) (v : BitVec 32) (s : State), s.Listens → s.reports = [] →
     (3 < action.toNat → exec (.matchSet action v) s = .next (transmit (s.answering 0x13 (.refused .fieldRange 1)))) ∧
     (action.toNat < 3 →
       let n : Int := max (-1080000) (min 1079999 v.toInt)
       exec (.matchSet action v) s = .next (transmit
         { s.answering 0x13 (.ok .matchRec) with
           ctu := { s.ctu with
             mValue := n, mArmed := true,
             mAction := if action = 0 then .notify else if action = 1 then .stop else .stopThenPlay,
             mSide := if s.ctu.value < n then .below else if s.ctu.value = n then .atValue else .above } })))

/-- DECK_GO: a field outside its list is refused with its number, the lowest first (log 50), and nothing changes. DECK_GO with
valid fields is refused by the first of R9's checks that fails, in their order, and a refused request changes no field
of the transport record. -/
def Obligations.DeckGoRefusals : Prop :=
  (∀ (t m g k o e : Byte) (s : State), s.Listens → s.reports = [] →
     (11 ≤ t.toNat → exec (.deckGo t m g k o e) s = .next (transmit (s.answering 0x10 (.refused .fieldRange 1)))) ∧
     (t.toNat < 11 → 3 ≤ g.toNat →
       exec (.deckGo t m g k o e) s = .next (transmit (s.answering 0x10 (.refused .fieldRange 3)))) ∧
     (t.toNat < 11 → g.toNat < 3 → 2 ≤ k.toNat →
       exec (.deckGo t m g k o e) s = .next (transmit (s.answering 0x10 (.refused .fieldRange 4)))) ∧
     (t.toNat < 11 → g.toNat < 3 → k.toNat < 2 → 3 ≤ e.toNat →
       exec (.deckGo t m g k o e) s = .next (transmit (s.answering 0x10 (.refused .fieldRange 6))))) ∧
  (∀ (t m g k o e : Byte) (s : State), s.Listens → s.reports = [] →
     t.toNat < 11 → g.toNat < 3 → k.toNat < 2 → e.toNat < 3 →
     let fault := s.mec.state = .fault ∧ t ≠ 10
     let recording := t = 10 ∧ (s.mec.state = .record ∨ s.tsc.active.isSome)
     let timed := s.mec.owner = .timer ∧ t ≠ 0
     let none := ((s.mec.state = .empty ∨ s.mec.state = .ejecting) ∧ t ≠ 0 ∧ t ≠ 9 ∧ t ≠ 10) ∨ (s.mec.state = .empty ∧ t = 10)
     let tab := (t = 5 ∨ t = 6) ∧ s.mec.tab = .absent
     let refused (r : Reason) := exec (.deckGo t m g k o e) s = .next (transmit (s.answering 0x10 (.refused r 0)))
     (fault → refused .fault) ∧
     (¬fault → recording → refused .busyRecording) ∧
     (¬fault → ¬recording → timed → refused .busyTimer) ∧
     (¬fault → ¬recording → ¬timed → none → refused .noCassette) ∧
     (¬fault → ¬recording → ¬timed → ¬none → tab → refused .tabProtected))

/-- DECK_GO with a target that the host may have, no spin-up and no seek under way: from every state, each route of R10 begins
with its first motion or state. In EMPTY, UNTHREAD changes nothing. From UNTHREADED: PLAY, STILL, SEARCH and the recording
targets begin THREADING with the target pending, a wind is entered, EJECT begins EJECTING. From THREADED and the playing states:
a playing target is entered, a wind, UNTHREAD and EJECT begin UNTHREADING, RECORD and RECORD_PAUSE begin the spin-up in THREADED
with the drum driven at the grade the request names, where the target stands as the pending target (log 13). From RECORD and
RECORD_PAUSE the recording ends, which frees the tuner, and the route begins in the same way; RECORD goes to RECORD_PAUSE at
once, and from there back by a spin-up, at the grade in use. From a wind the reels brake and the route begins. In a motion and
in RECOVERY the target becomes pending, in EJECTING only UNTHREAD and EJECT. From FAULT, EJECT begins EJECTING. The end action
field is taken first. A DECK_GO taken
while a spin-up from THREADED is in progress leaves it running where its target is the spin-up's, ACCEPTED; of RECORD and
RECORD_PAUSE the one takes the other's place, the spin-up going on at its grade (log 48); any other target ends it and begins its
route from THREADED. While RECORD_PAUSE changes to RECORD, RECORD leaves the change running, and any other target gives it up
(log 14). -/
def Obligations.DeckGoPlayThreadsFirst : Prop :=
  (∀ (m g k o e : Byte) (s : State), s.Listens → s.reports = [] → s.mec.owner = .host → s.mec.spin = false →
    s.ctu.seek.state = .idle → g.toNat < 3 → k.toNat < 2 → e.toNat < 3 → s.tsc.active = none →
    s.pins.endLit = false → s.pins.beginLit = false →
    let grade : Grade := if g = 0 then .full else if g = 1 then .half else .third
    let speed : Speed := if m.toNat < 7 then .x3 else if m.toNat < 15 then .x7 else .x15
    let leads (t : Byte) (P : State → Prop) : Prop :=
      ∃ u, exec (.deckGo t m g k o e) s = .next u ∧ P u ∧ u.mec.owner = .host ∧
        u.mec.endAction = (if e = 1 then EndAction.stop else if e = 2 then .rewind else s.mec.endAction) ∧ u.tun = s.tun ∧
        u.clk = s.clk ∧ u.tsc = s.tsc ∧ u.pwr = s.pwr
    let goes (t : Byte) (P : State → Prop) : Prop := leads t fun u => P u ∧ u.tar = s.tar
    let ended (t : Byte) (P : State → Prop) : Prop := leads t fun u => P u ∧ u.tar.holder = .none
    let toward (t : Target) (u : State) : Prop :=
      u.mec.pending.map (fun p => (p.target, p.origin)) = some (t, Owner.host)
    let moves (n : TState) (limit : Nat) (t : Target) (u : State) : Prop :=
      u.mec.state = n ∧ u.mec.motionTimer = some limit ∧ u.mec.drum = false ∧ toward t u
    let entered (n : TState) (u : State) : Prop := u.mec.state = n ∧ u.mec.pending = none
    let spins (n : TState) (t : Target) (u : State) : Prop := u.mec.state = n ∧ u.mec.spin = true ∧ toward t u
    let waits (t : Target) (u : State) : Prop :=
      u.mec.state = s.mec.state ∧ u.mec.motionTimer = s.mec.motionTimer ∧ toward t u
    let atSpeed (u : State) : Prop := u.mec.pending.map PendingTarget.speed = some speed
    let atGrade (u : State) : Prop := u.mec.pending.map PendingTarget.grade = some grade
    (s.mec.state = .empty → goes 9 (entered .empty)) ∧
    (s.mec.state = .unthreaded →
      goes 1 (moves .threading 3600 .play) ∧ goes 2 (moves .threading 3600 .still) ∧
      goes 3 (fun u => moves .threading 3600 .searchFwd u ∧ atSpeed u) ∧
      goes 4 (fun u => moves .threading 3600 .searchRev u ∧ atSpeed u) ∧
      (s.mec.tab ≠ .absent →
        goes 5 (fun u => moves .threading 3600 .record u ∧ atGrade u) ∧
        goes 6 (fun u => moves .threading 3600 .recordPause u ∧ atGrade u)) ∧
      goes 7 (entered .windFwd) ∧ goes 8 (entered .windRev) ∧ goes 9 (entered .unthreaded) ∧
      goes 10 (moves .ejecting 6000 .eject)) ∧
    ((s.mec.state = .threaded ∨ s.mec.state = .play ∨ s.mec.state = .still ∨ s.mec.state = .searchFwd ∨
        s.mec.state = .searchRev) →
      goes 1 (entered .play) ∧ goes 2 (entered .still) ∧
      goes 3 (fun u => entered .searchFwd u ∧ u.mec.speed = speed) ∧
      goes 4 (fun u => entered .searchRev u ∧ u.mec.speed = speed) ∧
      (s.mec.tab ≠ .absent →
        goes 5 (fun u => spins .threaded .record u ∧ u.mec.drum = true ∧ u.mec.grade = grade) ∧
        goes 6 (fun u => spins .threaded .recordPause u ∧ u.mec.drum = true ∧ u.mec.grade = grade)) ∧
      goes 7 (moves .unthreading 3600 .windFwd) ∧ goes 8 (moves .unthreading 3600 .windRev) ∧
      goes 9 (moves .unthreading 3600 .unthread) ∧ goes 10 (moves .unthreading 3600 .eject)) ∧
    ((s.mec.state = .record ∨ s.mec.state = .recordPause) → s.tar.holder = .record → s.tar.origin = .host →
      s.tar.remembered = false → s.tar.syncWait = false →
      ended 1 (entered .play) ∧ ended 2 (entered .still) ∧
      ended 3 (fun u => entered .searchFwd u ∧ u.mec.speed = speed) ∧
      ended 4 (fun u => entered .searchRev u ∧ u.mec.speed = speed) ∧
      ended 7 (moves .unthreading 3600 .windFwd) ∧ ended 8 (moves .unthreading 3600 .windRev) ∧
      ended 9 (moves .unthreading 3600 .unthread) ∧
      (s.mec.state = .recordPause → ended 10 (moves .unthreading 3600 .eject))) ∧
    (s.mec.state = .record → s.mec.tab ≠ .absent →
      goes 5 (fun u => entered .record u ∧ u.mec.grade = s.mec.grade) ∧
      goes 6 (fun u => entered .recordPause u ∧ u.mec.grade = s.mec.grade)) ∧
    (s.mec.state = .recordPause → s.mec.tab ≠ .absent →
      goes 5 (fun u => spins .recordPause .record u ∧ u.mec.grade = s.mec.grade) ∧
      goes 6 (fun u => entered .recordPause u ∧ u.mec.grade = s.mec.grade)) ∧
    ((s.mec.state = .windFwd ∨ s.mec.state = .windRev) →
      goes 1 (moves .threading 3600 .play) ∧ goes 2 (moves .threading 3600 .still) ∧
      goes 3 (fun u => moves .threading 3600 .searchFwd u ∧ atSpeed u) ∧
      goes 4 (fun u => moves .threading 3600 .searchRev u ∧ atSpeed u) ∧
      (s.mec.tab ≠ .absent →
        goes 5 (fun u => moves .threading 3600 .record u ∧ atGrade u) ∧
        goes 6 (fun u => moves .threading 3600 .recordPause u ∧ atGrade u)) ∧
      goes 7 (entered .windFwd) ∧ goes 8 (entered .windRev) ∧ (s.pwr.entry = .none → goes 9 (entered .unthreaded)) ∧
      goes 10 (moves .ejecting 6000 .eject)) ∧
    ((s.mec.state = .loading ∨ s.mec.state = .threading ∨ s.mec.state = .unthreading ∨ s.mec.state = .recovery) →
      goes 1 (waits .play) ∧ goes 2 (waits .still) ∧ goes 3 (fun u => waits .searchFwd u ∧ atSpeed u) ∧
      goes 4 (fun u => waits .searchRev u ∧ atSpeed u) ∧
      (s.mec.tab ≠ .absent →
        goes 5 (fun u => waits .record u ∧ atGrade u) ∧ goes 6 (fun u => waits .recordPause u ∧ atGrade u)) ∧
      goes 7 (waits .windFwd) ∧ goes 8 (waits .windRev) ∧ goes 9 (waits .unthread) ∧ goes 10 (waits .eject)) ∧
    (s.mec.state = .ejecting → goes 9 (waits .unthread) ∧ goes 10 (waits .eject)) ∧
    (s.mec.state = .fault →
      goes 10 (fun u => moves .ejecting 6000 .eject u ∧ u.mec.faultCause = .none))) ∧
  (∀ (m g k o e : Byte) (q : PendingTarget) (s : State), s.Listens → s.reports = [] → s.mec.owner = .host →
    s.mec.spin = true → s.mec.pending = some q → s.ctu.seek.state = .idle → g.toNat < 3 → k.toNat < 2 → e.toNat < 3 →
    s.tsc.active = none → s.pins.endLit = false → s.pins.beginLit = false → s.mec.tab ≠ .absent →
    let speed : Speed := if m.toNat < 7 then .x3 else if m.toNat < 15 then .x7 else .x15
    let endAction : EndAction := if e = 1 then .stop else if e = 2 then .rewind else s.mec.endAction
    let leads (t : Byte) (P : State → Prop) : Prop :=
      ∃ u, exec (.deckGo t m g k o e) s = .next u ∧ P u ∧ u.mec.owner = .host ∧ u.mec.endAction = endAction ∧
        u.tun = s.tun ∧ u.clk = s.clk ∧ u.tsc = s.tsc ∧ u.pwr = s.pwr
    let stays (t : Target) (u : State) : Prop :=
      u.mec = { s.mec with idle := false, endAction := endAction } ∧ u.tar = s.tar ∧
        (s.lnk.line.isSome → u.lnk.reply = some (.deckGo t s.mec.state) ∧
          (replyBytes 0x10 u (.deckGo t s.mec.state)).head? = some 1)
    let turns (t : Target) (u : State) : Prop :=
      u.mec = { s.mec with
        idle := false, endAction := endAction, pending := some { q with target := t, origin := .host } } ∧ u.tar = s.tar
    let entered (n : TState) (u : State) : Prop :=
      u.mec.state = n ∧ u.mec.drum = true ∧ u.mec.spin = false ∧ u.mec.pending = none
    let moves (t : Target) (u : State) : Prop :=
      u.mec.state = .unthreading ∧ u.mec.motionTimer = some 3600 ∧ u.mec.drum = false ∧ u.mec.spin = false ∧
        u.mec.pending.map (fun p => (p.target, p.origin)) = some (t, Owner.host)
    let ended (Q : State → Prop) : Prop :=
      leads 1 (fun u => entered .play u ∧ Q u) ∧ leads 2 (fun u => entered .still u ∧ Q u) ∧
      leads 3 (fun u => entered .searchFwd u ∧ u.mec.speed = speed ∧ Q u) ∧
      leads 4 (fun u => entered .searchRev u ∧ u.mec.speed = speed ∧ Q u) ∧
      leads 7 (fun u => moves .windFwd u ∧ Q u) ∧ leads 8 (fun u => moves .windRev u ∧ Q u) ∧
      leads 9 (fun u => moves .unthread u ∧ Q u) ∧ leads 10 (fun u => moves .eject u ∧ Q u)
    (s.mec.state = .threaded →
      (q.target = .record → leads 5 (stays .record) ∧ leads 6 (turns .recordPause)) ∧
      (q.target = .recordPause → leads 6 (stays .recordPause) ∧ leads 5 (turns .record)) ∧
      ((q.target = .record ∨ q.target = .recordPause) → ended fun u => u.tar = s.tar)) ∧
    (s.mec.state = .recordPause → q.target = .record →
      leads 5 (stays .record) ∧
      leads 6 (fun u => u.mec.state = .recordPause ∧ u.mec.spin = false ∧ u.mec.pending = none ∧
        u.mec.grade = s.mec.grade ∧ u.tar = s.tar) ∧
      (s.tar.holder = .record → s.tar.origin = .host → s.tar.remembered = false → s.tar.syncWait = false →
        ended fun u => u.tar.holder = .none)))

/-- DECK_GO STOP: the playing states and a spin-up rest in THREADED with the drum stopped, and so do RECORD and RECORD_PAUSE,
where the host's recording gives the tuner back; a wind comes to UNTHREADED; a resting state stays; in a motion the pending
target is cleared, and the motion goes on. Under owner TIMER the active occurrence also ends STOPPED, with its actual stop where
it was being recorded, the shadow context is emptied without a copy, and MEC and TAR are given back. -/
def Obligations.DeckGoStopRests : Prop :=
  ∀ (m o : Byte) (s : State), s.Listens → s.reports = [] → s.ctu.seek.state = .idle →
    let rests (n : TState) (t : State) : Prop :=
      t.mec.state = n ∧ t.mec.drum = false ∧ t.mec.spin = false ∧ t.mec.pending = none ∧ t.tun = s.tun ∧ t.clk = s.clk
    (s.mec.owner = .host →
      ((s.mec.state = .play ∨ s.mec.state = .still ∨ s.mec.state = .searchFwd ∨ s.mec.state = .searchRev) →
        ∃ t, exec (.deckGoStop m 0 0 o 0) s = .next t ∧ rests .threaded t ∧ t.tar = s.tar ∧ t.tsc = s.tsc ∧ t.pwr = s.pwr) ∧
      (s.mec.state = .threaded → s.mec.spin = true →
        ∃ t, exec (.deckGoStop m 0 0 o 0) s = .next t ∧ rests .threaded t ∧ t.tar = s.tar ∧ t.tsc = s.tsc ∧ t.pwr = s.pwr) ∧
      ((s.mec.state = .windFwd ∨ s.mec.state = .windRev) → s.pwr.entry = .none → s.mec.spin = false →
        s.mec.pending = none →
        ∃ t, exec (.deckGoStop m 0 0 o 0) s = .next t ∧ rests .unthreaded t ∧ t.tar = s.tar ∧ t.tsc = s.tsc ∧ t.pwr = s.pwr) ∧
      ((s.mec.state = .record ∨ s.mec.state = .recordPause) → s.tar.holder = .record → s.tar.origin = .host →
        s.tar.remembered = false → s.tar.syncWait = false →
        ∃ t, exec (.deckGoStop m 0 0 o 0) s = .next t ∧ rests .threaded t ∧ t.tar.holder = .none ∧ t.tsc = s.tsc ∧
          t.pwr = s.pwr) ∧
      ((s.mec.state = .empty ∨ s.mec.state = .unthreaded ∨ (s.mec.state = .threaded ∧ s.mec.spin = false)) →
        ∃ t, exec (.deckGoStop m 0 0 o 0) s = .next t ∧ t.mec.state = s.mec.state ∧ t.mec.drum = s.mec.drum ∧
          t.mec.pending = s.mec.pending ∧ t.tun = s.tun ∧ t.tar = s.tar ∧ t.clk = s.clk ∧ t.tsc = s.tsc ∧ t.pwr = s.pwr) ∧
      ((s.mec.state = .loading ∨ s.mec.state = .threading ∨ s.mec.state = .unthreading ∨ s.mec.state = .ejecting) →
        ∃ t, exec (.deckGoStop m 0 0 o 0) s = .next t ∧ t.mec.state = s.mec.state ∧ t.mec.pending = none ∧
          t.mec.motionTimer = s.mec.motionTimer)) ∧
    (∀ (a : Active) (e : PlanEntry), s.mec.owner = .timer → s.tsc.active = some a → s.tsc.plan = [e] → e.slot = a.slot →
      e.date = a.date → a.slot < 16 → s.pwr.deckUp = true → s.pwr.entry = .none → s.tar.holder = .record →
      s.tar.remembered = false → s.tar.syncWait = false → (∀ n, drawSlot s n = []) →
      let stopped (run : Option RunInfo) (t : State) : Prop :=
        rests .threaded t ∧ t.mec.owner = .host ∧ t.tar.holder = .none ∧ t.tsc.active = none ∧ t.tsc.plan = [] ∧
          t.tsc.shadow = none ∧ t.tsc.restored = s.tsc.restored ∧
          (t.slot a.slot).result =
            some { date := a.date, outcome := .stopped, run := run, doubtful := a.doubtful, noSignal := a.noSignal } ∧
          (t.slot a.slot).count = (s.slot a.slot).count ∧ (∀ n, n ≠ a.slot → t.slot n = s.slot n)
      (s.mec.state = .record → a.state = .recording →
        ∃ t, exec (.deckGoStop m 0 0 o 0) s = .next t ∧
          stopped (a.run.map fun r => { r with stop := some s.clk.reading }) t) ∧
      (s.mec.state = .recordPause → (a.state = .arming ∨ a.state = .labelWait ∨ a.state = .labelBreak) →
        ∃ t, exec (.deckGoStop m 0 0 o 0) s = .next t ∧ stopped a.run t))

/-- CUE_WRITE: a code above 32767 is refused first (log 81), any other outside RECORD; in RECORD a free writer takes the code at position 1, an occupied one lets it
wait, and with one waiting already the request is refused CUE_BUSY. The reply's byte says, when the reply begins, whether a
request of the host waits (log 27). -/
def Obligations.CueWriteTakesOneAndHoldsOne : Prop :=
  (∀ (c : BitVec 16) (s : State), s.Listens → s.reports = [] →
    (32768 ≤ c.toNat → exec (.cueWrite c) s = .next (transmit (s.answering 0x15 (.refused .fieldRange 1)))) ∧
    (c.toNat < 32768 → (s.mec.state = .empty ∨ s.mec.state = .ejecting) →
      exec (.cueWrite c) s = .next (transmit (s.answering 0x15 (.refused .noCassette 0)))) ∧
    (c.toNat < 32768 → s.mec.state ≠ .empty → s.mec.state ≠ .ejecting → s.mec.state ≠ .record →
      exec (.cueWrite c) s = .next (transmit (s.answering 0x15 (.refused .notThreaded 0)))) ∧
    (c.toNat < 32768 → s.mec.state = .record → s.ctu.writing = none →
      exec (.cueWrite c) s = .next (transmit { s.answering 0x15 (.accepted .cueWrite) with
        ctu := { s.ctu with writing := some { code := c.toNat, origin := .host, pos := 1 } } })) ∧
    (c.toNat < 32768 → s.mec.state = .record → s.ctu.writing.isSome → s.ctu.waiting = none →
      exec (.cueWrite c) s = .next (transmit { s.answering 0x15 (.accepted .cueWrite) with
        ctu := { s.ctu with waiting := some (c.toNat, .host) } })) ∧
    (c.toNat < 32768 → s.mec.state = .record → s.ctu.writing.isSome → s.ctu.waiting.isSome →
      exec (.cueWrite c) s = .next (transmit (s.answering 0x15 (.refused .cueBusy 0))))) ∧
  (∀ (n : Nat) (s : State),
    (s.ctu.waiting = some (n, .host) → replyBody s .cueWrite = [1]) ∧
    (s.ctu.waiting = none ∨ s.ctu.waiting = some (n, .timer) → replyBody s .cueWrite = [0]))

/-- CUE_SEEK. A field out of range is refused with its number, the lowest first (log 50): a slot or a day with kind HOST, and a
code range that is empty or given with kind TIMED, are out of range too. Then FAULT, BUSY_TIMER and NO_CASSETTE are tested in this
order. One that passes ends a seek under way ABANDONED and stores its direction, limit, end mode and the pattern fields that are
present, with no mark passed. In the search of its direction it runs at once at x15; from the other threaded states that search
is entered, and it runs, a host's recording giving the tuner back; from UNTHREADED and the winds it is WAITING with THREADING
begun, and in a motion it is WAITING, with the search at x15 as the pending target. -/
def Obligations.CueSeekSearches : Prop :=
  ∀ (dir limit em kp kind sp slot dp day rp : Byte) (low high : BitVec 16) (s : State), s.Listens → s.reports = [] →
    (kp = 0 ∨ kp = 1) → (sp = 0 ∨ sp = 1) → (dp = 0 ∨ dp = 1) → (rp = 0 ∨ rp = 1) →
    let sought : Instr := .cueSeek dir limit em kp kind sp slot dp day rp low high
    let refused (r : Reason) (f : Nat) : Prop := exec sought s = .next (transmit (s.answering 0x14 (.refused r f)))
    let host := kp = 1 ∧ kind = 0
    let bad1 := 1 < dir.toNat
    let bad3 := 1 < em.toNat
    let bad4 := kp = 1 ∧ 1 < kind.toNat
    let bad5 := sp = 1 ∧ (15 < slot.toNat ∨ host)
    let bad6 := dp = 1 ∧ (day.toNat = 0 ∨ 31 < day.toNat ∨ host)
    let bad7 := rp = 1 ∧ (high.toNat < low.toNat ∨ 32767 < high.toNat ∨ (kp = 1 ∧ kind = 1))
    (bad1 → refused .fieldRange 1) ∧ (¬bad1 → bad3 → refused .fieldRange 3) ∧ (¬bad1 → ¬bad3 → bad4 → refused .fieldRange 4) ∧
    (¬bad1 → ¬bad3 → ¬bad4 → bad5 → refused .fieldRange 5) ∧
    (¬bad1 → ¬bad3 → ¬bad4 → ¬bad5 → bad6 → refused .fieldRange 6) ∧
    (¬bad1 → ¬bad3 → ¬bad4 → ¬bad5 → ¬bad6 → bad7 → refused .fieldRange 7) ∧
    (¬bad1 → ¬bad3 → ¬bad4 → ¬bad5 → ¬bad6 → ¬bad7 →
      (s.mec.state = .fault → refused .fault 0) ∧
      (s.mec.state ≠ .fault → s.mec.owner = .timer → refused .busyTimer 0) ∧
      (s.mec.owner = .host → (s.mec.state = .empty ∨ s.mec.state = .ejecting) → refused .noCassette 0) ∧
      (s.mec.owner = .host → s.mec.spin = false → s.pins.endLit = false → s.pins.beginLit = false →
        let goes (st : SeekState) (P : State → Prop) : Prop :=
          ∃ t, exec sought s = .next t ∧ P t ∧
            t.ctu.seek =
              { state := st, kind := if kp = 1 then some (if kind = 0 then .host else .timed) else none,
                slot := if sp = 1 then some slot.toNat else none, day := if dp = 1 then some day.toNat else none,
                range := if rp = 1 then some (low.toNat, high.toNat) else none, dir := if dir = 0 then .fwd else .rev,
                limit := limit.toNat, passed := 0, endPlay := em == 1 } ∧
            (s.ctu.seek.state ≠ .idle →
              s.mec.state = .record ∨ t.ctu.cue = { kind := .abandoned, code := none, counter := s.ctu.value }) ∧
            t.mec.owner = .host ∧ t.mec.endAction = s.mec.endAction ∧ t.srv.mode = s.srv.mode ∧ t.tun = s.tun ∧
            t.clk = s.clk ∧ t.tsc = s.tsc ∧ t.pwr = s.pwr
        let search : TState := if dir = 0 then .searchFwd else .searchRev
        let inSearch (t : State) : Prop := t.mec.state = search ∧ t.mec.speed = .x15 ∧ t.mec.pending = none
        let toward (t : State) : Prop :=
          t.mec.pending.map (fun p => (p.target, p.speed, p.origin)) =
            some (if dir = 0 then Target.searchFwd else .searchRev, Speed.x15, Owner.host) ∧ t.tar = s.tar
        ((s.mec.state = .threaded ∨ s.mec.state = .play ∨ s.mec.state = .still ∨ s.mec.state = .searchFwd ∨
            s.mec.state = .searchRev) → goes .running fun t => inSearch t ∧ t.tar = s.tar) ∧
        ((s.mec.state = .record ∨ s.mec.state = .recordPause) → s.tar.holder = .record → s.tar.origin = .host →
          s.tar.remembered = false → s.tar.syncWait = false → goes .running fun t => inSearch t ∧ t.tar.holder = .none) ∧
        ((s.mec.state = .unthreaded ∨ s.mec.state = .windFwd ∨ s.mec.state = .windRev) →
          goes .waiting fun t => t.mec.state = .threading ∧ t.mec.motionTimer = some 3600 ∧ toward t) ∧
        ((s.mec.state = .loading ∨ s.mec.state = .threading ∨ s.mec.state = .unthreading ∨ s.mec.state = .recovery) →
          goes .waiting fun t => t.mec.state = s.mec.state ∧ t.mec.motionTimer = s.mec.motionTimer ∧ toward t)))

/-! ### Events of the mechanism -/

/-- The cassette switch: presence in EMPTY begins LOADING with the motion timer at 6 s and the tab UNKNOWN; absence
during LOADING reverses the motion into EJECTING. -/
def Obligations.CassetteSwitchMovesTheTransport : Prop :=
  ∀ (tab : Bool) (s : State), s.reports = [] → s.pwr.mode = .on → s.pwr.deckUp = true →
    (s.pins.cassette = false → s.mec.state = .empty →
      ∃ t, exec (.cassetteInserted tab) s = .next t ∧ t.mec.state = .loading ∧ t.mec.motionTimer = some 6000 ∧
        t.mec.tab = .unknown ∧ t.pins.cassette = true ∧ t.pins.tab = tab ∧ t.mec.owner = s.mec.owner ∧ t.tun = s.tun ∧
        t.tar = s.tar ∧ t.clk = s.clk ∧ t.tsc = s.tsc ∧ t.pwr = s.pwr) ∧
    (s.mec.state = .loading → s.mec.pending = none →
      ∃ t, exec .cassetteRemoved s = .next t ∧ t.mec.state = .ejecting ∧ t.mec.motionTimer = some 6000 ∧
        t.pins.cassette = false ∧ t.tun = s.tun ∧ t.tar = s.tar ∧ t.clk = s.clk ∧ t.tsc = s.tsc ∧ t.pwr = s.pwr)

/-- A motion is complete when the mode switch reports its target position: the timer stops and the completion state is entered;
another position leaves LOADING, THREADING, UNTHREADING or EJECTING in flight. LOADING and EJECTING reset what belongs to a
cassette, and RECOVERY settles in EMPTY or UNTHREADED at the position it moves to. With a target pending MEC then proceeds
toward it: it enters it, begins the next motion or the spin-up, whose target stays the pending one (log 13), or drops it with
the reason that forbids it. -/
def Obligations.MotionsComplete : Prop :=
  ∀ s : State, s.reports = [] → s.pwr.mode = .on → s.pwr.deckUp = true → s.pwr.entry = .none →
    let completes (p : ModePos) (P : State → Prop) : Prop :=
      ∃ t, exec (.motionComplete p) s = .next t ∧ P t ∧ t.tun = s.tun ∧ t.tar = s.tar ∧ t.clk = s.clk ∧ t.pwr = s.pwr
    let rests (n : TState) (t : State) : Prop := t.mec.state = n ∧ t.mec.motionTimer = none ∧ t.mec.pending = none
    let goesOn (n : TState) (limit : Nat) (p : PendingTarget) (t : State) : Prop :=
      t.mec.state = n ∧ t.mec.motionTimer = some limit ∧ t.mec.pending = some p
    let sensed : Tab := if s.pins.tab then .present else .absent
    let stays (p : ModePos) : Prop :=
      exec (.motionComplete p) s = .next (transmit { s with pins := { s.pins with mode := p } })
    (s.mec.pending = none →
      (s.mec.state = .threading →
        completes .thread (fun t => rests .threaded t ∧ t.mec.drum = false ∧ t.tsc = s.tsc) ∧ ∀ p ≠ ModePos.thread, stays p) ∧
      (s.mec.state = .unthreading →
        completes .inn (fun t => rests .unthreaded t ∧ t.tsc = s.tsc) ∧ ∀ p ≠ ModePos.inn, stays p) ∧
      (s.mec.state = .loading → ∀ p ≠ ModePos.inn, stays p) ∧
      (s.mec.state = .ejecting → ∀ p ≠ ModePos.out, stays p) ∧
      (s.tsc.active = none → s.clk.state = .unset →
        (s.mec.state = .loading → s.pins.cassette = true →
          completes .inn (fun t => rests .unthreaded t ∧ t.mec.tab = sensed ∧ t.ctu.value = 0 ∧ t.ctu.begun = false ∧
            t.ctu.uncertain = false ∧ t.ctu.window = [] ∧ t.srv.detected = some .full ∧ t.srv.basis = .full ∧
            t.tpe = Tpe.reset ∧ t.tsc.slots = s.tsc.slots ∧ t.tsc.plan = [])) ∧
        ((s.mec.state = .ejecting ∨ s.mec.state = .recovery ∧ s.mec.move = .toOut) →
          completes .out (fun t => rests .empty t ∧ t.mec.tab = .unknown ∧ t.ctu.mArmed = false ∧ t.tpe = Tpe.reset ∧
            t.tsc.slots = s.tsc.slots ∧ t.tsc.plan = []))) ∧
      (s.mec.state = .recovery → s.mec.move = .toIn → s.pins.cassette = true →
        completes .inn (fun t => rests .unthreaded t ∧ t.mec.tab = sensed ∧ t.ctu.value = s.ctu.value ∧ t.tpe = s.tpe ∧
          t.tsc = s.tsc))) ∧
    (∀ p : PendingTarget, s.mec.pending = some p → p.origin = .host → s.mec.owner = .host → s.mec.spin = false →
      s.pins.endLit = false →
      (s.mec.state = .threading →
        (p.target = .play → completes .thread fun t => rests .play t ∧ t.mec.drum = true) ∧
        ((p.target = .record ∨ p.target = .recordPause) →
          (s.mec.tab ≠ .absent →
            completes .thread fun t => t.mec.state = .threaded ∧ t.mec.spin = true ∧ t.mec.drum = true ∧
              t.mec.motionTimer = none ∧ t.mec.pending = some p ∧ t.mec.grade = p.grade) ∧
          (s.mec.tab = .absent →
            completes .thread fun t => rests .threaded t ∧ t.mec.reportCause = .refused .tabProtected)) ∧
        ((p.target = .unthread ∨ p.target = .eject ∨ p.target = .windFwd ∨ p.target = .windRev) →
          completes .thread (goesOn .unthreading 3600 p))) ∧
      (s.mec.state = .unthreading →
        (p.target = .unthread → completes .inn (rests .unthreaded)) ∧ (p.target = .windFwd → completes .inn (rests .windFwd)) ∧
        (p.target = .play → completes .inn (goesOn .threading 3600 p)) ∧
        (p.target = .eject → completes .inn (goesOn .ejecting 6000 p))) ∧
      (s.tsc.active = none → s.clk.state = .unset →
        (s.mec.state = .loading → s.pins.cassette = true →
          (p.target = .play → completes .inn (goesOn .threading 3600 p)) ∧
          (p.target = .record → s.pins.tab = false →
            completes .inn fun t => rests .unthreaded t ∧ t.mec.reportCause = .refused .tabProtected)) ∧
        (s.mec.state = .ejecting →
          ((p.target = .unthread ∨ p.target = .eject) → completes .out (rests .empty)) ∧
          (p.target = .play →
            completes .out fun t => rests .empty t ∧ t.mec.reportCause = .refused .noCassette))))

/-- The motion timer expires: every motor and timer of the transport stops, the pending target goes, and FAULT is
entered with the cause MOTION_TIMEOUT and the sticky flag MECH_FAULT. Without a motion timer nothing happens (log 1). A
spin-up's target stands as the pending target (log 13). The
spin-up timer expires before lock, toward a host target: from THREADED the drum stops; in RECORD_PAUSE the state and
the drum stay. The target is dropped and the report cause is REFUSED with SERVO_NO_LOCK. -/
def Obligations.TimersOfTheMechanismFail : Prop :=
  (∀ s : State, s.reports = [] → s.pwr.mode = .on → s.pwr.deckUp = true → s.pwr.entry = .none → s.tsc.active = none →
     ((s.mec.state = .loading ∨ s.mec.state = .threading ∨ s.mec.state = .unthreading ∨ s.mec.state = .ejecting ∨
         s.mec.state = .recovery) → s.mec.motionTimer.isSome →
       ∃ t, exec .motionTimeout s = .next t ∧ t.mec.state = .fault ∧ t.mec.faultCause = .motionTimeout ∧
         t.mec.reportCause = .fault ∧ t.mec.motionTimer = none ∧ t.mec.pending = none ∧ t.mec.spin = false ∧
         t.mec.drum = false ∧ t.mec.stall = false ∧ t.mec.idle = false ∧ t.stickySet .mechFault = true ∧ t.tun = s.tun ∧ t.clk = s.clk ∧
         t.tsc = s.tsc) ∧
     (s.mec.motionTimer = none → exec .motionTimeout s = .next (transmit s))) ∧
  (∀ (p : PendingTarget) (s : State), s.reports = [] → s.pwr.mode = .on → s.pwr.deckUp = true → s.mec.spin = true →
     s.mec.pending = some p → p.origin = .host →
     (s.mec.state = .threaded →
       ∃ t, exec .spinUpTimeout s = .next t ∧ t.mec.state = .threaded ∧ t.mec.drum = false ∧ t.mec.spin = false ∧
         t.mec.pending = none ∧ t.mec.reportCause = .refused .servoNoLock ∧ t.tun = s.tun ∧ t.tar = s.tar ∧
         t.clk = s.clk ∧ t.tsc = s.tsc) ∧
     (s.mec.state = .recordPause →
       ∃ t, exec .spinUpTimeout s = .next t ∧ t.mec.state = .recordPause ∧ t.mec.drum = s.mec.drum ∧ t.mec.spin = false ∧
         t.mec.pending = none ∧ t.mec.reportCause = .refused .servoNoLock ∧ t.tun = s.tun ∧ t.tar = s.tar ∧
         t.clk = s.clk ∧ t.tsc = s.tsc))

/-- The idle timer expires: STILL goes to THREADED with the drum stopped, and so does RECORD_PAUSE of the host, whose recording
ends and gives the tuner back; a resting THREADED unthreads. The report cause is IDLE. -/
def Obligations.IdleTimeoutRests : Prop :=
  ∀ s : State, s.reports = [] → s.pwr.mode = .on → s.pwr.deckUp = true → s.mec.idle = true →
    (s.mec.state = .still →
      ∃ t, exec .idleTimeout s = .next t ∧ t.mec.state = .threaded ∧ t.mec.drum = false ∧ t.mec.reportCause = .idle ∧
        t.tun = s.tun ∧ t.tar = s.tar ∧ t.clk = s.clk ∧ t.tsc = s.tsc) ∧
    (s.mec.state = .recordPause → s.mec.owner = .host → s.tar.holder = .record → s.tar.origin = .host →
      s.tar.remembered = false → s.tar.syncWait = false →
      ∃ t, exec .idleTimeout s = .next t ∧ t.mec.state = .threaded ∧ t.mec.drum = false ∧ t.mec.spin = false ∧
        t.mec.pending = none ∧ t.mec.reportCause = .idle ∧ t.tar.holder = .none ∧ t.tun = s.tun ∧ t.clk = s.clk ∧
        t.tsc = s.tsc) ∧
    (s.mec.state = .threaded →
      ∃ t, exec .idleTimeout s = .next t ∧ t.mec.state = .unthreading ∧ t.mec.motionTimer = some 3600 ∧
        t.mec.reportCause = .idle ∧ t.tun = s.tun ∧ t.tar = s.tar ∧ t.clk = s.clk ∧ t.tsc = s.tsc)

/-- The end sensor lights in PLAY or SEARCH_FWD under host control: THREADED, TAPE_END, and then the end action: STOP
rests, REWIND begins the route to WIND_REV, at the speed and grade in use (log 18). In a recording of the host the mark in
writing is also ABORTED and the tuner released; in WIND_FWD the tape comes to UNTHREADED, and REWIND enters WIND_REV. The
begin sensor lights in SEARCH_REV: THREADED, TAPE_BEGIN, and the counter's BEGIN flag is set while its value stays; in
WIND_REV it is UNTHREADED. A sensor that is lit already changes nothing (log 1). -/
def Obligations.SensorsStopTheTape : Prop :=
  (∀ s : State, s.reports = [] → s.pwr.mode = .on → s.pwr.deckUp = true →
     (s.pins.endLit = false → (s.mec.state = .play ∨ s.mec.state = .searchFwd) → s.mec.owner = .host →
       (s.mec.endAction = .stop →
         ∃ t, exec .endSensorLit s = .next t ∧ t.mec.state = .threaded ∧ t.mec.drum = false ∧ t.mec.pending = none ∧
           t.mec.reportCause = .tapeEnd ∧ t.pins.endLit = true ∧ t.tun = s.tun ∧ t.tar = s.tar ∧ t.clk = s.clk ∧
           t.tsc = s.tsc) ∧
       (s.mec.endAction = .rewind →
         ∃ t, exec .endSensorLit s = .next t ∧ t.mec.state = .unthreading ∧ t.mec.motionTimer = some 3600 ∧
           t.mec.pending = some { target := .windRev, speed := s.mec.speed, grade := s.mec.grade, origin := .host } ∧
           t.mec.reportCause = .tapeEnd ∧ t.tun = s.tun ∧ t.tar = s.tar ∧ t.clk = s.clk ∧ t.tsc = s.tsc)) ∧
     (s.pins.endLit = false → s.mec.state = .record → s.mec.owner = .host → s.ctu.seek.state = .idle →
       s.tar.holder = .record → s.tar.origin = .host → s.tar.remembered = false → s.tar.syncWait = false →
       let ended (t : State) : Prop :=
         t.mec.reportCause = .tapeEnd ∧ t.mec.drum = false ∧ t.tar.holder = .none ∧ t.ctu.writing = none ∧
         t.ctu.value = s.ctu.value ∧
         (∀ w, s.ctu.writing = some w → t.ctu.cue = { kind := .aborted, code := some w.code, counter := s.ctu.value }) ∧
         t.tun = s.tun ∧ t.clk = s.clk ∧ t.tsc = s.tsc
       (s.mec.endAction = .stop →
         ∃ t, exec .endSensorLit s = .next t ∧ ended t ∧ t.mec.state = .threaded ∧ t.mec.pending = none) ∧
       (s.mec.endAction = .rewind →
         ∃ t, exec .endSensorLit s = .next t ∧ ended t ∧ t.mec.state = .unthreading ∧ t.mec.motionTimer = some 3600 ∧
           t.mec.pending.map PendingTarget.target = some .windRev)) ∧
     (s.pins.endLit = false → s.mec.state = .windFwd → s.mec.owner = .host → s.pwr.entry = .none → s.pins.beginLit = false →
       ∃ t, exec .endSensorLit s = .next t ∧ t.mec.reportCause = .tapeEnd ∧ t.mec.pending = none ∧
         t.mec.state = (if s.mec.endAction = .stop then TState.unthreaded else .windRev) ∧ t.tun = s.tun ∧ t.tar = s.tar ∧
         t.clk = s.clk ∧ t.tsc = s.tsc) ∧
     (s.pins.endLit = true → exec .endSensorLit s = .next (transmit s))) ∧
  (∀ s : State, s.reports = [] → s.pwr.mode = .on → s.pwr.deckUp = true →
     (s.pins.beginLit = false → s.mec.state = .searchRev →
       ∃ t, exec .beginSensorLit s = .next t ∧ t.mec.state = .threaded ∧ t.mec.drum = false ∧ t.mec.pending = none ∧
         t.mec.reportCause = .tapeBegin ∧ t.ctu.begun = true ∧ t.ctu.value = s.ctu.value ∧ t.pins.beginLit = true ∧
         t.tun = s.tun ∧ t.tar = s.tar ∧ t.clk = s.clk ∧ t.tsc = s.tsc) ∧
     (s.pins.beginLit = false → s.mec.state = .windRev → s.pwr.entry = .none →
       ∃ t, exec .beginSensorLit s = .next t ∧ t.mec.state = .unthreaded ∧ t.mec.pending = none ∧
         t.mec.reportCause = .tapeBegin ∧ t.ctu.begun = true ∧ t.ctu.value = s.ctu.value ∧ t.pins.beginLit = true ∧
         t.tun = s.tun ∧ t.tar = s.tar ∧ t.clk = s.clk ∧ t.tsc = s.tsc) ∧
     (s.pins.beginLit = true → exec .beginSensorLit s = .next (transmit s)))

/-- The stall timer expires: in PLAY, SEARCH and RECORD the route to UNTHREADED begins with the report cause STALL, and a
host's recording gives the tuner back; a wind comes to UNTHREADED with STALL; in UNTHREADING and RECOVERY FAULT is entered
with the cause REEL_STALL. A stall timer that does not run does not expire (log 1). -/
def Obligations.ReelStallUnthreadsOrFaults : Prop :=
  ∀ s : State, s.reports = [] → s.pwr.mode = .on → s.pwr.deckUp = true →
    (s.mec.stall = true → (s.mec.state = .play ∨ s.mec.state = .searchFwd ∨ s.mec.state = .searchRev) →
      ∃ t, exec .reelStall s = .next t ∧ t.mec.state = .unthreading ∧ t.mec.motionTimer = some 3600 ∧
        t.mec.reportCause = .stall ∧ t.mec.pending.map PendingTarget.target = some .unthread ∧ t.tun = s.tun ∧
        t.tar = s.tar ∧ t.clk = s.clk ∧ t.tsc = s.tsc) ∧
    (s.mec.stall = true → s.mec.state = .record → s.mec.owner = .host → s.tar.holder = .record → s.tar.origin = .host →
      s.tar.remembered = false → s.tar.syncWait = false →
      ∃ t, exec .reelStall s = .next t ∧ t.mec.state = .unthreading ∧ t.mec.motionTimer = some 3600 ∧
        t.mec.reportCause = .stall ∧ t.mec.pending.map PendingTarget.target = some .unthread ∧ t.tar.holder = .none ∧
        t.ctu.writing = none ∧ t.tun = s.tun ∧ t.clk = s.clk ∧ t.tsc = s.tsc) ∧
    (s.mec.stall = true → (s.mec.state = .windFwd ∨ s.mec.state = .windRev) → s.pwr.entry = .none →
      ∃ t, exec .reelStall s = .next t ∧ t.mec.state = .unthreaded ∧ t.mec.reportCause = .stall ∧ t.mec.drum = false ∧
        t.tun = s.tun ∧ t.tar = s.tar ∧ t.clk = s.clk ∧ t.tsc = s.tsc) ∧
    (s.mec.stall = true → (s.mec.state = .unthreading ∨ s.mec.state = .recovery) → s.tsc.active = none → s.pwr.entry = .none →
      ∃ t, exec .reelStall s = .next t ∧ t.mec.state = .fault ∧ t.mec.faultCause = .reelStall ∧
        t.stickySet .mechFault = true ∧ t.tun = s.tun ∧ t.clk = s.clk ∧ t.tsc = s.tsc) ∧
    (s.mec.stall = false → exec .reelStall s = .next (transmit s))

/-- A sensor going dark starts the stall timer again where a reel is driven and the other sensor is dark: in PLAY, the searches,
RECORD, the winds, UNTHREADING, and RECOVERY while it moves toward IN. In a state that drives no reel the timer stays stopped. -/
def Obligations.DarkSensorRestartsTheStallTimer : Prop :=
  ∀ s : State, s.reports = [] → s.pwr.mode = .on → s.pwr.deckUp = true →
    let drives : Bool :=
      match s.mec.state with
      | .play | .searchFwd | .searchRev | .record | .windFwd | .windRev | .unthreading => true
      | .recovery => s.mec.move == .toIn
      | _ => false
    exec (.endOrBeginSensorDark .endSensor) s = .next (transmit
      { s with
        pins := { s.pins with endLit := false },
        mec := { s.mec with stall := drives && !s.pins.beginLit } }) ∧
    exec (.endOrBeginSensorDark .beginSensor) s = .next (transmit
      { s with
        pins := { s.pins with beginLit := false },
        mec := { s.mec with stall := drives && !s.pins.endLit } })

/-! ### Events of the tape path -/

/-- A video frame of PLAY is judged: it is good when both phases lie within 2 % of their references, the capstan's being the
control pulse of the frame and, in a frame without one, the internal reference; a good frame takes 1 off the lock error
counter, a bad one adds 8, and the quality state follows the counter, until LOST. In LOST 128 good frames in a row lead back
to LOCKED. In a spin-up the awaited lock enters the target, RECORD with drum and capstan, RECORD_PAUSE with the drum alone,
and the tuner is held for the host's recording; without it the transport stays. LOST in a recording of the host ends it. Under
TIMER the lock of RECORD_PAUSE enters RECORD for the active occurrence, which is RECORDING: the recorded flag is set, the start
and the counter are taken where there is no start yet, the grade used is MEC's, NO_SIGNAL_SEEN is set where the tuned record is
NO_SIGNAL, and the remaining seconds are the effective stop less the reading, at most 86,400 (a stop not ahead gives 0: log 75;
one further ahead than 86,400 s a value in that range: log 74), or stay as they are under label control (log 73). The cue flag
asks for a timed mark at the first entry, with the day of month of the occurrence's own date (log 69). How a frame carries its
phases is the model's (log 33). -/
def Obligations.ServoFrameJudgesLock : Prop :=
  ∀ (d c p : Int) (s : State), s.reports = [] → s.pwr.mode = .on → s.pwr.deckUp = true → s.mec.drum = true →
    let drumIn := -200 ≤ d ∧ d ≤ 200
    let internalIn := -200 ≤ c ∧ c ≤ 200
    (s.mec.state = .play → s.mec.spin = false → s.ctu.unread < 59 →
      let capIn := if s.srv.pulsed then -200 ≤ p ∧ p ≤ 200 else internalIn
      let good := drumIn ∧ capIn
      ∃ t, exec (.servoFrame d ⟨c, p⟩) s = .next t ∧
        (t.srv.drumLock = true ↔ drumIn) ∧ (t.srv.capLock = true ↔ capIn) ∧ t.srv.pulsed = false ∧
        (s.srv.quality ≠ .lost → good → t.srv.err = s.srv.err - 1) ∧
        (s.srv.quality ≠ .lost → ¬good → t.srv.err = min 255 (s.srv.err + 8)) ∧
        (s.srv.quality ≠ .lost → s.srv.err ≤ 255 → t.srv.quality =
          if t.srv.err ≤ 95 then .locked else if t.srv.err ≤ 127 then .warn else if t.srv.err ≤ 254 then .unstable
          else .lost) ∧
        (s.srv.quality = .lost → ¬good → t.srv.quality = .lost ∧ t.srv.run = 0) ∧
        (s.srv.quality = .lost → good → s.srv.run < 127 → t.srv.quality = .lost ∧ t.srv.run = s.srv.run + 1) ∧
        (s.srv.quality = .lost → good → s.srv.run = 127 → t.srv.quality = .locked ∧ t.srv.err = 0) ∧
        t.mec = s.mec ∧ t.tun = s.tun ∧ t.tar = s.tar ∧ t.clk = s.clk ∧ t.tsc = s.tsc ∧ t.pwr = s.pwr) ∧
    (∀ q : PendingTarget, s.mec.spin = true → s.mec.pending = some q → s.mec.owner = .host → s.srv.quality = .locked →
      s.srv.err ≤ 95 → s.pins.endLit = false →
      let begun (n : TState) (t : State) : Prop :=
        t.mec.state = n ∧ t.mec.spin = false ∧ t.mec.pending = none ∧ t.mec.drum = true ∧ t.mec.grade = s.mec.grade ∧
        t.srv.quality = .locked ∧ t.tun = s.tun ∧ t.clk = s.clk ∧ t.tsc = s.tsc
      (s.mec.state = .threaded → s.tar.holder = .none →
        (q.target = .record → drumIn → internalIn →
          ∃ t, exec (.servoFrame d ⟨c, p⟩) s = .next t ∧ begun .record t ∧ t.srv.detected = some s.mec.grade ∧
            t.srv.basis = s.mec.grade ∧ t.tar.holder = .record ∧ t.tar.origin = .host) ∧
        (q.target = .recordPause → drumIn →
          ∃ t, exec (.servoFrame d ⟨c, p⟩) s = .next t ∧ begun .recordPause t ∧ t.tar.holder = .record ∧ t.tar.origin = .host) ∧
        ((q.target = .record ∧ ¬(drumIn ∧ internalIn) ∨ q.target = .recordPause ∧ ¬drumIn) →
          ∃ t, exec (.servoFrame d ⟨c, p⟩) s = .next t ∧ t.mec = s.mec ∧ t.tar = s.tar)) ∧
      (s.mec.state = .recordPause → q.target = .record → drumIn → internalIn →
        ∃ t, exec (.servoFrame d ⟨c, p⟩) s = .next t ∧ begun .record t ∧ t.tar = s.tar)) ∧
    (s.mec.state = .record → s.mec.spin = false → s.mec.owner = .host → s.srv.quality ≠ .lost → 247 ≤ s.srv.err →
      ¬(drumIn ∧ internalIn) → s.tar.holder = .record → s.tar.origin = .host → s.tar.remembered = false →
      s.tar.syncWait = false →
      ∃ t, exec (.servoFrame d ⟨c, p⟩) s = .next t ∧ t.mec.state = .threaded ∧ t.mec.drum = false ∧ t.mec.pending = none ∧
        t.mec.reportCause = .servoLost ∧ t.stickySet .servoLost = true ∧ t.srv.quality = .locked ∧ t.srv.err = 0 ∧
        t.tar.holder = .none ∧ t.ctu.writing = none ∧ t.tun = s.tun ∧ t.clk = s.clk ∧ t.tsc = s.tsc) ∧
    (∀ (q : PendingTarget) (a : Active) (e : PlanEntry), s.mec.spin = true → s.mec.pending = some q → q.target = .record →
      s.mec.state = .recordPause → s.mec.owner = .timer → s.srv.quality = .locked → s.srv.err ≤ 95 → s.pins.endLit = false →
      s.ctu.writing = none → s.tsc.active = some a → s.tsc.plan = [e] → e.slot = a.slot → e.date = a.date → drumIn →
      internalIn →
      ∃ t b, exec (.servoFrame d ⟨c, p⟩) s = .next t ∧ t.mec.state = .record ∧ t.mec.owner = .timer ∧ t.mec.spin = false ∧
        t.mec.pending = none ∧ t.mec.grade = s.mec.grade ∧ t.srv.detected = some s.mec.grade ∧
        t.tsc = { s.tsc with active := some b, plan := [{ e with state := .recording }] } ∧
        b = { a with
          state := .recording, recorded := true, remaining := b.remaining,
          run := some (match a.run with
            | none => { start := s.clk.reading, stop := none, counter := s.ctu.value, grade := s.mec.grade }
            | some r => { r with grade := s.mec.grade }),
          noSignal := a.noSignal || s.tun.tuned.state == .noSignal } ∧
        (a.control = .time → b.remaining ≤ 86400 ∧
          (e.eStop - s.clk.reading ≤ 86400 → b.remaining = e.eStop - s.clk.reading)) ∧
        (a.control = .label → b.remaining = a.remaining) ∧
        t.ctu.writing =
          (if a.recorded = false ∧ (s.slot a.slot).cue = true then
            some { code := 32768 + a.slot * 64 + (monthDayOf a.date).2, origin := .timer, pos := 1 }
           else none) ∧
        t.tun = s.tun ∧ t.tar = s.tar ∧ t.clk = s.clk ∧ t.pwr = s.pwr)

/-- The 60th frame without a pulse in PLAY sets the detected grade to BLANK and leaves the basis grade; the 60th frame unread
changes the counter source to STEP, and moves the counter by the whole frames that the step accumulator holds at the basis
grade, whose rest stays: each row takes its count to 60 at once (log 3). A reading of the MEASURE phase becomes the best reading,
and the sweep tries the offset 4 above, at most +63. A neighbour that reads higher is climbed to, and the sweep goes on past it;
one that does not is left for p, where the neighbour below is tried next, or the sweep holds and SERVO is raised; at a bound
there is no neighbour. A reading comes only from 8 levels in PLAY under AUTO, and any other, or one in HOLD, changes nothing
(log 1). -/
def Obligations.FramesWithoutPulsesAndSweep : Prop :=
  (∀ s : State, s.reports = [] → s.pwr.mode = .on → s.pwr.deckUp = true → s.mec.state = .play →
     (s.srv.noPulse < 60 →
       exec .blankDetected s = .next (transmit
         { s with
           srv := { s.srv with noPulse := 60, detected := none },
           lnk := { s.lnk with notices := s.lnk.notices ||| (0x10#12 &&& s.lnk.mask) } })) ∧
     (s.ctu.unread < 60 → s.ctu.source = .pulse → s.srv.basis = .full → s.ctu.acc < 24 →
       exec .framesUnreadLimit s = .next (transmit { s with ctu := { s.ctu with unread := 60, source := .step } }))) ∧
  (∀ s : State, s.reports = [] → s.pwr.mode = .on → s.pwr.deckUp = true →
     (s.mec.state = .play ∨ s.mec.state = .searchFwd ∨ s.mec.state = .searchRev) → s.ctu.unread < 60 →
     s.ctu.source = .pulse → s.ctu.uncertain = false → s.ctu.mArmed = false →
     let f : Nat := match s.srv.basis with | .full => 24 | .half => 12 | .third => 8
     let frames : Int := s.ctu.acc / f
     ∃ t, exec .framesUnreadLimit s = .next t ∧ t.ctu.unread = 60 ∧ t.ctu.source = .step ∧ t.ctu.acc = s.ctu.acc % f ∧
       t.ctu.value =
         (if s.ctu.acc / f = 0 then s.ctu.value
          else max (-1080000) (min 1079999 (s.ctu.value + if s.mec.state = .searchRev then -frames else frames))) ∧
       t.srv = s.srv ∧ t.mec = s.mec ∧ t.tun = s.tun ∧ t.tar = s.tar ∧ t.clk = s.clk ∧ t.tsc = s.tsc) ∧
  (∀ (levels : List Byte) (s : State), s.reports = [] → s.pwr.mode = .on → s.pwr.deckUp = true →
     (levels.length = 8 → s.mec.state = .play → s.srv.mode = .auto → s.srv.phase = .measure → s.srv.offset < 63 →
       exec (.trackingReading levels) s = .next (transmit
         { s with srv := { s.srv with
           phase := .tryUp, base := s.srv.offset, best := (levels.map BitVec.toNat).sum,
           offset := min 63 (s.srv.offset + 4) } })) ∧
     (levels.length = 8 → s.mec.state = .play → s.srv.mode = .auto →
       let r := (levels.map BitVec.toNat).sum
       let v := s.srv
       let moves (w : Srv) : Prop := exec (.trackingReading levels) s = .next (transmit { s with srv := w })
       let holds (p : Int) (best : Nat) : Prop :=
         exec (.trackingReading levels) s = .next (transmit
           { s with
             srv := { v with phase := .hold, base := p, offset := p, best := best },
             lnk := { s.lnk with notices := s.lnk.notices ||| (0x10#12 &&& s.lnk.mask) } })
       (v.phase = .measure → v.offset = 63 →
         moves { v with phase := .tryDown, base := 63, best := r, offset := 59 }) ∧
       ((v.phase = .tryUp ∨ v.phase = .climbUp) → v.best < r →
         (v.offset ≠ 63 → moves { v with phase := .climbUp, base := v.offset, best := r, offset := min 63 (v.offset + 4) }) ∧
         (v.offset = 63 → holds 63 r)) ∧
       ((v.phase = .tryDown ∨ v.phase = .climbDown) → v.best < r →
         (v.offset ≠ -64 →
           moves { v with phase := .climbDown, base := v.offset, best := r, offset := max (-64) (v.offset - 4) }) ∧
         (v.offset = -64 → holds (-64) r)) ∧
       (r ≤ v.best →
         (v.phase = .tryUp → v.base ≠ -64 → moves { v with phase := .tryDown, offset := max (-64) (v.base - 4) }) ∧
         ((v.phase = .tryUp ∧ v.base = -64 ∨ v.phase = .climbUp ∨ v.phase = .tryDown ∨ v.phase = .climbDown) →
           holds v.base v.best)) ∧
       (v.phase = .hold → moves v)) ∧
     ((levels.length ≠ 8 ∨ s.mec.state ≠ .play ∨ s.srv.mode = .fixed) →
       exec (.trackingReading levels) s = .next (transmit s)))

/-- A control pulse read moves the counter by one frame in the direction of travel, up to its ends, and takes the source back to
PULSE. A movement that reaches an armed match value, from below in PLAY or from above in SEARCH_REV, fires the match: it is
disarmed and COUNTER_MATCHED set, and under host control STOP and STOP_THEN_PLAY stop the tape; one that does not reach it
leaves it armed. The pulse that completes a mark, of 24 classes in the direction of travel, is recorded PASSED and empties
the window; a running seek whose pattern the mark meets ends FOUND with the tape stopped, or playing when that is asked for,
and one whose pattern it does not meet counts the mark, and ends NOT_FOUND at its limit. -/
def Obligations.ReadPulseMovesTheCounter : Prop :=
  (∀ (duty : Nat) (s : State), s.reports = [] → s.pwr.mode = .on → s.pwr.deckUp = true → s.ctu.uncertain = false →
     s.ctu.mArmed = false → s.ctu.seek.state = .idle →
     ((s.mec.state = .play ∨ s.mec.state = .searchFwd) →
       ∃ t, exec (.controlPulseRead duty) s = .next t ∧
         t.ctu.value = max (-1080000) (min 1079999 (s.ctu.value + 1)) ∧ t.ctu.unread = 0 ∧ t.ctu.source = .pulse ∧
         t.mec = s.mec ∧ t.tun = s.tun ∧ t.clk = s.clk ∧ t.tsc = s.tsc) ∧
     (s.mec.state = .searchRev →
       ∃ t, exec (.controlPulseRead duty) s = .next t ∧
         t.ctu.value = max (-1080000) (min 1079999 (s.ctu.value - 1)) ∧ t.ctu.unread = 0 ∧ t.ctu.source = .pulse ∧
         t.mec = s.mec ∧ t.tun = s.tun ∧ t.clk = s.clk ∧ t.tsc = s.tsc)) ∧
  (∀ (duty : Nat) (s : State), s.reports = [] → s.pwr.mode = .on → s.pwr.deckUp = true → s.ctu.uncertain = false →
     s.ctu.mArmed = true → s.ctu.mSide = .below → s.ctu.seek.state = .idle → s.mec.state = .play → s.pins.endLit = false →
     s.lnk.line.isSome →
     let v : Int := max (-1080000) (min 1079999 (s.ctu.value + 1))
     let fired (t : State) : Prop :=
       t.ctu.value = v ∧ t.ctu.mArmed = false ∧ t.reportedSet .counterMatched = true ∧ t.tun = s.tun ∧ t.tar = s.tar ∧
         t.clk = s.clk ∧ t.tsc = s.tsc
     (s.ctu.mValue ≤ v → (s.ctu.mAction = .notify ∨ s.mec.owner = .timer) →
       ∃ t, exec (.controlPulseRead duty) s = .next t ∧ fired t ∧ t.mec = s.mec) ∧
     (s.ctu.mValue ≤ v → s.ctu.mAction = .stop → s.mec.owner = .host →
       ∃ t, exec (.controlPulseRead duty) s = .next t ∧ fired t ∧ t.mec.state = .threaded ∧ t.mec.drum = false) ∧
     (s.ctu.mValue ≤ v → s.ctu.mAction = .stopThenPlay → s.mec.owner = .host → s.mec.spin = false →
       ∃ t, exec (.controlPulseRead duty) s = .next t ∧ fired t ∧ t.mec.state = .play) ∧
     (v < s.ctu.mValue →
       ∃ t, exec (.controlPulseRead duty) s = .next t ∧ t.ctu.value = v ∧ t.ctu.mArmed = true ∧ t.mec = s.mec)) ∧
  (∀ (duty : Nat) (s : State), s.reports = [] → s.pwr.mode = .on → s.pwr.deckUp = true → s.ctu.uncertain = false →
     s.ctu.mArmed = true → s.ctu.mSide = .above → s.ctu.seek.state = .idle → s.mec.state = .searchRev →
     s.pins.endLit = false → s.lnk.line.isSome →
     let v : Int := max (-1080000) (min 1079999 (s.ctu.value - 1))
     let fired (t : State) : Prop :=
       t.ctu.value = v ∧ t.ctu.mArmed = false ∧ t.reportedSet .counterMatched = true ∧ t.tun = s.tun ∧ t.tar = s.tar ∧
         t.clk = s.clk ∧ t.tsc = s.tsc
     (v ≤ s.ctu.mValue → (s.ctu.mAction = .notify ∨ s.mec.owner = .timer) →
       ∃ t, exec (.controlPulseRead duty) s = .next t ∧ fired t ∧ t.mec = s.mec) ∧
     (v ≤ s.ctu.mValue → s.ctu.mAction = .stop → s.mec.owner = .host →
       ∃ t, exec (.controlPulseRead duty) s = .next t ∧ fired t ∧ t.mec.state = .threaded ∧ t.mec.drum = false) ∧
     (v ≤ s.ctu.mValue → s.ctu.mAction = .stopThenPlay → s.mec.owner = .host → s.mec.spin = false →
       ∃ t, exec (.controlPulseRead duty) s = .next t ∧ fired t ∧ t.mec.state = .play) ∧
     (s.ctu.mValue < v →
       ∃ t, exec (.controlPulseRead duty) s = .next t ∧ t.ctu.value = v ∧ t.ctu.mArmed = true ∧ t.mec = s.mec)) ∧
  (∀ (duty c : Nat) (s : State), s.reports = [] → s.pwr.mode = .on → s.pwr.deckUp = true → s.ctu.uncertain = false →
     s.ctu.mArmed = false → s.mec.owner = .host → s.pins.endLit = false → s.lnk.line.isSome → c < 65536 →
     s.ctu.window.length ≤ 24 →
     let read : PulseClass := if duty < 4000 then .short else if duty ≤ 7000 then .normal else .long
     let last := (s.ctu.window ++ [read]).drop (s.ctu.window.length - 23)
     let mark : List PulseClass := (List.range 24).map fun i =>
       if i < 4 then .long else if i < 20 then (if c.testBit (19 - i) then .long else .short) else .short
     let k := s.ctu.seek
     let meets : Prop :=
       (∀ x, k.kind = some x → (x = .timed ↔ 32768 ≤ c)) ∧
       (∀ n, k.slot = some n → 32768 ≤ c ∧ (c - 32768) / 64 = n) ∧
       (∀ n, k.day = some n → 32768 ≤ c ∧ (c - 32768) % 64 = n) ∧ ∀ r, k.range = some r → r.1 ≤ c ∧ c ≤ r.2
     let ends (kind : CueKind) (code : Option Nat) (t : State) : Prop :=
       t.ctu.cue = { kind := kind, code := code, counter := t.ctu.value } ∧ t.ctu.window = [] ∧ t.tun = s.tun ∧
         t.tar = s.tar ∧ t.clk = s.clk ∧ t.tsc = s.tsc
     (k.state = .idle → (s.mec.state = .play ∨ s.mec.state = .searchFwd) → last = mark →
       ∃ t, exec (.controlPulseRead duty) s = .next t ∧ ends .passed (some c) t ∧ t.mec = s.mec) ∧
     (k.state = .idle → s.mec.state = .searchRev → last = mark.reverse →
       ∃ t, exec (.controlPulseRead duty) s = .next t ∧ ends .passed (some c) t ∧ t.mec = s.mec) ∧
     (k.state = .running → s.mec.state = .searchFwd → s.mec.spin = false → last = mark →
       (meets →
         ∃ t, exec (.controlPulseRead duty) s = .next t ∧ ends .found (some c) t ∧ t.ctu.seek.state = .idle ∧
           t.reportedSet .cueFound = true ∧ t.mec.state = if k.endPlay then .play else .threaded) ∧
       (¬meets → (k.limit = 0 ∨ k.passed + 1 < k.limit) →
         ∃ t, exec (.controlPulseRead duty) s = .next t ∧ ends .passed (some c) t ∧
           t.ctu.seek = { k with passed := k.passed + 1 } ∧ t.mec = s.mec) ∧
       (¬meets → k.limit ≠ 0 → k.limit ≤ k.passed + 1 →
         ∃ t, exec (.controlPulseRead duty) s = .next t ∧ ends .notFound none t ∧ t.ctu.seek.state = .idle ∧
           t.mec.state = .threaded)))

/-- A control pulse written in RECORD is of class NORMAL, or of the class that the position of the mark in writing calls for;
each class is written with a duty that is read back as that class. The pulse moves the counter by +1 and the mark by one
position; at position 24 the mark is WRITTEN and one that waits begins. A movement that reaches an armed match value from
below fires the match, and STOP under host control ends the recording. -/
def Obligations.WrittenPulseAdvancesTheMark : Prop :=
  (PulseClass.duty .short = 2500 ∧ PulseClass.duty .normal = 5500 ∧ PulseClass.duty .long = 8000 ∧
     ∀ k : PulseClass, classOf k.duty = k) ∧
  (∀ s : State, s.reports = [] → s.pwr.mode = .on → s.pwr.deckUp = true → s.mec.state = .record →
     s.ctu.uncertain = false →
     let v : Int := max (-1080000) (min 1079999 (s.ctu.value + 1))
     let fires := s.ctu.mArmed = true ∧ s.ctu.mSide = .below ∧ s.ctu.mValue ≤ v
     (s.ctu.mArmed = false ∨ s.ctu.mSide = .below → ¬(fires ∧ s.ctu.mAction ≠ .notify ∧ s.mec.owner = .host) →
       ∃ t, exec .controlPulseWrite s = .next t ∧ t.ctu.value = v ∧
         (s.ctu.writing = none → t.ctu.written = some .normal ∧ t.ctu.writing = none) ∧
         (∀ m, s.ctu.writing = some m →
           t.ctu.written = some (if m.pos ≤ 4 then .long
             else if m.pos ≤ 20 then (if m.code.testBit (20 - m.pos) then .long else .short) else .short)) ∧
         (∀ m, s.ctu.writing = some m → m.pos ≠ 24 →
           t.ctu.writing = some { m with pos := m.pos + 1 } ∧ t.ctu.waiting = s.ctu.waiting) ∧
         (∀ m, s.ctu.writing = some m → m.pos = 24 →
           t.ctu.cue = { kind := .written, code := some m.code, counter := t.ctu.value } ∧ t.ctu.waiting = none ∧
           t.ctu.writing = s.ctu.waiting.map fun w => { code := w.1, origin := w.2, pos := 1 }) ∧
         (fires → t.ctu.mArmed = false ∧ (s.lnk.line.isSome → t.reportedSet .counterMatched = true)) ∧
         (¬fires → t.ctu.mArmed = s.ctu.mArmed) ∧
         t.mec = s.mec ∧ t.tun = s.tun ∧ t.tar = s.tar ∧ t.clk = s.clk ∧ t.tsc = s.tsc) ∧
     (fires → s.ctu.mAction = .stop → s.mec.owner = .host → s.tar.holder = .record → s.tar.origin = .host →
       s.tar.remembered = false → s.tar.syncWait = false →
       ∃ t, exec .controlPulseWrite s = .next t ∧ t.ctu.value = v ∧ t.ctu.mArmed = false ∧ t.mec.state = .threaded ∧
         t.mec.drum = false ∧ t.tar.holder = .none ∧ t.ctu.writing = none ∧ t.tun = s.tun ∧ t.clk = s.clk ∧
         t.tsc = s.tsc))

/-- A capstan step is counted where the rules count it: one step more in each open revolution and in the pulse spacing in PLAY,
SEARCH and RECORD, in SRV's count in PLAY, and in the step accumulator in PLAY and SEARCH, which goes on when travel turns
(log 16). With the counter's source STEP, the step that fills a frame of the basis grade moves the counter by one frame in the
direction of travel, and the accumulator returns to 0. In every other state a step changes nothing. -/
def Obligations.CapstanStepIsCounted : Prop :=
  ∀ s : State, s.reports = [] → s.pwr.mode = .on → s.pwr.deckUp = true →
    let f : Nat := match s.srv.basis with | .full => 24 | .half => 12 | .third => 8
    let reel (r : ReelRec) : ReelRec := { r with rev := r.rev.map fun v => { v with count := min 65535 (v.count + 1) } }
    let measured : Tpe :=
      { s.tpe with
        spacing := s.tpe.spacing.map (· + 1), supply := reel s.tpe.supply, takeup := reel s.tpe.takeup }
    let reads := s.mec.state = .play ∨ s.mec.state = .searchFwd ∨ s.mec.state = .searchRev
    let srv : Srv :=
      if s.mec.state = .play then { s.srv with pulseSteps := s.srv.pulseSteps.map (· + 1) } else s.srv
    let dir : Dir := if s.mec.state = .searchRev then .rev else .fwd
    (reads → (s.ctu.source = .pulse ∨ s.ctu.acc + 1 < f) →
      exec .capstanStep s = .next (transmit
        { s with tpe := measured, srv := srv, ctu := { s.ctu with acc := s.ctu.acc + 1, accDir := dir } })) ∧
    (reads → s.ctu.source = .step → f ≤ s.ctu.acc + 1 → s.ctu.uncertain = false → s.ctu.mArmed = false →
      ∃ t, exec .capstanStep s = .next t ∧
        t.ctu.value =
          max (-1080000) (min 1079999 (s.ctu.value + if s.mec.state = .searchRev then -1 else 1)) ∧
        t.ctu.acc = 0 ∧ t.ctu.accDir = dir ∧ t.ctu.source = .step ∧ t.tpe = measured ∧ t.srv = srv ∧ t.mec = s.mec ∧
        t.tun = s.tun ∧ t.tar = s.tar ∧ t.clk = s.clk ∧ t.tsc = s.tsc) ∧
    (s.mec.state = .record → exec .capstanStep s = .next (transmit { s with tpe := measured })) ∧
    (¬reads → s.mec.state ≠ .record → exec .capstanStep s = .next (transmit s))

/-- A reel edge opens the take-up reel's revolution, advances it, or closes it: a count from 1600 to 6400 of an
unspoiled revolution is the reel's C, VALID and fresh, and the next revolution opens. A count of the supply reel out of
that range, or spoiled, makes it REJECTED with its C kept, or from REJECTED INVALID without a C and takes L_s away; a
reel that was INVALID stays so, and L_s stands. An accepted revolution of the supply reel gives L_s by the direct method,
clamped to L_T while CALIBRATED, and a new L_s is tested against 300 s and 30 s. With both reels fresh it also makes a sample,
which takes the profile from UNKNOWN to PROVISIONAL, from there to CALIBRATED when it agrees within a 64th, and back from
CALIBRATED when three in a row are off by more than a 32nd. In a wind a revolution below 20 units makes T INVALID; else, while
CALIBRATED and with both T, it gives L_s by the ratio method, and the counter moves by the whole frames between. An open
revolution of a wind that passes 65535 units makes the reel's T INVALID and is discarded; outside the winds that row changes
nothing (log 1). -/
def Obligations.ReelRevolutions : Prop :=
  (∀ (elapsed : Nat) (s : State), s.reports = [] → s.pwr.mode = .on → s.pwr.deckUp = true → s.mec.state = .play →
     let next (r : ReelRec) : Host.Outcome State Fault Refusal :=
       .next (transmit { s with tpe := { s.tpe with takeup := r } })
     (s.tpe.takeup.rev = none → exec (.reelTachoEdge .takeup elapsed) s =
       next { s.tpe.takeup with rev := some { edges := 0, count := 0, spoiled := false } }) ∧
     (∀ v, s.tpe.takeup.rev = some v → v.edges ≠ 3 → exec (.reelTachoEdge .takeup elapsed) s =
       next { s.tpe.takeup with rev := some { v with edges := v.edges + 1 } }) ∧
     (∀ v, s.tpe.takeup.rev = some v → v.edges = 3 → v.spoiled = false → 1600 ≤ v.count → v.count ≤ 6400 →
       s.tpe.supply.fresh = false → exec (.reelTachoEdge .takeup elapsed) s =
         next { s.tpe.takeup with
           c := some v.count, status := .valid, run := 0, fresh := true,
           rev := some { edges := 0, count := 0, spoiled := false } })) ∧
  (∀ (elapsed : Nat) (v : OpenRev) (s : State), s.reports = [] → s.pwr.mode = .on → s.pwr.deckUp = true →
     s.mec.state = .play → s.tpe.supply.rev = some v → v.edges = 3 →
     (v.count < 1600 ∨ 6400 < v.count ∨ v.spoiled = true) →
     let new : Option OpenRev := some { edges := 0, count := 0, spoiled := false }
     exec (.reelTachoEdge .supply elapsed) s = .next (transmit { s with tpe :=
       match s.tpe.supply.status with
       | .valid =>
         { s.tpe with supply := { s.tpe.supply with status := .rejected, run := 1, fresh := false, rev := new } }
       | .rejected =>
         { s.tpe with
           supply := { s.tpe.supply with c := none, status := .invalid, run := 0, fresh := false, rev := new }, ls := none }
       | .invalid => { s.tpe with supply := { s.tpe.supply with fresh := false, rev := new } } })) ∧
  (∀ (elapsed : Nat) (v : OpenRev) (s : State), s.reports = [] → s.pwr.mode = .on → s.pwr.deckUp = true →
     s.mec.state = .play → s.tpe.supply.rev = some v → v.edges = 3 → v.spoiled = false → 1600 ≤ v.count → v.count ≤ 6400 →
     s.tsc.active = none → s.clk.state = .unset →
     let l := (v.count ^ 2 - 2669956) * 13038 / 65536
     let r := l / (match s.srv.basis with | .full => 720 | .half => 360 | .third => 240)
     (s.tpe.takeup.fresh = false →
       ∃ t, exec (.reelTachoEdge .supply elapsed) s = .next t ∧
         t.tpe.supply = { s.tpe.supply with
           c := some v.count, status := .valid, run := 0, fresh := true,
           rev := some { edges := 0, count := 0, spoiled := false } } ∧
         t.tpe.takeup = s.tpe.takeup ∧ t.tpe.profile = s.tpe.profile ∧ t.tpe.method = .direct ∧
         (s.tpe.profile ≠ .calibrated → t.tpe.ls = some l ∧
           (s.tpe.ls ≠ some l →
             t.tpe.lowSide = (if r < 300 then TapeSide.below else .above) ∧
             t.tpe.critSide = (if r < 30 then TapeSide.below else .above) ∧
             (s.lnk.line.isSome → (r < 300 → s.tpe.lowSide ≠ .below → t.reportedSet .tapeLow = true) ∧
               (r < 30 → s.tpe.critSide ≠ .below → t.reportedSet .tapeCritical = true)))) ∧
         (∀ total, s.tpe.profile = .calibrated → s.tpe.lt = some total → t.tpe.ls = some (min l total)) ∧
         t.mec = s.mec ∧ t.ctu = s.ctu ∧ t.tun = s.tun ∧ t.clk = s.clk ∧ t.tsc = s.tsc) ∧
     (∀ ct, s.tpe.takeup.fresh = true → s.tpe.takeup.c = some ct →
       let kx := v.count ^ 2 + ct ^ 2
       let off (part : Nat) : Prop := s.tpe.k + s.tpe.k / part < kx ∨ kx + s.tpe.k / part < s.tpe.k
       ∃ t, exec (.reelTachoEdge .supply elapsed) s = .next t ∧ t.tpe.supply.c = some v.count ∧ t.tpe.supply.fresh = false ∧
         t.tpe.takeup.fresh = false ∧ t.mec = s.mec ∧ t.tun = s.tun ∧ t.clk = s.clk ∧
         (s.tpe.profile = .unknown → t.tpe.profile = .provisional ∧ t.tpe.k = kx ∧ t.tpe.ls = some l) ∧
         (s.tpe.profile = .provisional → off 64 → t.tpe.profile = .provisional ∧ t.tpe.k = kx) ∧
         (s.tpe.profile = .provisional → ¬off 64 →
           t.tpe.profile = .calibrated ∧ t.tpe.k = (s.tpe.k + kx) / 2 ∧ t.tpe.mismatch = 0 ∧
           t.tpe.lt = some ((t.tpe.k - 5339912) * 13038 / 65536) ∧
           t.tpe.ls = some (min l ((t.tpe.k - 5339912) * 13038 / 65536))) ∧
         (s.tpe.profile = .calibrated → ¬off 32 →
           t.tpe.profile = .calibrated ∧ t.tpe.k = s.tpe.k ∧ t.tpe.mismatch = 0) ∧
         (s.tpe.profile = .calibrated → off 32 → s.tpe.mismatch ≠ 2 →
           t.tpe.profile = .calibrated ∧ t.tpe.k = s.tpe.k ∧ t.tpe.mismatch = s.tpe.mismatch + 1) ∧
         (s.tpe.profile = .calibrated → off 32 → s.tpe.mismatch = 2 →
           t.tpe.profile = .provisional ∧ t.tpe.k = kx ∧ t.tpe.lt = none ∧ t.tpe.mismatch = 0))) ∧
  (∀ (elapsed : Nat) (v : OpenRev) (s : State), s.reports = [] → s.pwr.mode = .on → s.pwr.deckUp = true →
     (s.mec.state = .windFwd ∨ s.mec.state = .windRev) → s.tpe.supply.rev = some v → v.edges = 3 →
     let n := v.count + elapsed
     (n < 20 → exec (.reelTachoEdge .supply elapsed) s = .next (transmit { s with tpe := { s.tpe with
       supply := { s.tpe.supply with t := none, rev := some { edges := 0, count := 0, spoiled := false } } } })) ∧
     (∀ tt total, 20 ≤ n → n ≤ 65535 → s.ctu.mArmed = false → s.tpe.profile = .calibrated → s.tpe.lt = some total → s.tpe.takeup.t = some tt →
       let l := min ((s.tpe.k * n ^ 2 / (n ^ 2 + tt ^ 2) - 2669956) * 13038 / 65536) total
       ∃ t, exec (.reelTachoEdge .supply elapsed) s = .next t ∧ t.tpe.supply.t = some n ∧ t.tpe.takeup = s.tpe.takeup ∧
         t.tpe.ls = some l ∧ t.tpe.method = .ratio ∧ t.mec = s.mec ∧ t.tun = s.tun ∧ t.clk = s.clk ∧ t.tsc = s.tsc ∧
         (∀ ref, s.ctu.windRef = some ref → s.ctu.uncertain = false → s.tpe.ls ≠ some l →
           -1080000 ≤ s.ctu.value → s.ctu.value ≤ 1079999 →
           let f : Int := match s.srv.basis with | .full => 24 | .half => 12 | .third => 8
           let frames := (ref - l).tdiv f
           t.ctu.value = max (-1080000) (min 1079999 (s.ctu.value + frames)) ∧
             t.ctu.windRef = some (ref - frames * f)))) ∧
  (∀ s : State, s.reports = [] → s.pwr.mode = .on → s.pwr.deckUp = true →
     ((s.mec.state = .windFwd ∨ s.mec.state = .windRev) →
       (s.tpe.supply.rev.isSome →
         exec (.windRevolutionOverflow .supply) s = .next (transmit
           { s with tpe := { s.tpe with supply := { s.tpe.supply with t := none, rev := none } } })) ∧
       (s.tpe.takeup.rev.isSome →
         exec (.windRevolutionOverflow .takeup) s = .next (transmit
           { s with tpe := { s.tpe with takeup := { s.tpe.takeup with t := none, rev := none } } }))) ∧
     (s.mec.state ≠ .windFwd → s.mec.state ≠ .windRev →
       ∀ reel, exec (.windRevolutionOverflow reel) s = .next (transmit s)))

/-! ### Tuner, arbiter, data line -/

/-- TUNE. A mode outside its list, NEXT and PREVIOUS where no preset qualifies, a PRESET outside 1 to 99 or EMPTY and a DIRECT
frequency outside the range are refused with their field. NEXT and PREVIOUS take the nearest preset that is USED with its skip
flag clear, upward or downward from the last view preset and around, that preset itself last. A resolved request is refused
TUNER_HELD while RECORD holds the tuner. With the tuner free VIEW is granted for the channel, and the last view preset is its
preset, 0 for DIRECT: the tuning begins with its settle time, 20 ms in the present band and 80 ms in another, or, for the
frequency already tuned in SIGNAL or NO_SIGNAL, only the source and the preset number change. -/
def Obligations.TuneDirectBeginsATuning : Prop :=
  ∀ (mode n fine : Byte) (f : BitVec 16) (s : State), s.Listens → s.reports = [] →
    let refused (m : Byte) (r : Reason) (field : Nat) : Prop :=
      exec (.tune m n f fine) s = .next (transmit (s.answering 0x20 (.refused r field)))
    let tunes (m : Byte) (c : Channel) (src : Source) (p freq : Nat) (o : Int) : Prop :=
      let band : Band := if freq ≤ 3199 then .low else if freq ≤ 8999 then .mid else .high
      let same := (s.tun.tuned.state = .signal ∨ s.tun.tuned.state = .noSignal) ∧ s.tun.tuned.freq = freq
      (s.tar.holder = .record → refused m .tunerHeld 0) ∧
      (s.tar.holder = .none →
        ∃ t, exec (.tune m n f fine) s = .next t ∧ t.tar.holder = .view ∧ t.tar.view = some c ∧
          (same →
            t.tun = { s.tun with tuned := { s.tun.tuned with source := src, preset := p }, lastView := p } ∧ t.dld = s.dld) ∧
          (¬same → t.tun = { s.tun with
            tuned := { source := src, preset := p, freq := freq, fine := o, band := some band,
                       divider := ((freq : Int) + 760 + o).toNat, state := .settling, disagree := 0,
                       settle := some (if s.tun.tuned.band = some band then 20 else 80) },
            afc := .idle, reading := false, lastView := p }) ∧
          t.mec = s.mec ∧ t.clk = s.clk ∧ t.tsc = s.tsc ∧ t.pwr = s.pwr)
    let qualifies (p : Nat) : Prop := 1 ≤ p ∧ p ≤ 99 ∧ (s.preset p).used = true ∧ (s.preset p).skip = false
    let v := s.tun.lastView
    let up (p : Nat) : Nat := (p + 98 - min 99 v) % 99
    let down (p : Nat) : Nat := ((if v = 0 ∨ 99 < v then 100 else v) + 98 - p) % 99
    (4 ≤ mode.toNat → refused mode .fieldRange 1) ∧
    ((n.toNat = 0 ∨ 99 < n.toNat ∨ (s.preset n.toNat).used = false) → refused 0 .fieldRange 2) ∧
    (1 ≤ n.toNat → n.toNat ≤ 99 → (s.preset n.toNat).used = true →
      tunes 0 (.preset n.toNat) .preset n.toNat (s.preset n.toNat).freq (s.preset n.toNat).fine) ∧
    ((f.toNat < 900 ∨ 17240 < f.toNat) → refused 1 .fieldRange 3) ∧
    (900 ≤ f.toNat → f.toNat ≤ 17240 →
      let o : Int := max (-16) (min 15 fine.toInt)
      tunes 1 (.direct f.toNat o) .direct 0 f.toNat o) ∧
    ((∀ p, ¬qualifies p) → refused 2 .fieldRange 1 ∧ refused 3 .fieldRange 1) ∧
    (∀ p, qualifies p →
      ((∀ q, qualifies q → up p ≤ up q) → tunes 2 (.preset p) .preset p (s.preset p).freq (s.preset p).fine) ∧
      ((∀ q, qualifies q → down p ≤ down q) → tunes 3 (.preset p) .preset p (s.preset p).freq (s.preset p).fine))

/-- PRESET_PUT WRITE of an entry that is no time source, while no time-source preset exists: the entry holds what the
request carries, the network code is kept only at the same frequency, and every other entry stays; ERASE empties it. A
number outside 1 to 99 is refused with field 1. PRESET_PUT STORE_FINE stores the fine offset of the tuned channel into
its own USED preset, and no other field. -/
def Obligations.PresetTableChanges : Prop :=
  (∀ (n fine skip : Byte) (f : BitVec 16) (name : List Byte) (s : State), s.Listens → s.reports = [] →
     ((n.toNat = 0 ∨ 99 < n.toNat) →
       exec (.presetPutWrite n f fine skip 0 name) s = .next (transmit (s.answering 0x21 (.refused .fieldRange 1))) ∧
       exec (.presetPutErase n) s = .next (transmit (s.answering 0x21 (.refused .fieldRange 1))) ∧
       exec (.presetPutStoreFine n) s = .next (transmit (s.answering 0x21 (.refused .fieldRange 1)))) ∧
     (1 ≤ n.toNat → n.toNat ≤ 99 → s.hasTimeSource = false →
       (900 ≤ f.toNat → f.toNat ≤ 17240 → name.length ≤ 5 → (∀ b ∈ name, 0x20 ≤ b.toNat ∧ b.toNat ≤ 0x7E) → skip.toNat ≤ 1 →
         ∃ t, exec (.presetPutWrite n f fine skip 0 name) s = .next t ∧
           t.preset n.toNat =
             { used := true, freq := f.toNat, fine := max (-16) (min 15 fine.toInt), skip := skip == 1,
               timeSource := false, name := name,
               network := if (s.preset n.toNat).used = true ∧ (s.preset n.toNat).freq = f.toNat then
                 (s.preset n.toNat).network else none } ∧
           (∀ m, m ≠ n.toNat → t.preset m = s.preset m) ∧ t.tun.tuned = s.tun.tuned ∧ t.mec = s.mec ∧ t.tar = s.tar ∧
           t.clk = s.clk ∧ t.tsc = s.tsc) ∧
       ∃ t, exec (.presetPutErase n) s = .next t ∧ t.preset n.toNat = Preset.empty ∧
         (∀ m, m ≠ n.toNat → t.preset m = s.preset m) ∧ t.tun.tuned = s.tun.tuned ∧ t.mec = s.mec ∧ t.tar = s.tar ∧
         t.clk = s.clk ∧ t.tsc = s.tsc)) ∧
  (∀ (n : Byte) (s : State), s.Listens → s.reports = [] → 1 ≤ n.toNat → n.toNat ≤ 99 →
     s.tun.tuned.source = .preset → s.tun.tuned.preset = n.toNat → (s.preset n.toNat).used = true →
     (s.tun.tuned.state = .signal ∨ s.tun.tuned.state = .noSignal) →
     ∃ t, exec (.presetPutStoreFine n) s = .next t ∧
       t.preset n.toNat = { s.preset n.toNat with fine := max (-16) (min 15 s.tun.tuned.fine) } ∧
       (∀ m, m ≠ n.toNat → t.preset m = s.preset m) ∧ t.tun.tuned = s.tun.tuned ∧ t.mec = s.mec ∧ t.tar = s.tar ∧
       t.clk = s.clk ∧ t.tsc = s.tsc)

/-- SCAN and VIEW_END: START with the tuner free tunes the start position with the scan RUNNING; CONTINUE is refused
unless the scan is PAUSED, and goes on from the station; STOP ends a scan STOPPED and frees the tuner; VIEW_END frees
it. -/
def Obligations.ScanRequestsRunTheScan : Prop :=
  ∀ s : State, s.Listens → s.reports = [] →
    (∀ f : BitVec 16, 900 ≤ f.toNat → f.toNat ≤ 17240 → s.tar.holder = .none →
      ∃ t, exec (.scanStart f 0) s = .next t ∧ t.tar.holder = .scan ∧ t.tun.scan.state = .running ∧
        t.tun.scan.start = f.toNat ∧ t.tun.scan.pos = f.toNat ∧ t.tun.scan.found = 0 ∧ t.tun.scan.stored = 0 ∧
        t.tun.scan.auto = false ∧ t.tun.tuned.state = .scanning ∧ t.tun.tuned.freq = f.toNat ∧
        t.tun.presets = s.tun.presets ∧ t.mec = s.mec ∧ t.clk = s.clk ∧ t.tsc = s.tsc) ∧
    (s.tun.scan.state ≠ .paused → exec .scanContinue s = .next (transmit (s.answering 0x23 (.refused .fieldRange 1)))) ∧
    (s.tun.scan.state = .paused → s.tun.scan.wrapped = false → s.tun.scan.finePos + 20 ≤ 17240 →
      ∃ t, exec .scanContinue s = .next t ∧ t.tun.scan.state = .running ∧ t.tun.tuned.state = .scanning ∧
        t.tun.tuned.freq = s.tun.scan.finePos + 20 ∧ t.tun.scan.pos = s.tun.scan.finePos + 20 ∧ t.mec = s.mec ∧
        t.tar = s.tar ∧ t.clk = s.clk ∧ t.tsc = s.tsc) ∧
    (s.tun.scan.state = .idle → exec .scanStop s = .next (transmit (s.answering 0x23 (.ok .scan)))) ∧
    (s.tun.scan.state ≠ .idle → s.tar.holder = .scan → s.tar.syncWait = false →
      ∃ t, exec .scanStop s = .next t ∧ t.tun.scan.state = .idle ∧ t.tun.scan.cause = .stopped ∧ t.tar.holder = .none ∧
        t.mec = s.mec ∧ t.clk = s.clk ∧ t.tsc = s.tsc) ∧
    (s.tar.holder = .none → exec .viewEnd s = .next (transmit (s.answering 0x24 (.ok .empty)))) ∧
    (s.tar.holder = .view → s.tar.syncWait = false →
      ∃ t, exec .viewEnd s = .next t ∧ t.tar.holder = .none ∧ t.tun = s.tun ∧ t.mec = s.mec ∧ t.clk = s.clk ∧
        t.tsc = s.tsc)

/-- The settle timer of an ordinary tuning expires: SIGNAL when carrier and sync are present, else NO_SIGNAL; the
readings start, and AFC starts in TRACKING for SIGNAL. -/
def Obligations.TuningCompletesInSignalOrNot : Prop :=
  ∀ (carrier sync : Bool) (s : State), s.reports = [] → s.tun.tuned.state = .settling → s.tun.tuned.settle.isSome →
    s.tar.holder ≠ .record →
    ∃ t, exec (.tuningComplete carrier sync) s = .next t ∧
      t.tun = { s.tun with
        tuned := { s.tun.tuned with state := if carrier && sync then .signal else .noSignal, settle := none },
        afc := if carrier && sync then .tracking else .idle, reading := true } ∧
      t.mec = s.mec ∧ t.tar = s.tar ∧ t.clk = s.clk ∧ t.tsc = s.tsc ∧ t.pwr = s.pwr

/-- R90 and R91: a reading that disagrees is counted, and the third in a row changes the state; while SIGNAL holds,
the discriminator moves the fine offset by one step, and AFC_LIMIT is reached at 16 and at -16. The change to NO_SIGNAL stops
AFC with the fine offset held. -/
def Obligations.DetectorReadingsDebounceAndTrack : Prop :=
  ∀ (disc : Disc) (s : State), s.reports = [] → s.tun.reading = true → s.tsc.active = none →
    (∀ carrier sync : Bool, s.tun.tuned.state = .noSignal → (carrier && sync) = true →
      ∃ t, exec (.detectorReading carrier sync disc) s = .next t ∧
        (s.tun.tuned.disagree < 2 → t.tun.tuned.state = .noSignal ∧ t.tun.tuned.disagree = s.tun.tuned.disagree + 1) ∧
        (2 ≤ s.tun.tuned.disagree → t.tun.tuned.state = .signal ∧ t.tun.tuned.disagree = 0 ∧ t.tun.afc = .tracking) ∧
        t.tun.tuned.freq = s.tun.tuned.freq ∧ t.mec = s.mec ∧ t.tar = s.tar ∧ t.clk = s.clk ∧ t.tsc = s.tsc) ∧
    (∀ carrier sync : Bool, s.tun.tuned.state = .signal → (carrier && sync) = false →
      ∃ t, exec (.detectorReading carrier sync disc) s = .next t ∧
        (s.tun.tuned.disagree < 2 → t.tun.tuned.state = .signal ∧ t.tun.tuned.disagree = s.tun.tuned.disagree + 1) ∧
        (2 ≤ s.tun.tuned.disagree →
          t.tun.tuned.state = .noSignal ∧ t.tun.tuned.disagree = 0 ∧ t.tun.afc = .idle ∧
            t.tun.tuned.fine = s.tun.tuned.fine) ∧
        t.tun.tuned.freq = s.tun.tuned.freq ∧ t.mec = s.mec ∧ t.tar = s.tar ∧ t.clk = s.clk ∧ t.tsc = s.tsc) ∧
    (s.tun.tuned.state = .signal →
      ∃ t, exec (.detectorReading true true disc) s = .next t ∧ t.tun.tuned.state = .signal ∧ t.tun.tuned.disagree = 0 ∧
        (disc = .centre → t.tun.tuned.fine = s.tun.tuned.fine ∧ t.tun.afc = .centred) ∧
        (disc = .low → s.tun.tuned.fine < 15 → t.tun.tuned.fine = s.tun.tuned.fine + 1 ∧ t.tun.afc = .tracking) ∧
        (disc = .high → -15 < s.tun.tuned.fine → t.tun.tuned.fine = s.tun.tuned.fine - 1 ∧ t.tun.afc = .tracking) ∧
        (disc = .low → s.tun.tuned.fine = 15 → t.tun.tuned.fine = 16 ∧ t.tun.afc = .limit) ∧
        (disc = .low → s.tun.tuned.fine = 16 → t.tun.tuned.fine = 16 ∧ t.tun.afc = .limit) ∧
        (disc = .high → s.tun.tuned.fine = -15 → t.tun.tuned.fine = -16 ∧ t.tun.afc = .limit) ∧
        (disc = .high → s.tun.tuned.fine = -16 → t.tun.tuned.fine = -16 ∧ t.tun.afc = .limit) ∧
        t.mec = s.mec ∧ t.tar = s.tar ∧ t.clk = s.clk ∧ t.tsc = s.tsc)

/-- The scan's three readings: no carrier at the end of a dwell moves on by 20 steps with a 25 ms dwell in the same band and 80
ms in another; a fine reading LOW moves one step up, with 20 ms in the same band; a station at the end of the final hold is
counted and, without auto-store, pauses the scan in SIGNAL. -/
def Obligations.ScanReadingsStepTheScan : Prop :=
  ∀ s : State, s.reports = [] → s.tun.scan.state = .running → s.tun.tuned.state = .scanning → s.tun.scan.wrapped = false →
    let band (f : Nat) : Band := if f ≤ 3199 then .low else if f ≤ 8999 then .mid else .high
    (s.tun.scan.phase = .dwell → s.tun.scan.pos + 20 ≤ 17240 →
      ∀ sync disc, ∃ t, exec (.scanDwellEnd false sync disc) s = .next t ∧ t.tun.scan.pos = s.tun.scan.pos + 20 ∧
        t.tun.tuned.freq = s.tun.scan.pos + 20 ∧
        t.tun.tuned.settle = some (if s.tun.tuned.band = some (band (s.tun.scan.pos + 20)) then 25 else 80) ∧ t.tun.tuned.state = .scanning ∧ t.tun.scan.found = s.tun.scan.found ∧
        t.mec = s.mec ∧ t.tar = s.tar ∧ t.clk = s.clk ∧ t.tsc = s.tsc) ∧
    (s.tun.scan.phase = .fine → s.tun.scan.stepUp ≠ some false → s.tun.scan.steps < 19 → s.tun.scan.finePos + 1 ≤ 17240 →
      900 ≤ s.tun.scan.finePos →
      ∀ sync, ∃ t, exec (.scanFineStepEnd true sync .low) s = .next t ∧ t.tun.scan.finePos = s.tun.scan.finePos + 1 ∧
        t.tun.tuned.freq = s.tun.scan.finePos + 1 ∧
        t.tun.tuned.settle = some (if s.tun.tuned.band = some (band (s.tun.scan.finePos + 1)) then 20 else 80) ∧ t.tun.scan.steps = s.tun.scan.steps + 1 ∧ t.mec = s.mec ∧
        t.tar = s.tar ∧ t.clk = s.clk ∧ t.tsc = s.tsc) ∧
    (s.tun.scan.phase = .hold → s.tun.scan.auto = false →
      ∃ t, exec (.scanFinalHoldEnd true true) s = .next t ∧ t.tun.scan.state = .paused ∧
        t.tun.scan.found = min 255 (s.tun.scan.found + 1) ∧ t.tun.scan.last = some s.tun.scan.finePos ∧
        t.tun.tuned.state = .signal ∧ t.tun.presets = s.tun.presets ∧ t.mec = s.mec ∧ t.tar = s.tar ∧ t.clk = s.clk ∧
        t.tsc = s.tsc)

/-- The arbiter's timers: the wait limit takes the waiting SYNC away with WAIT_LIMIT, the minimum hold ends with no
effect while no host request waits, and with a VIEW request waiting it ends SYNC with ABANDONED and grants VIEW, and the hold
limit ends SYNC with TIMEOUT and frees the tuner. A waiting SYNC is granted when the tuner is freed, as at VIEW_END. A timer that
does not run does not expire (log 1). -/
def Obligations.SyncTimersEndSync : Prop :=
  ∀ s : State, s.reports = [] → s.pwr.mode = .on →
    (s.tar.waitTimer = true →
      ∃ t, exec .syncWaitLimit s = .next t ∧ t.tar.syncWait = false ∧ t.tar.waitTimer = false ∧
        t.tar.lastSync = .waitLimit ∧ t.clk.lastSync = .waitLimit ∧ t.clk.request = .none ∧ t.clk.retry = some 0 ∧
        t.mec = s.mec ∧ t.tun = s.tun ∧ t.tsc = s.tsc) ∧
    (s.tar.minHold = true → s.tar.hostWait = none →
      exec .minimumHoldExpiry s = .next (transmit { s with tar := { s.tar with minHold := false } })) ∧
    (∀ c, s.tar.minHold = true → s.tar.hostWait = some (.view c) →
      ∃ t, exec .minimumHoldExpiry s = .next t ∧ t.tar.holder = .view ∧ t.tar.view = some c ∧ t.tar.hostWait = none ∧
        t.tar.minHold = false ∧ t.tar.holdLimit = false ∧ t.tar.lastSync = .abandoned ∧ t.clk.lastSync = .abandoned ∧
        t.clk.request = .none ∧ t.clk.retry = some 0 ∧ (s.lnk.line.isSome → t.lnk.reply = some (.accepted .tuned)) ∧
        t.mec = s.mec ∧ t.tsc = s.tsc) ∧
    (∀ n, s.Listens → s.tar.holder = .view → s.tar.syncWait = true → s.pwr.deckUp = true → s.syncPreset = some n →
      ∃ t, exec .viewEnd s = .next t ∧ t.tar.holder = .sync ∧ t.tar.syncWait = false ∧ t.tar.waitTimer = false ∧
        t.tar.minHold = true ∧ t.tar.holdLimit = true ∧ t.clk.request = .holding ∧ t.tun.tuned.preset = n ∧
        t.mec = s.mec ∧ t.tsc = s.tsc) ∧
    (s.tar.holdLimit = true → s.tar.syncWait = false →
      ∃ t, exec .holdLimitExpiry s = .next t ∧ t.tar.holder = .none ∧ t.tar.lastSync = .timeout ∧
        t.tar.holdLimit = false ∧ t.clk.lastSync = .timeout ∧ t.clk.request = .none ∧ t.clk.retry = some 0 ∧
        t.mec = s.mec ∧ t.tun = s.tun ∧ t.tsc = s.tsc) ∧
    (s.tar.waitTimer = false → exec .syncWaitLimit s = .next (transmit s)) ∧
    (s.tar.minHold = false → exec .minimumHoldExpiry s = .next (transmit s)) ∧
    (s.tar.holdLimit = false → exec .holdLimitExpiry s = .next (transmit s))

/-- A packet is taken only while the tuned record is SIGNAL (R112); one with a byte of even parity only counts, saturating at
255. -/
def Obligations.BadPacketsAreCounted : Prop :=
  ∀ (bytes : List Byte) (s : State), s.reports = [] → bytes.length = 12 →
    (s.tun.tuned.state ≠ .signal → exec (.packetArrival bytes) s = .next (transmit s)) ∧
    (s.tun.tuned.state = .signal → (∃ b ∈ bytes, oddParity b = false) →
      exec (.packetArrival bytes) s = .next (transmit
        { s with dld := { s.dld with bad := min 255 (s.dld.bad + 1) } }))

/-- A packet of good parity (bit 7 is the parity bit: log 32). A NAME segment that meets an EMPTY assembly, or one of another
code, starts it (R117): the network code, the 8 characters at their place among spaces, and that segment alone received; a further
segment of the same code joins it, and the one that completes the record (R118) names the receiving preset with its first 5
characters, where that preset has the record's code and no name. The first valid TIME packet from a time-source preset
becomes the candidate with age 0 and raises no notice (log 85), and one that agrees with the candidate is applied: the clock becomes BROADCAST and moves
when it is more than 1 s off, or a MANUAL clock more than 12 hours away stands with SYNC_DISAGREE. A LABEL packet teaches
the receiving preset its network code. A selected LABEL item is counted and enters the capture buffer: the front, the back,
or the back again with PACKET_OVERRUN (R122); the PACKET notice hands the front over, and the back follows it. A type byte of none
of the three changes nothing. -/
def Obligations.PacketsAreHandedOver : Prop :=
  (∀ (bytes : List Byte) (s : State), s.reports = [] → bytes.length = 12 → s.tun.tuned.state = .signal →
    (∀ b ∈ bytes, oddParity b = true) →
    let data := bytes.map fun b => b.toNat % 128
    let at' (i : Nat) : Nat := data.getD i 0
    let code : BitVec 12 := BitVec.ofNat 12 (at' 1 + 128 * (at' 2 % 32))
    let seg := at' 3 % 4
    let new := ((data.drop 4).take 8).map nameChar
    let stored (chars : List Byte) : List Byte := chars.take (8 * seg) ++ new ++ chars.drop (8 * seg + 8)
    (at' 0 = 0x23 → (s.dld.asm = .empty ∨ s.dld.asmCode ≠ some code) →
      exec (.packetArrival bytes) s = .next (transmit
        { s with dld := { s.dld with
            asm := .assembling, asmCode := some code, segs := 1#4 <<< seg,
            chars := List.replicate (8 * seg) 0x20 ++ new ++ List.replicate (24 - 8 * seg) 0x20 } })) ∧
    (at' 0 = 0x23 → s.dld.asm = .assembling → s.dld.asmCode = some code → s.dld.segs ||| 1#4 <<< seg ≠ 0xF#4 →
      exec (.packetArrival bytes) s = .next (transmit
        { s with dld := { s.dld with segs := s.dld.segs ||| 1#4 <<< seg, chars := stored s.dld.chars } })) ∧
    (at' 0 = 0x23 → s.dld.asm = .assembling → s.dld.asmCode = some code → s.dld.segs ||| 1#4 <<< seg = 0xF#4 →
      ∃ t, exec (.packetArrival bytes) s = .next t ∧ t.dld.asm = .complete ∧ t.dld.chars = stored s.dld.chars ∧
        (let n := s.receivingPreset
         let named := n ≠ 0 ∧ (s.preset n).network = some code ∧ (s.preset n).name = []
         (¬named → t.tun = s.tun) ∧
         (named → n ≤ 99 →
           (∃ k, (t.preset n).name ++ List.replicate k 0x20 = (stored s.dld.chars).take 5) ∧
             (t.preset n).name.getLast? ≠ some 0x20 ∧
             t.preset n = { s.preset n with name := (t.preset n).name } ∧ (∀ m, m ≠ n → t.preset m = s.preset m) ∧
             t.tun.lastChanged = n)) ∧
        t.tun.tuned = s.tun.tuned ∧ t.mec = s.mec ∧ t.tar = s.tar ∧ t.clk = s.clk ∧ t.tsc = s.tsc) ∧
    (∀ d : DateTime, at' 0 = 0x21 → timeOf data = some d → -48 ≤ signed7 (at' 8) → signed7 (at' 8) ≤ 56 →
      s.fromTimeSource = true → s.dld.sel.getLsbD 0 = false →
      (s.clk.candidate = none →
        exec (.packetArrival bytes) s = .next (transmit
          { s with clk := { s.clk with
              candidate :=
                some { utc := d.instant, offset := signed7 (at' 8), summer := at' 9 % 2 == 1, age := 0 } } })) ∧
      (∀ k : Candidate, s.clk.candidate = some k → s.pwr.mode = .on → s.clk.source = .broadcast → s.clk.syncOn = false →
        s.clk.request = .none → s.tsc.active = none → s.tsc.plan = [] → (∀ n, (s.slot n).state ≠ .armed) →
        -64 ≤ ((d.instant : Int) - k.utc) * 64 - k.age → ((d.instant : Int) - k.utc) * 64 - k.age ≤ 64 →
        let r : Int := (d.instant : Int) + signed7 (at' 8) * 900
        let diff : Int := r - s.clk.reading
        0 ≤ r → r < (rangeSeconds : Int) →
        let concluded (c : Clk) : Clk := { c with candidate := none, visitAge := some 0, visitTicks := 0, retry := none }
        let moved := diff < -1 ∨ 1 < diff
        (¬(s.clk.state = .manual ∧ (diff < -43200 ∨ 43200 < diff)) →
          ∃ t, exec (.packetArrival bytes) s = .next t ∧
            t.clk = { concluded s.clk with
              state := .broadcast, now := if moved then DateTime.ofInstant r.toNat else s.clk.now,
              sub := if moved then 0 else s.clk.sub, summer := if at' 9 % 2 = 1 then .summer else .standard,
              offset := signed7 (at' 8) } ∧
            t.mec = s.mec ∧ t.tun = s.tun ∧ t.tar = s.tar ∧ t.pwr = s.pwr ∧ t.tsc.slots = s.tsc.slots) ∧
        (s.clk.state = .manual → (diff < -43200 ∨ 43200 < diff) →
          ∃ t, exec (.packetArrival bytes) s = .next t ∧ t.clk = { concluded s.clk with lastSync := .disagree } ∧
            t.stickySet .syncDisagree = true ∧ t.mec = s.mec ∧ t.tun = s.tun ∧ t.tar = s.tar ∧ t.pwr = s.pwr ∧
            t.tsc = s.tsc))) ∧
    (at' 0 = 0x22 → s.receivingPreset ≠ 0 → (s.preset s.receivingPreset).network ≠ some code → s.tsc.active = none →
      s.dld.sel.getLsbD 1 = false →
      ∃ t, exec (.packetArrival bytes) s = .next t ∧
        t.preset s.receivingPreset = { s.preset s.receivingPreset with network := some code } ∧
        (∀ n, n ≠ s.receivingPreset → t.preset n = s.preset n) ∧ t.tun.lastChanged = s.receivingPreset ∧
        t.tun.tuned = s.tun.tuned ∧ t.mec = s.mec ∧ t.tar = s.tar ∧ t.clk = s.clk ∧ t.tsc = s.tsc ∧ t.pwr = s.pwr) ∧
    (at' 0 = 0x22 → s.receivingPreset = 0 → s.tsc.active = none →
      let open' := s.dld.sel.getLsbD 1 = true ∧ s.pwr.mode = .on ∧ s.lnk.mask.getLsbD 6 = true
      let item : Capture :=
        { type := .label, count := (s.dld.count + 1) % 256, preset := 0,
          data := ((data.drop 1).take 6).map (BitVec.ofNat 8) }
      let captured (d : Dld) (l : Lnk) : Prop :=
        exec (.packetArrival bytes) s = .next (transmit { s with dld := { d with count := (s.dld.count + 1) % 256 }, lnk := l })
      (¬open' → exec (.packetArrival bytes) s = .next (transmit s)) ∧
      (open' → s.dld.front = none →
        captured { s.dld with front := some item, back := none }
          { s.lnk with notices := s.lnk.notices ||| (0x40#12 &&& s.lnk.mask) }) ∧
      (open' → s.dld.front.isSome → s.dld.back = none → captured { s.dld with back := some item } s.lnk) ∧
      (open' → s.dld.front.isSome → s.dld.back.isSome →
        captured { s.dld with back := some item } { s.lnk with sticky := s.lnk.sticky ||| 0x40#8 })) ∧
    (at' 0 ≠ 0x21 → at' 0 ≠ 0x22 → at' 0 ≠ 0x23 → exec (.packetArrival bytes) s = .next (transmit s))) ∧
  (∀ s : State, s.lnk.line = none → s.linkAwake = true → s.lnk.parts = [] → s.lnk.reply = none →
    s.pendingNotice .packet = true → (∀ m : Notice, m.bit < 6 → s.pendingNotice m = false) → s.lnk.mask.getLsbD 6 = true →
    (transmit s).lnk.line = some (frameOf 0x46 (noticeBody s .packet)) ∧ (transmit s).dld.front = s.dld.back ∧
      (transmit s).dld.back = none ∧ (transmit s).pendingNotice .packet = s.dld.back.isSome)

/-! ### The clock -/

/-- One tick: the prescaler is loaded with 512, the sub-second counter takes one step and, at its 64th tick, the clock
advances by one second with its carries; the candidate, the visit age and the retry timer count the tick, and a
candidate older than 30 s goes, without a notice (log 85). At the carry of the seconds the prescaler takes the trim. -/
def Obligations.TicksMakeSeconds : Prop :=
  ∀ s : State, s.reports = [] → (s.clk.visitAge = none ∨ s.clk.visitTicks < 3839) →
    (∀ e, s.clk.retry = some e → e < 57599) →
    let ticked : Clk :=
      { s.clk with
        prescaler := 512,
        candidate := s.clk.candidate.bind fun k => if k.age < 1920 then some { k with age := k.age + 1 } else none,
        visitTicks := if s.clk.visitAge.isNone then s.clk.visitTicks else s.clk.visitTicks + 1,
        retry := s.clk.retry.map (· + 1) }
    (s.clk.sub < 63 →
      exec .clockTick s = .next (transmit { s with clk := { ticked with sub := s.clk.sub + 1 } })) ∧
    (s.clk.sub = 63 → s.tsc.active = none → s.clk.ruleInForce = none → s.clk.now.year ≤ 99 →
      (s.clk.now.second < 59 →
        exec .clockTick s = .next (transmit
          { s with clk := { ticked with sub := 0, now := { s.clk.now with second := s.clk.now.second + 1 } } })) ∧
      (s.clk.now.second = 59 → s.clk.now.minute < 59 →
        exec .clockTick s = .next (transmit
          { s with clk := { ticked with
              sub := 0, prescaler := (512 - 2 * s.clk.trim).toNat,
              now := { s.clk.now with second := 0, minute := s.clk.now.minute + 1 } } })))

/-- CLOCK_SECOND_ADVANCE takes the ticks that are left of the present second (the model's reading of the row: log 3):
the seconds carry into the minutes, and so on through the hours, the days of the month, the months and the years; past
the end of 2099 the clock wraps to its reset value and is UNSET, also one that was set, with no occurrence planned; CLOCK is
raised by it, and in BACKUP, where nothing is raised, it is recorded that a change occurred (log 47). -/
def Obligations.SecondsCarry : Prop :=
  (∀ s : State, s.reports = [] → s.clk.visitAge = none → s.clk.retry = none → s.clk.candidate = none → s.tsc.active = none →
    s.clk.ruleInForce = none → s.clk.state = .unset → s.clk.now.valid = true →
    let d := s.clk.now
    ∃ t, exec .clockSecondAdvance s = .next t ∧ t.clk.sub = 0 ∧ t.clk.state = .unset ∧
      (d.second < 59 → t.clk.now = { d with second := d.second + 1 }) ∧
      (d.second = 59 → d.minute < 59 → t.clk.now = { d with second := 0, minute := d.minute + 1 }) ∧
      (d.second = 59 → d.minute = 59 → d.hour < 23 →
        t.clk.now = { d with second := 0, minute := 0, hour := d.hour + 1 }) ∧
      (d.second = 59 → d.minute = 59 → d.hour = 23 →
        (d.day < monthLength d.year d.month →
          t.clk.now = { d with second := 0, minute := 0, hour := 0, day := d.day + 1 }) ∧
        (d.day = monthLength d.year d.month → d.month < 12 →
          t.clk.now = { d with second := 0, minute := 0, hour := 0, day := 1, month := d.month + 1 }) ∧
        (d.day = monthLength d.year d.month → d.month = 12 → d.year < 99 →
          t.clk.now = { d with second := 0, minute := 0, hour := 0, day := 1, month := 1, year := d.year + 1 }) ∧
        (d.day = monthLength d.year d.month → d.month = 12 → d.year = 99 →
          t.clk.now = { year := 0, month := 1, day := 1, hour := 0, minute := 0, second := 0 })) ∧
      t.mec = s.mec ∧ t.tun = s.tun ∧ t.tar = s.tar ∧ t.pwr = s.pwr ∧ t.tsc.slots = s.tsc.slots) ∧
  (∀ s : State, s.reports = [] → s.clk.retry = none → s.clk.candidate = none → s.tsc.active = none → s.tsc.plan = [] →
    s.clk.syncOn = false → s.clk.ruleInForce = none → (s.clk.state = .manual ∨ s.clk.state = .broadcast) →
    s.clk.now = { year := 99, month := 12, day := 31, hour := 23, minute := 59, second := 59 } →
    ∃ t, exec .clockSecondAdvance s = .next t ∧ t.clk.state = .unset ∧ t.clk.sub = 0 ∧
      t.clk.now = { year := 0, month := 1, day := 1, hour := 0, minute := 0, second := 0 } ∧ t.tsc.plan = [] ∧
      t.tsc.slots = s.tsc.slots ∧ (s.pwr.mode = .backup → t.clk.changed = true) ∧
      (s.pwr.mode ≠ .backup → s.lnk.line.isSome → s.lnk.mask.getLsbD 7 = true → t.pendingNotice .clock = true) ∧
      t.mec = s.mec ∧ t.tun = s.tun ∧ t.tar = s.tar ∧ t.pwr = s.pwr)

/-- R132, for a clock that is UNSET or was set: the advance that would reach the start instant shows one hour later in SUMMER, the
one that would reach the end instant shows one hour earlier in REPEATED, and the one that reaches it in REPEATED ends in STANDARD
with the reading unmoved. The first two hand TSC a JUMP report: with no occurrence active and no slot ARMED the plan is rebuilt
and stays empty, and a recording under TIMER keeps the seconds it has left while its effective stop moves with the clock. CLOCK is
raised by each of the three, PLAN by the rebuild. In BACKUP, where nothing is reported, it is recorded that a change
occurred. -/
def Obligations.SummerTimeMovesTheClock : Prop :=
  ∀ (r : SummerRule) (s : State), s.reports = [] → s.clk.source = .rule → s.clk.rule = some r → s.clk.sub = 63 →
    s.clk.visitAge = none → s.clk.retry = none → s.clk.now.next.year ≤ 99 →
    let i := s.clk.now.next.instant
    let raised (n : Notice) (t : State) : Prop := s.lnk.mask.getLsbD n.bit = true → t.pendingNotice n = true
    let shows (now : DateTime) (m : Summer) (quarters : Int) (t : State) : Prop :=
      t.clk.now = now ∧ t.clk.summer = m ∧ t.clk.offset = s.clk.offset + quarters ∧ t.clk.state = s.clk.state ∧
        t.mec = s.mec ∧ t.tun = s.tun ∧ t.tar = s.tar ∧ t.pwr = s.pwr ∧ t.tsc.slots = s.tsc.slots ∧
        (s.pwr.mode = .backup → t.clk.changed = true) ∧
        (s.pwr.mode ≠ .backup → s.lnk.line.isSome → raised .clock t)
    let rebuilt (t : State) : Prop := s.pwr.mode ≠ .backup → t.tsc.plan = [] ∧ (s.lnk.line.isSome → raised .plan t)
    let starts := s.clk.summer = .standard ∧ i = r.startAt (instantYear i)
    let ends (m : Summer) : Prop := s.clk.summer = m ∧ i = r.endAt (instantYear i)
    (s.tsc.active = none → (s.clk.state = .unset ∨ (s.tsc.plan = [] ∧ ∀ n, (s.slot n).state ≠ .armed)) →
      (starts → ∃ t, exec .clockTick s = .next t ∧ shows (DateTime.ofInstant (i + 3600)) .summer 4 t ∧ rebuilt t) ∧
      (ends .summer → ∃ t, exec .clockTick s = .next t ∧ shows (DateTime.ofInstant (i - 3600)) .repeated (-4) t ∧ rebuilt t) ∧
      (ends .repeated → ∃ t, exec .clockTick s = .next t ∧ shows s.clk.now.next .standard 0 t ∧ t.tsc = s.tsc)) ∧
    (∀ (a : Active) (e : PlanEntry), s.tsc.active = some a → s.tsc.plan = [e] → e.slot = a.slot → e.date = a.date →
      a.state = .recording → a.control = .time → e.state = .recording → e.conflict = .clear → s.clk.state ≠ .unset →
      s.pwr.mode ≠ .backup →
      (∀ n, (s.slot n).state = .armed →
        (s.slot n).recurrence = .once ∧ (s.slot n).once = a.date ∧ (s.slot n).guard = some a.date) →
      let runsOn (stop : Nat) (t : State) : Prop :=
        t.tsc.active = some { a with remaining := a.remaining - 1 } ∧
          ∃ v, t.tsc.plan = [{ e with eStop := stop, fit := v }]
      (starts →
        ∃ t, exec .clockTick s = .next t ∧ shows (DateTime.ofInstant (i + 3600)) .summer 4 t ∧ runsOn (e.eStop + 3600) t) ∧
      (ends .summer →
        ∃ t, exec .clockTick s = .next t ∧ shows (DateTime.ofInstant (i - 3600)) .repeated (-4) t ∧
          runsOn (e.eStop - 3600) t))

/-- The settings. SET_TIME of a clock that is UNSET, with no event in a slot and sync disabled: the reading is the one
given, the sub-second counter is 0, the state MANUAL. The first field out of range is refused with its number: year, month,
day of the month, hours, with the hour that the forward transition skips, minutes, seconds. So are ZONE_PUT's fields, the
lowest first (log 50), the presence of the rule among them, those of the rule only where it is present, and an end month
equal to the start month. ZONE_PUT of a clock that is not BROADCAST stores the zone, the source and the rule, and evaluates
the present reading. SYNC_PUT DISABLE with nothing requested, and ENABLE with no time source, store the setting
and raise no notice (log 85). -/
def Obligations.ClockSettingsStore : Prop :=
  ∀ s : State, s.Listens → s.reports = [] →
    (∀ (y mo d h mi sec : Byte) (now : DateTime),
      bcd y = some now.year → bcd mo = some now.month → bcd d = some now.day → bcd h = some now.hour →
      bcd mi = some now.minute → bcd sec = some now.second → now.valid = true → s.clk.state = .unset →
      s.tsc.active = none → s.tsc.plan = [] → (∀ n, (s.slot n).state ≠ .armed) → s.clk.syncOn = false →
      s.clk.source = .rule → s.clk.rule = none →
      ∃ t, exec (.clockPutSetTime y mo d h mi sec) s = .next t ∧
        t.clk = { s.clk with now := now, sub := 0, state := .manual, summer := .standard, offset := s.clk.zone } ∧
        t.mec = s.mec ∧ t.srv = s.srv ∧ t.ctu = s.ctu ∧ t.tpe = s.tpe ∧ t.tun = s.tun ∧ t.tar = s.tar ∧ t.pwr = s.pwr ∧
        t.tsc.slots = s.tsc.slots ∧ t.tsc.plan = []) ∧
    (∀ (y mo d h mi sec : Byte), bcd y = none →
      exec (.clockPutSetTime y mo d h mi sec) s = .next (transmit (s.answering 0x30 (.refused .fieldRange 2)))) ∧
    (∀ (y mo d h mi sec : Byte) (yy mm dd hh nn : Nat), bcd y = some yy →
      let bad (b : Byte) (low high : Nat) : Prop := ∀ n, bcd b = some n → n < low ∨ high < n
      let good (b : Byte) (n low high : Nat) : Prop := bcd b = some n ∧ low ≤ n ∧ n ≤ high
      let refused (f : Nat) : Prop :=
        exec (.clockPutSetTime y mo d h mi sec) s = .next (transmit (s.answering 0x30 (.refused .fieldRange f)))
      (bad mo 1 12 → refused 3) ∧
      (good mo mm 1 12 →
        (bad d 1 (monthLength yy mm) → refused 4) ∧
        (good d dd 1 (monthLength yy mm) →
          (bad h 0 23 → refused 5) ∧
          (good h hh 0 23 →
            (∀ r : SummerRule, s.clk.source = .rule → s.clk.rule = some r →
              dateOf yy mm dd * 86400 + hh * 3600 = r.startAt yy → refused 5) ∧
            (s.clk.ruleInForce = none →
              (bad mi 0 59 → refused 6) ∧ (good mi nn 0 59 → bad sec 0 59 → refused 7)))))) ∧
    (∀ (z src a b c d e f : Byte), -48 ≤ z.toInt → z.toInt ≤ 56 →
      let refused (rp : Byte) (n : Nat) : Prop :=
        exec (.zonePut z src rp a b c d e f) s = .next (transmit (s.answering 0x32 (.refused .fieldRange n)))
      let bad (b : Byte) (high : Nat) : Prop := b.toNat = 0 ∨ high < b.toNat
      (2 ≤ src.toNat → ∀ rp, refused rp 2) ∧
      (src.toNat < 2 →
        (∀ rp : Byte, 2 ≤ rp.toNat → refused rp 3) ∧
        (bad a 12 → refused 1 4) ∧
        (¬bad a 12 → bad b 5 → refused 1 5) ∧
        (¬bad a 12 → ¬bad b 5 → bad c 22 → refused 1 6) ∧
        (¬bad a 12 → ¬bad b 5 → ¬bad c 22 → (bad d 12 ∨ d = a) → refused 1 7) ∧
        (¬bad a 12 → ¬bad b 5 → ¬bad c 22 → ¬bad d 12 → d ≠ a → bad e 5 → refused 1 8) ∧
        (¬bad a 12 → ¬bad b 5 → ¬bad c 22 → ¬bad d 12 → d ≠ a → ¬bad e 5 → bad f 23 → refused 1 9))) ∧
    (∀ (z src rp a b c d e f : Byte), (z.toInt < -48 ∨ 56 < z.toInt) →
      exec (.zonePut z src rp a b c d e f) s = .next (transmit (s.answering 0x32 (.refused .fieldRange 1)))) ∧
    (∀ (z src : Byte) (a b c d e f : Byte), -48 ≤ z.toInt → z.toInt ≤ 56 → src.toNat ≤ 1 → s.clk.state ≠ .broadcast →
      exec (.zonePut z src 0 a b c d e f) s = .next (transmit
        { s with
          clk := if src = 0 then
              { s.clk with zone := z.toInt, source := .rule, rule := none, summer := .standard, offset := z.toInt }
            else { s.clk with zone := z.toInt, source := .broadcast, rule := none },
          lnk := { s.lnk with
            buffer := some 0x32, reply := some (.ok .clock), notices := s.lnk.notices ||| (0x80#12 &&& s.lnk.mask) } })) ∧
    (∀ (z a b c d e f : Byte), -48 ≤ z.toInt → z.toInt ≤ 56 → s.clk.state ≠ .broadcast →
      1 ≤ a.toNat → a.toNat ≤ 12 → 1 ≤ b.toNat → b.toNat ≤ 5 → 1 ≤ c.toNat → c.toNat ≤ 22 →
      1 ≤ d.toNat → d.toNat ≤ 12 → d ≠ a → 1 ≤ e.toNat → e.toNat ≤ 5 → 1 ≤ f.toNat → f.toNat ≤ 23 →
      let r : SummerRule :=
        { startMonth := a.toNat, startWeek := b.toNat, startHour := c.toNat, endMonth := d.toNat, endWeek := e.toNat,
          endHour := f.toNat }
      let m := r.evalReading s.clk.reading
      exec (.zonePut z 0 1 a b c d e f) s = .next (transmit
        { s with
          clk := { s.clk with
            zone := z.toInt, source := .rule, rule := some r, summer := m,
            offset := z.toInt + if m = .summer then 4 else 0 },
          lnk := { s.lnk with
            buffer := some 0x32, reply := some (.ok .clock), notices := s.lnk.notices ||| (0x80#12 &&& s.lnk.mask) } })) ∧
    (∀ b : Byte, 2 ≤ b.toNat → exec (.syncPut b) s = .next (transmit (s.answering 0x33 (.refused .fieldRange 1)))) ∧
    (s.clk.request = .none →
      exec (.syncPut 1) s = .next (transmit
        { s.answering 0x33 (.ok .clock) with clk := { s.clk with syncOn := false } })) ∧
    (s.clk.srcExists = false →
      exec (.syncPut 0) s = .next (transmit { s.answering 0x33 (.ok .clock) with clk := { s.clk with syncOn := true } }))

/-- The limits of the sync function: the candidate expires; a visit age that is not INVALID comes to 360 minutes and
stops there; the retry timer expires. Each row takes its limit at once (log 3), raises no CLOCK by it (log 85), and one whose timer or age does not run
changes nothing (log 1). With sync enabled, a time source, no visit under way and the tuner free, the
age's limit and the retry timer's expiry each lead to the SYNC grant, tuned to the lowest time-source preset. -/
def Obligations.SyncLimitsLeadToAVisit : Prop :=
  ∀ s : State, s.reports = [] →
    exec .candidateExpiry s = .next (transmit { s with clk := { s.clk with candidate := none } }) ∧
    (s.clk.syncOn = false →
      (∀ a, s.clk.visitAge = some a → a < 360 →
        exec .visitAgeLimit s = .next (transmit
          { s with clk := { s.clk with visitAge := some 360, visitTicks := 0 } })) ∧
      (∀ e, s.clk.retry = some e →
        exec .syncRetryExpiry s = .next (transmit { s with clk := { s.clk with retry := none } }))) ∧
    (s.clk.visitAge = none → exec .visitAgeLimit s = .next (transmit s)) ∧
    (s.clk.visitAge = some 360 → exec .visitAgeLimit s = .next (transmit s)) ∧
    (s.clk.retry = none → exec .syncRetryExpiry s = .next (transmit s)) ∧
    (∀ n, s.clk.syncOn = true → s.clk.srcExists = true → s.pwr.mode = .on → s.pwr.deckUp = true → s.clk.request = .none →
      s.tar.holder = .none → s.syncPreset = some n → s.tun.tuned.state = .none →
      (s.clk.retry = none → s.clk.visitAge = some 359 →
        ∃ t, exec .visitAgeLimit s = .next t ∧ t.tar.holder = .sync ∧ t.tar.minHold = true ∧ t.tar.holdLimit = true ∧
          t.clk.request = .holding ∧ t.tun.tuned.preset = n ∧ t.tun.tuned.state = .settling ∧ t.mec = s.mec ∧
          t.tsc = s.tsc) ∧
      (s.clk.retry.isSome → s.clk.visitAge = none →
        ∃ t, exec .syncRetryExpiry s = .next t ∧ t.tar.holder = .sync ∧ t.tar.minHold = true ∧ t.tar.holdLimit = true ∧
          t.clk.request = .holding ∧ t.clk.retry = none ∧ t.tun.tuned.preset = n ∧ t.tun.tuned.state = .settling ∧
          t.mec = s.mec ∧ t.tsc = s.tsc))

/-! ### The timer -/

/-- EVENT_PUT is refused by the first check that fails: a slot above 15, a slot with an active occurrence SLOT_BUSY, then fields 2
to 9, 13 and 14 in their order, those that are read; then a ONCE programme CLOCK_UNSET while the clock is UNSET, and with field 3
where its date is before today. Where all of them pass and no occurrence is active, the slot holds the programme, ARMED when it
was EMPTY and in its old state otherwise, with its side records kept, and no other slot changes. On an UNSET clock, and for a HELD
slot with no slot ARMED, the plan that the rebuild draws is empty; on a clock that was set, with no summer rule, a ONCE slot of
today that starts more than a minute from now is the one PLANNED entry, where neither its run guard nor the skip list leaves it
out. -/
def Obligations.EventPutWritesTheSlot : Prop :=
  ∀ (slot r y mo d days sh sm eh em preset grade prio pre cue lp : Byte) (key mask : BitVec 24) (op ov : Byte) (s : State),
    s.Listens → s.reports = [] →
    let put := exec (.eventPut slot r y mo d days sh sm eh em preset grade prio pre cue lp key mask op ov) s
    let refused (reason : Reason) (f : Nat) : Prop := put = .next (transmit (s.answering 0x38 (.refused reason f)))
    let n := slot.toNat
    let date (x : Nat) : Prop :=
      ∃ yn mn dn, bcd y = some yn ∧ bcd mo = some mn ∧ bcd d = some dn ∧ 1 ≤ mn ∧ mn ≤ 12 ∧ 1 ≤ dn ∧ dn ≤ monthLength yn mn ∧
        x = dateOf yn mn dn
    let time (h m : Byte) (x : Nat) : Prop := ∃ hn mn, bcd h = some hn ∧ bcd m = some mn ∧ hn ≤ 23 ∧ mn ≤ 59 ∧ x = hn * 60 + mn
    let good3 := r = 0 → ∃ x, date x
    let good4 := (r = 2 → ∃ i < 7, days.toNat = 2 ^ i) ∧ (r = 3 → 1 ≤ days.toNat ∧ days.toNat ≤ 127)
    let good5 := ∃ x, time sh sm x
    let good6 := ∃ x, time eh em x ∧ ¬time sh sm x
    let good7 := 1 ≤ preset.toNat ∧ preset.toNat ≤ 99
    let good13 := lp = 1 → key.toNat ≤ 1048575
    let good14 := lp = 1 → mask.toNat ≤ 1048575
    (16 ≤ n → refused .fieldRange 1) ∧
    (n < 16 → (∃ a, s.tsc.active = some a ∧ a.slot = n) → refused .slotBusy 0) ∧
    (n < 16 → (∀ a, s.tsc.active = some a → a.slot ≠ n) →
      (4 ≤ r.toNat → refused .fieldRange 2) ∧
      (r.toNat ≤ 3 →
        (¬good3 → refused .fieldRange 3) ∧
        (good3 → ¬good4 → refused .fieldRange 4) ∧
        (good3 → good4 → ¬good5 → refused .fieldRange 5) ∧
        (good3 → good4 → good5 → ¬good6 → refused .fieldRange 6) ∧
        (good3 → good4 → good5 → good6 →
          (¬good7 → refused .fieldRange 7) ∧
          (good7 → 4 ≤ grade.toNat → refused .fieldRange 8) ∧
          (good7 → grade.toNat ≤ 3 → 4 ≤ prio.toNat → refused .fieldRange 9) ∧
          (good7 → grade.toNat ≤ 3 → prio.toNat ≤ 3 → lp.toNat ≤ 1 →
            (¬good13 → refused .fieldRange 13) ∧
            (good13 → ¬good14 → refused .fieldRange 14) ∧
            (good13 → good14 → r = 0 →
              (s.clk.state = .unset → refused .clockUnset 0) ∧
              (s.clk.state ≠ .unset → ∀ x, date x → x < s.clk.today → refused .fieldRange 3)) ∧
            (good13 → good14 → pre.toNat ≤ 1 → cue.toNat ≤ 1 → op.toNat ≤ 1 → s.tsc.active = none →
              ∀ b e x : Nat, time sh sm b → time eh em e → (r = 0 → date x) →
              let l := s.slot n
              let written (t : State) : Prop :=
                t.slot n =
                  { l with
                    state := if l.state = .empty then .armed else l.state,
                    recurrence := if r = 0 then .once else if r = 1 then .daily else if r = 2 then .weekly else .days,
                    once := if r = 0 then x else 0, days := if r.toNat ≤ 1 then 0 else days.extractLsb' 0 7,
                    start := b, stop := e, preset := preset.toNat,
                    grade := if grade = 0 then some .full else if grade = 1 then some .half else if grade = 2 then some .third
                      else none,
                    priority := prio.toNat, preempt := pre == 1, cue := cue == 1,
                    label := if lp = 1 then some { key := key.extractLsb' 0 20, mask := mask.extractLsb' 0 20,
                                                    overrun := if op = 1 then min 240 ov.toNat else 60 }
                      else none } ∧
                (∀ m, m ≠ n → t.slot m = s.slot m) ∧ t.tsc.skip = s.tsc.skip ∧ t.tsc.active = none ∧ t.mec = s.mec ∧
                t.tun = s.tun ∧ t.tar = s.tar ∧ t.clk = s.clk ∧ t.pwr = s.pwr
              let at' (minutes : Nat) : Nat := s.clk.today * 86400 + minutes * 60
              (s.clk.state = .unset → r ≠ 0 → ∃ t, put = .next t ∧ written t ∧ t.tsc.plan = []) ∧
              (s.clk.state ≠ .unset → (r = 0 → s.clk.today ≤ x) → l.state = .held → (∀ m, (s.slot m).state ≠ .armed) →
                ∃ t, put = .next t ∧ written t ∧ t.tsc.plan = []) ∧
              (s.clk.state ≠ .unset → s.clk.ruleInForce = none → r = 0 → x = s.clk.today → lp = 0 → l.state ≠ .held →
                (∀ m, m ≠ n → (s.slot m).state ≠ .armed) → (∀ g, l.guard = some g → g < x) → (n, x) ∉ s.tsc.skip →
                b < e → s.clk.reading + 60 < at' b →
                ∃ t g v, put = .next t ∧ written t ∧
                  t.tsc.plan =
                    [{ slot := n, date := x, control := .time, priority := prio.toNat, pStart := at' b, pStop := at' e,
                       windowEnd := at' e, eStart := at' b, eStop := at' e, grade := g, chained := false,
                       conflict := .clear, fit := v, state := .planned }]))))))

/-- EVENT_STATE: ARM arms a HELD slot and HOLD holds an ARMED one; ERASE empties a slot but for its run guard and
takes its pairs off the skip list. In the state asked for already nothing changes; an EMPTY slot is refused to ARM and
HOLD with field 1, and a slot with an active occurrence is refused SLOT_BUSY to HOLD and ERASE. On a clock that was set, the
rebuild draws the plan: a ONCE slot of today that starts more than a minute from now is one PLANNED entry, unless its run
guard or the skip list leaves it out, with its grade and fit verdict from the length left. Two of them are walked in order of
their starts: where the second starts before the first stops, the first is trimmed when the second has the higher priority,
and else the second starts late, or is dropped; one that starts within 60 s of the other's stop is chained, and takes its
grade. -/
def Obligations.EventStateMovesTheSlot : Prop :=
  (∀ (n : Byte) (s : State), s.Listens → s.reports = [] →
    let l := s.slot n.toNat
    ((16 ≤ n.toNat ∨ l.state = .empty) →
      exec (.eventStateArm n) s = .next (transmit (s.answering 0x3A (.refused .fieldRange 1))) ∧
      exec (.eventStateHold n) s = .next (transmit (s.answering 0x3A (.refused .fieldRange 1)))) ∧
    (16 ≤ n.toNat → exec (.eventStateErase n) s = .next (transmit (s.answering 0x3A (.refused .fieldRange 1)))) ∧
    (n.toNat < 16 → l.state = .armed →
      exec (.eventStateArm n) s = .next (transmit (s.answering 0x3A (.ok (.slot n.toNat))))) ∧
    (n.toNat < 16 → l.state = .held →
      exec (.eventStateHold n) s = .next (transmit (s.answering 0x3A (.ok (.slot n.toNat))))) ∧
    (n.toNat < 16 → l.state = .empty →
      exec (.eventStateErase n) s = .next (transmit (s.answering 0x3A (.ok (.slot n.toNat))))) ∧
    (∀ a, s.tsc.active = some a → a.slot = n.toNat → n.toNat < 16 → l.state = .armed →
      exec (.eventStateHold n) s = .next (transmit (s.answering 0x3A (.refused .slotBusy 0))) ∧
      exec (.eventStateErase n) s = .next (transmit (s.answering 0x3A (.refused .slotBusy 0)))) ∧
    (n.toNat < 16 → s.tsc.active = none → s.clk.state = .unset →
      (l.state = .held →
        ∃ t, exec (.eventStateArm n) s = .next t ∧ t.slot n.toNat = { l with state := .armed } ∧
          (∀ m, m ≠ n.toNat → t.slot m = s.slot m) ∧ t.tsc.skip = s.tsc.skip ∧ t.mec = s.mec ∧ t.tun = s.tun ∧
          t.tar = s.tar ∧ t.clk = s.clk ∧ t.pwr = s.pwr) ∧
      (l.state = .armed →
        ∃ t, exec (.eventStateHold n) s = .next t ∧ t.slot n.toNat = { l with state := .held } ∧
          (∀ m, m ≠ n.toNat → t.slot m = s.slot m) ∧ t.tsc.skip = s.tsc.skip ∧ t.mec = s.mec ∧ t.tun = s.tun ∧
          t.tar = s.tar ∧ t.clk = s.clk ∧ t.pwr = s.pwr) ∧
      (l.state ≠ .empty →
        ∃ t, exec (.eventStateErase n) s = .next t ∧ t.slot n.toNat = { Slot.reset with guard := l.guard } ∧
          (∀ m, m ≠ n.toNat → t.slot m = s.slot m) ∧ t.tsc.skip = s.tsc.skip.filter (fun p => p.1 != n.toNat) ∧
          t.mec = s.mec ∧ t.tun = s.tun ∧ t.tar = s.tar ∧ t.clk = s.clk ∧ t.pwr = s.pwr))) ∧
  (∀ (n : Byte) (s : State), s.Listens → s.reports = [] → s.tsc.active = none → s.clk.state = .manual → s.clk.rule = none →
    s.clk.summer = .standard → s.clk.now.valid = true →
    let at' (minutes : Nat) : Nat := s.clk.today * 86400 + minutes * 60
    let isToday (m : Nat) (st : SlotState) : Prop :=
      m < 16 ∧ (s.slot m).state = st ∧ (s.slot m).recurrence = .once ∧ (s.slot m).once = s.clk.today ∧
        (s.slot m).label = none ∧ (s.slot m).start < (s.slot m).stop ∧ (s.slot m).stop < 1440 ∧
        s.clk.reading + 60 < at' (s.slot m).start
    let rate (g : Grade) : Nat := match g with | .full => 720 | .half => 360 | .third => 240
    let fit (left : Option Nat) (seconds : Nat) (g : Grade) : Fit :=
      match left with
      | none => .unknown
      | some l => if seconds * rate g ≤ l then .fits else if l < 10 * rate g then .noTape else .short
    let graded (left : Option Nat) (seconds m : Nat) : Grade :=
      match (s.slot m).grade, left with
      | some g, _ => g
      | none, none => .half
      | none, some l => if seconds * 720 ≤ l then .full else if seconds * 360 ≤ l then .half else .third
    let quiet (t : State) : Prop :=
      (∀ m, m ≠ n.toNat → t.slot m = s.slot m) ∧ t.tsc.active = none ∧ t.mec = s.mec ∧ t.tun = s.tun ∧ t.tar = s.tar ∧
        t.clk = s.clk ∧ t.pwr = s.pwr
    (isToday n.toNat .held → (∀ m, m ≠ n.toNat → (s.slot m).state ≠ .armed) →
      let l := s.slot n.toNat
      let i := at' l.start
      let j := at' l.stop
      let g := graded s.tpe.ls (j - i) n.toNat
      ((∀ x, l.guard = some x → x < s.clk.today) → (n.toNat, s.clk.today) ∉ s.tsc.skip →
        ∃ t, exec (.eventStateArm n) s = .next t ∧ quiet t ∧
          t.tsc.plan =
            [{ slot := n.toNat, date := s.clk.today, control := .time, priority := l.priority, pStart := i, pStop := j,
               windowEnd := j, eStart := i, eStop := j, grade := g, chained := false, conflict := .clear,
               fit := fit s.tpe.ls (j - i) g, state := .planned }]) ∧
      (((∃ x, l.guard = some x ∧ s.clk.today ≤ x) ∨ (n.toNat, s.clk.today) ∈ s.tsc.skip) →
        ∃ t, exec (.eventStateArm n) s = .next t ∧ quiet t ∧ t.tsc.plan = [])) ∧
    (∀ a b : Nat, a ≠ b → (n.toNat = a ∨ n.toNat = b) →
      (∀ m, m = a ∨ m = b → isToday m (if m = n.toNat then .held else .armed) ∧ (s.slot m).guard = none ∧
        (m, s.clk.today) ∉ s.tsc.skip) →
      (∀ m, m ≠ a → m ≠ b → (s.slot m).state ≠ .armed) → (s.slot a).start < (s.slot b).start →
      let ja := at' (s.slot a).stop
      let ib := at' (s.slot b).start
      let jb := at' (s.slot b).stop
      ∃ t x y, exec (.eventStateArm n) s = .next t ∧ quiet t ∧ t.tsc.plan = [x, y] ∧ x.slot = a ∧ y.slot = b ∧
        x.eStart = at' (s.slot a).start ∧ y.eStop = jb ∧ x.state = .planned ∧ y.state = .planned ∧
        (ja ≤ ib → x.eStop = ja ∧ x.conflict = .clear ∧ y.eStart = ib ∧ y.conflict = .clear) ∧
        (ib < ja → (s.slot a).priority < (s.slot b).priority →
          x.eStop = ib ∧ x.conflict = .trimmedEnd ∧ y.eStart = ib ∧ y.conflict = .clear) ∧
        (ib < ja → (s.slot b).priority ≤ (s.slot a).priority →
          x.eStop = ja ∧ x.conflict = .clear ∧ y.eStart = ja ∧ y.conflict = if jb ≤ ja then .dropped else .lateStart) ∧
        x.chained = false ∧ x.grade = graded s.tpe.ls (x.eStop - x.eStart) a ∧
        x.fit = fit s.tpe.ls (x.eStop - x.eStart) x.grade ∧
        (y.conflict ≠ .dropped →
          let left := s.tpe.ls.map fun l => l - (x.eStop - x.eStart) * rate x.grade
          (y.chained = true ↔ y.eStart ≤ x.eStop + 60) ∧
          y.grade = (if y.eStart ≤ x.eStop + 60 then x.grade else graded left (y.eStop - y.eStart) b) ∧
          y.fit = fit left (y.eStop - y.eStart) y.grade)))

/-- CANCEL: an occurrence that is not in the plan is NOT_FOUND, with the outcome that the slot's result has when the reply
begins, if that result is of the same date (log 27); one that is active and past ARMING is TOO_LATE; a waiting occurrence of
a ONCE slot, where no other slot is ARMED, goes from the plan and its pair comes last on the skip list, which keeps its
eight newest pairs. -/
def Obligations.CancelSkipsTheOccurrence : Prop :=
  (∀ (n y mo d : Byte) (s : State), s.Listens → s.reports = [] → n.toNat < 16 → badDate y mo d = false →
    let date := dateValue y mo d
    (s.entry n.toNat date = none →
      exec (.cancel n y mo d) s = .next (transmit (s.answering 0x3C (.ok (.cancel .notFound n.toNat date))))) ∧
    (∀ e a, s.entry n.toNat date = some e → s.tsc.active = some a → a.slot = n.toNat → a.date = date →
      e.state ≠ .arming →
      exec (.cancel n y mo d) s = .next (transmit (s.answering 0x3C (.ok (.cancel .tooLate n.toNat date))))) ∧
    (∀ e, s.entry n.toNat date = some e → s.tsc.active = none → (s.slot n.toNat).recurrence = .once →
      (s.slot n.toNat).once = date → (∀ m, m ≠ n.toNat → (s.slot m).state ≠ .armed) →
      ∃ t, exec (.cancel n y mo d) s = .next t ∧ t.tsc.plan = [] ∧
        t.tsc.skip =
          (if (n.toNat, date) ∈ s.tsc.skip then s.tsc.skip
           else if s.tsc.skip.length < 8 then s.tsc.skip ++ [(n.toNat, date)]
           else s.tsc.skip.tail ++ [(n.toNat, date)]) ∧
        t.tsc.slots = s.tsc.slots ∧ t.tsc.active = none ∧ t.mec = s.mec ∧ t.tun = s.tun ∧ t.tar = s.tar ∧
        t.clk = s.clk ∧ t.pwr = s.pwr)) ∧
  (∀ (n date : Nat) (s : State),
    (∀ r, (s.slot n).result = some r → r.date = date →
      replyBody s (.cancel .notFound n date) = [2, 1, BitVec.ofNat 8 r.outcome.code]) ∧
    ((∀ r, (s.slot n).result = some r → r.date ≠ date) → (replyBody s (.cancel .notFound n date)).take 2 = [2, 0]))

/-- ARMING_MOMENT, which tests the clock itself (log 35): while an occurrence is active every due entry becomes NEXT. With
none active, the first due entry is armed and the others become NEXT: from UNTHREADED, with a USED preset, a tuner that is
free and a tape that is not protected, it is the active occurrence in ARMING, the slot's last run and run guard are its date,
TSC owns the transport, which threads toward RECORD_PAUSE, and RECORD holds the tuner, tuned to the slot's preset; with no
cassette it ends at once, NO_CASSETTE. Where the host plays, a slot that may preempt takes the deck, the state, the counter and
the viewing standing in the shadow context, and a viewed channel is remembered, and the spin-up toward RECORD_PAUSE begins, where
that target stands as the pending one (log 13); one that may not ends DECK_IN_USE. WINDOW_END ends a waiting entry whose window
is over MISSED, with the slot's last run and run guard as they were (log 24); where no window is over it changes nothing
(log 1). -/
def Obligations.ArmingTakesTheDeck : Prop :=
  ∀ s : State, s.reports = [] → s.pwr.mode = .on → s.pwr.deckUp = true →
    (∀ a, s.tsc.active = some a →
      ∃ l, exec .armingMoment s = .next (transmit
        { s with
          tsc := { s.tsc with plan := s.tsc.plan.map fun e => if e.due s.clk then { e with state := .next } else e },
          lnk := l }) ∧
        l = if s.tsc.plan.any (fun e => e.due s.clk) then
              { s.lnk with notices := s.lnk.notices ||| (0x100#12 &&& s.lnk.mask) } else s.lnk) ∧
    (∀ e rest, s.tsc.plan.filter (fun x => x.due s.clk) = e :: rest → e.slot < 16 → s.tsc.active = none →
      s.mec.owner = .host →
      (s.mec.state = .unthreaded → s.mec.spin = false → s.mec.pending = none → s.mec.tab ≠ .absent →
        (s.preset (s.slot e.slot).preset).used = true → s.tar.holder = .none → s.tun.tuned.state = .none →
        s.pwr.entry = .none → s.ctu.seek.state = .idle →
        ∃ t a, exec .armingMoment s = .next t ∧ t.tsc.active = some a ∧ a.slot = e.slot ∧ a.date = e.date ∧
          a.state = .arming ∧ a.grade = e.grade ∧ a.recorded = false ∧ (t.slot e.slot).lastRun = some e.date ∧
          (t.slot e.slot).guard = some (match (s.slot e.slot).guard with | none => e.date | some g => max g e.date) ∧
          { e with state := .arming } ∈ t.tsc.plan ∧
          (∀ x ∈ rest, ¬(x.slot = e.slot ∧ x.date = e.date) → { x with state := .next } ∈ t.tsc.plan) ∧
          t.mec.owner = .timer ∧ t.mec.state = .threading ∧ t.mec.motionTimer = some 3600 ∧
          t.mec.pending.map PendingTarget.target = some .recordPause ∧ t.tar.holder = .record ∧
          t.tun.tuned.preset = (s.slot e.slot).preset ∧ t.tun.tuned.state = .settling ∧ t.clk = s.clk ∧ t.ctu = s.ctu) ∧
      ((s.mec.state = .play ∨ s.mec.state = .still ∨ s.mec.state = .searchFwd ∨ s.mec.state = .searchRev) →
        s.mec.spin = false → s.mec.pending = none → s.mec.tab ≠ .absent → (s.preset (s.slot e.slot).preset).used = true →
        (s.tar.holder = .none ∨ s.tar.holder = .view) →
        ((s.slot e.slot).preempt = true → s.pwr.entry = .none → s.ctu.seek.state = .idle →
          ∃ t a, exec .armingMoment s = .next t ∧ t.tsc.active = some a ∧ a.slot = e.slot ∧ a.date = e.date ∧
            a.state = .arming ∧ a.grade = e.grade ∧
            t.tsc.shadow = some (s.tsc.shadow.getD
              { state := s.mec.state, counter := s.ctu.value, view := s.tar.view, viewing := s.tar.holder == .view }) ∧
            t.tsc.restored = none ∧ t.mec.owner = .timer ∧ t.mec.state = .threaded ∧ t.mec.spin = true ∧
            t.mec.pending.map PendingTarget.target = some .recordPause ∧ t.mec.grade = e.grade ∧ t.tar.holder = .record ∧
            t.tar.origin = .timer ∧ t.tar.view = s.tar.view ∧
            t.tar.remembered = (if s.tar.holder = .view then true else s.tar.remembered) ∧
            t.tun.tuned.preset = (s.slot e.slot).preset ∧ t.clk = s.clk) ∧
        ((s.slot e.slot).preempt = false → s.tsc.plan = [e] → (s.slot e.slot).recurrence = .once →
          (s.slot e.slot).once = e.date → (∀ m, m ≠ e.slot → (s.slot m).state ≠ .armed) →
          ∃ t, exec .armingMoment s = .next t ∧ t.tsc.active = none ∧ t.tsc.plan = [] ∧
            (t.slot e.slot).result =
              some { date := e.date, outcome := .deckInUse, run := none, doubtful := false, noSignal := false } ∧
            t.tsc.shadow = s.tsc.shadow ∧ t.tsc.restored = s.tsc.restored ∧ t.mec = s.mec ∧ t.tun = s.tun ∧ t.tar = s.tar ∧
            t.clk = s.clk ∧ t.ctu = s.ctu)) ∧
      (s.mec.state = .empty → s.tsc.plan = [e] → (s.slot e.slot).recurrence = .once → (s.slot e.slot).once = e.date →
        (∀ m, m ≠ e.slot → (s.slot m).state ≠ .armed) →
        ∃ t, exec .armingMoment s = .next t ∧ t.tsc.active = none ∧ t.tsc.plan = [] ∧
          (t.slot e.slot).result =
            some { date := e.date, outcome := .noCassette, run := none, doubtful := false, noSignal := false } ∧
          (t.slot e.slot).lastRun = some e.date ∧ (t.slot e.slot).count = (s.slot e.slot).count ∧
          (∀ m, m ≠ e.slot → t.slot m = s.slot m) ∧ t.stickySet .occurrenceFailed = true ∧ t.mec = s.mec ∧ t.tun = s.tun ∧
          t.tar = s.tar ∧ t.clk = s.clk ∧ t.ctu = s.ctu)) ∧
    (∀ e, s.tsc.plan = [e] → (e.state = .planned ∨ e.state = .next) → e.slot < 16 → s.tsc.active = none →
      (s.clk.reached e.windowEnd = true → (∀ n, drawSlot s n = []) →
        ∃ t, exec .windowEnd s = .next t ∧ t.tsc.active = none ∧ t.tsc.plan = [] ∧
          t.slot e.slot = { s.slot e.slot with
            result := some { date := e.date, outcome := .missed, run := none, doubtful := false, noSignal := false } } ∧
          (∀ m, m ≠ e.slot → t.slot m = s.slot m) ∧ t.stickySet .occurrenceFailed = true ∧
          (s.lnk.line.isSome → s.lnk.mask.getLsbD 9 = true → t.pendingNotice .occurrence = true) ∧ t.mec = s.mec ∧
          t.tun = s.tun ∧ t.tar = s.tar ∧ t.clk = s.clk ∧ t.ctu = s.ctu) ∧
      (s.clk.reached e.windowEnd = false → exec .windowEnd s = .next (transmit s)))

/-- The rows that end a recording. An occurrence that is being recorded under TIMER, with nothing else to draw or to hand
over to: RECORDING_TIME_UP at 0 remaining seconds ends it COMPLETE, or TRUNCATED when its stop was trimmed;
LABEL_TRIMMED_STOP at the trimmed stop ends one under label control TRUNCATED; WINDOW_END at its window end ends it
COMPLETE; the end of the tape ends it TAPE_END, a stalled reel TAPE_STALL and the loss of lock SERVO; a matching LABEL
packet of status ENDED ends one under label control COMPLETE, and one of status BREAK pauses it in LABEL_BREAK. The slot's
result says when it stopped, which is the reading at the ending or where RECORD was left before it (log 25), the count of
recordings rises with a completion, and TSC gives the transport and the tuner back and copies a full shadow context into the
restored one. TAPE_END, TAPE_STALL, SERVO and DECK_FAULT are rows of R178, whose causes R16, R19, R21 and R22 give. Where
its condition, which the row itself tests (log 35), does not hold, a row changes nothing (log 1). With a NEXT occurrence
whose window is open the deck is handed to it instead: in RECORD_PAUSE, at the grade in use, it is the active occurrence in
ARMING, the shadow context staying as it is. TAR gives the order for its preset at the hand-over, also where the chain ends
in FAULT: the pre-roll that meets a motion timeout ends DECK_FAULT, the successor's check ends it DECK_FAULT as well, and
the deck is given back. -/
def Obligations.RecordingsEnd : Prop :=
  (∀ (a : Active) (e : PlanEntry) (run : RunInfo) (s : State), s.reports = [] → s.pwr.mode = .on → s.pwr.deckUp = true →
    s.pwr.entry = .none → s.tsc.active = some a → s.tsc.plan = [e] → e.slot = a.slot → e.date = a.date → a.slot < 16 →
    e.state = .recording → a.state = .recording → a.recorded = true → a.run = some run → s.mec.state = .record →
    s.mec.owner = .timer → s.mec.pending = none → s.mec.spin = false → s.tar.holder = .record →
    s.tar.remembered = false → s.tar.syncWait = false → s.ctu.writing = none → (∀ n, drawSlot s n = []) →
    let stopped : RunInfo := { run with stop := some s.clk.reading }
    let ended (o : OccOutcome) (n : TState) (t : State) : Prop :=
      t.tsc.active = none ∧ t.tsc.plan = [] ∧
      (t.slot a.slot).result =
        some { date := a.date, outcome := o, run := some stopped, doubtful := a.doubtful, noSignal := a.noSignal } ∧
      (t.slot a.slot).count =
        (if o = .complete ∨ o = .truncated then min 255 ((s.slot a.slot).count + 1) else (s.slot a.slot).count) ∧
      (o ≠ .complete → o ≠ .truncated → t.stickySet .occurrenceFailed = true) ∧
      (∀ n, n ≠ a.slot → t.slot n = s.slot n) ∧ t.tsc.shadow = none ∧
      t.tsc.restored = (if s.tsc.shadow.isSome then s.tsc.shadow else s.tsc.restored) ∧
      t.mec.owner = .host ∧ t.mec.state = n ∧ t.tar.holder = .none ∧ t.clk = s.clk ∧ t.tun = s.tun
    (a.control = .time → a.remaining = 0 →
      ∃ t, exec .recordingTimeUp s = .next t ∧ ended (if e.conflict = .trimmedEnd then .truncated else .complete) .threaded t) ∧
    (a.control = .label → e.conflict = .trimmedEnd → s.clk.reached e.eStop = true →
      ∃ t, exec .labelTrimmedStop s = .next t ∧ ended .truncated .threaded t) ∧
    (a.control = .label → s.clk.reached e.windowEnd = true →
      ∃ t, exec .windowEnd s = .next t ∧ ended .complete .threaded t) ∧
    (s.pins.endLit = false → s.mec.endAction = .stop →
      ∃ t, exec .endSensorLit s = .next t ∧ ended .tapeEnd .threaded t) ∧
    (s.mec.stall = true → ∃ t, exec .reelStall s = .next t ∧ ended .tapeStall .unthreading t) ∧
    (∀ d c p : Int, s.mec.drum = true → s.srv.quality ≠ .lost → 247 ≤ s.srv.err → (d < -200 ∨ 200 < d) →
      ∃ t, exec (.servoFrame d ⟨c, p⟩) s = .next t ∧ ended .servo .threaded t) ∧
    (∀ (bytes : List Byte) (k : LabelControl), bytes.length = 12 → (∀ b ∈ bytes, oddParity b = true) →
      s.tun.tuned.state = .signal → a.control = .label → (s.slot a.slot).label = some k → (s.slot a.slot).preset ≠ 0 →
      s.receivingPreset = (s.slot a.slot).preset → s.dld.sel.getLsbD 1 = false → s.mec.tab ≠ .absent →
      let at' (i : Nat) : Nat := (bytes.map fun b => b.toNat % 128).getD i 0
      at' 0 = 0x22 → (s.preset s.receivingPreset).network = some (BitVec.ofNat 12 (at' 1 + 128 * (at' 2 % 32))) →
      (BitVec.ofNat 20 (at' 3 + 128 * at' 4 + 16384 * (at' 5 % 64)) ^^^ k.key) &&& k.mask = 0 →
      (at' 6 % 4 = 3 → ∃ t, exec (.packetArrival bytes) s = .next t ∧ ended .complete .threaded t) ∧
      (at' 6 % 4 = 2 →
        ∃ t, exec (.packetArrival bytes) s = .next t ∧ t.mec.state = .recordPause ∧ t.mec.owner = .timer ∧
          t.tsc.active = some { a with state := .labelBreak, labelsSeen := true, run := some stopped } ∧
          t.tsc.plan = [{ e with state := .labelBreak }] ∧ t.tsc.slots = s.tsc.slots ∧ t.tar = s.tar ∧ t.tun = s.tun ∧
          t.clk = s.clk)) ∧
    (a.remaining ≠ 0 → exec .recordingTimeUp s = .next (transmit s)) ∧
    (e.conflict ≠ .trimmedEnd → exec .labelTrimmedStop s = .next (transmit s)) ∧
    (s.clk.reached e.windowEnd = false → exec .windowEnd s = .next (transmit s))) ∧
  (∀ (a : Active) (e f : PlanEntry) (run : RunInfo) (s : State), s.reports = [] → s.pwr.mode = .on → s.pwr.deckUp = true →
    s.pwr.entry = .none → s.tsc.active = some a → s.tsc.plan = [e, f] → e.slot = a.slot → e.date = a.date → a.slot < 16 →
    f.slot < 16 → (f.slot ≠ a.slot ∨ f.date ≠ a.date) → a.control = .time → a.state = .recording → a.remaining = 0 →
    a.run = some run → f.state = .next → f.control = .time → s.clk.state ≠ .unset → s.clk.reached f.windowEnd = false →
    s.mec.state = .record → s.mec.owner = .timer → s.mec.spin = false → s.mec.pending = none → s.mec.tab ≠ .absent →
    (s.preset (s.slot f.slot).preset).used = true → s.tar.holder = .record →
    ∃ t b, exec .recordingTimeUp s = .next t ∧ t.tsc.active = some b ∧ b.slot = f.slot ∧ b.date = f.date ∧
      b.state = .arming ∧ b.grade = s.mec.grade ∧ b.recorded = false ∧ b.transportReady = true ∧
      (t.slot a.slot).result =
        some { date := a.date, outcome := if e.conflict = .trimmedEnd then .truncated else .complete,
               run := some { run with stop := some s.clk.reading }, doubtful := a.doubtful, noSignal := a.noSignal } ∧
      (t.slot f.slot).lastRun = some f.date ∧ t.mec.state = .recordPause ∧ t.mec.owner = .timer ∧
      t.mec.grade = s.mec.grade ∧ t.tar.holder = .record ∧ t.tun.tuned.preset = (s.slot f.slot).preset ∧
      t.tsc.shadow = s.tsc.shadow ∧ t.clk = s.clk) ∧
  (∀ (a : Active) (e f : PlanEntry) (s : State), s.reports = [] → s.pwr.mode = .on → s.pwr.deckUp = true →
    s.pwr.entry = .none → s.tsc.active = some a → s.tsc.plan = [e, f] → e.slot = a.slot → e.date = a.date → a.slot < 16 →
    f.slot < 16 → f.slot ≠ a.slot → a.state = .arming → a.run = none → f.state = .next → s.clk.state ≠ .unset →
    s.clk.reached f.windowEnd = false → s.mec.state = .threading → s.mec.motionTimer.isSome → s.mec.owner = .timer →
    (s.preset (s.slot f.slot).preset).used = true → s.tar.holder = .record → s.tar.origin = .timer →
    s.tar.remembered = false → s.tar.syncWait = false → (∀ n, n ≠ f.slot → drawSlot s n = []) →
    (s.slot f.slot).recurrence = .once → (s.slot f.slot).once = f.date →
    ∃ t, exec .motionTimeout s = .next t ∧ t.tsc.active = none ∧ t.tsc.plan = [] ∧
      (t.slot a.slot).result =
        some { date := a.date, outcome := .deckFault, run := none, doubtful := a.doubtful, noSignal := a.noSignal } ∧
      (t.slot f.slot).result =
        some { date := f.date, outcome := .deckFault, run := none, doubtful := false, noSignal := false } ∧
      t.tun.tuned.preset = (s.slot f.slot).preset ∧ t.mec.state = .fault ∧ t.mec.owner = .host ∧ t.tar.holder = .none ∧
      t.clk = s.clk)

/-- The rows of the pre-roll and the label, which test their conditions themselves (log 35) and change nothing where these do
not hold (log 1). TIMED_RECORD_START, with the pre-roll complete, signal seen and the start reached, asks MEC for RECORD: from
RECORD_PAUSE the change to RECORD begins, with RECORD as the pending target (log 13) at the speed in use (log 18).
SIGNAL_TIMEOUT, with the pre-roll complete and no signal seen 60 s after the start, ends the occurrence SIGNAL.
LABEL_FALLBACK_TEST at the programmed start makes an occurrence that saw no label a time-controlled one, whose window ends at
the programmed stop (log 24), in the occurrence state it was in (log 61) and with the effective start and stop as they stand, a stop
that a JUMP moved too (log 77), and only marks the test where one was seen; the row stands for the end of the 20 s (log 26). WINDOW_END ends an occurrence that has not recorded MISSED under time control and
MISSED_LABEL under label control. A LABEL packet
on the channel of a label-controlled occurrence is seen, and a matching one of status RUNNING asks for RECORD in LABEL_WAIT and
LABEL_BREAK. -/
def Obligations.PreRollStartsOrGivesUp : Prop :=
  ∀ (a : Active) (e : PlanEntry) (s : State), s.reports = [] → s.pwr.mode = .on → s.pwr.deckUp = true →
    s.tsc.active = some a → s.tsc.plan = [e] → e.slot = a.slot → e.date = a.date → a.slot < 16 →
    s.mec.state = .recordPause → s.mec.owner = .timer → s.mec.spin = false → s.mec.pending = none →
    let gaveUp (o : OccOutcome) (t : State) : Prop :=
      t.tsc.active = none ∧ t.tsc.plan = [] ∧
        (t.slot a.slot).result =
          some { date := a.date, outcome := o, run := none, doubtful := a.doubtful, noSignal := a.noSignal } ∧
        (t.slot a.slot).count = (s.slot a.slot).count ∧ t.stickySet .occurrenceFailed = true ∧ t.mec.owner = .host ∧
        t.mec.state = .threaded ∧ t.tar.holder = .none
    (a.control = .time → a.recorded = false → a.transportReady = true → a.tuned = true →
      (a.signalSeen = true → s.mec.tab ≠ .absent → s.clk.reached e.eStart = true →
        exec .timedRecordStart s = .next (transmit
          { s with mec := { s.mec with
              spin := true,
              pending := some { target := .record, speed := s.mec.speed, grade := a.grade, origin := .timer } } })) ∧
      (a.signalSeen = false → exec .timedRecordStart s = .next (transmit s)) ∧
      (a.signalSeen = true → exec .signalTimeout s = .next (transmit s)) ∧
      (a.signalSeen = false → s.clk.reached (e.eStart + 60) = true → a.run = none → s.tsc.shadow = none →
        s.tar.holder = .record → s.tar.remembered = false → s.tar.syncWait = false → s.pwr.entry = .none →
        s.ctu.writing = none → (∀ n, drawSlot s n = []) →
        ∃ t, exec .signalTimeout s = .next t ∧ gaveUp .signal t)) ∧
    ((a.state = .arming ∨ a.state = .labelWait) → e.state = a.state → a.recorded = false →
      (s.clk.reached e.windowEnd = true → a.run = none → s.tsc.shadow = none → s.tar.holder = .record →
        s.tar.remembered = false → s.tar.syncWait = false → s.pwr.entry = .none → s.ctu.writing = none →
        (∀ n, drawSlot s n = []) →
        ∃ t, exec .windowEnd s = .next t ∧ gaveUp (if a.control = .time then .missed else .missedLabel) t) ∧
      (s.clk.reached e.windowEnd = false → exec .windowEnd s = .next (transmit s))) ∧
    (a.control = .label → a.tested = false → a.tuned = true → s.clk.reached e.pStart = true →
      (a.labelsSeen = false →
        exec .labelFallbackTest s = .next (transmit
          { s with tsc := { s.tsc with
              active := some { a with tested := true, control := .time },
              plan := [{ e with control := .time, windowEnd := e.pStop }] } })) ∧
      (a.labelsSeen = true →
        exec .labelFallbackTest s = .next (transmit
          { s with tsc := { s.tsc with active := some { a with tested := true } } }))) ∧
    (∀ (bytes : List Byte) (k : LabelControl), bytes.length = 12 → (∀ b ∈ bytes, oddParity b = true) →
      s.tun.tuned.state = .signal → a.control = .label → (a.state = .labelWait ∨ a.state = .labelBreak) →
      (s.slot a.slot).label = some k → s.receivingPreset ≠ 0 → s.dld.sel.getLsbD 1 = false → s.mec.tab ≠ .absent →
      let at' (i : Nat) : Nat := (bytes.map fun b => b.toNat % 128).getD i 0
      at' 0 = 0x22 → (s.preset s.receivingPreset).network = some (BitVec.ofNat 12 (at' 1 + 128 * (at' 2 % 32))) →
      let agrees := (BitVec.ofNat 20 (at' 3 + 128 * at' 4 + 16384 * (at' 5 % 64)) ^^^ k.key) &&& k.mask = 0
      let seen : Tsc := { s.tsc with active := some { a with labelsSeen := true } }
      (s.receivingPreset = (s.slot a.slot).preset → agrees → at' 6 % 4 = 1 →
        exec (.packetArrival bytes) s = .next (transmit
          { s with
            tsc := seen,
            mec := { s.mec with
              spin := true,
              pending := some { target := .record, speed := s.mec.speed, grade := a.grade, origin := .timer } } })) ∧
      (s.receivingPreset = (s.slot a.slot).preset → (¬agrees ∨ at' 6 % 4 = 0 ∨ at' 6 % 4 = 2) →
        exec (.packetArrival bytes) s = .next (transmit { s with tsc := seen })) ∧
      (s.receivingPreset ≠ (s.slot a.slot).preset → exec (.packetArrival bytes) s = .next (transmit s))) ∧
    (a.control = .time → exec .labelFallbackTest s = .next (transmit s))

/-! ### Power and resets -/

/-- The wake detector and the link. In STANDBY a break wakes the block and so does any edge while the detector's filter is
OFF: the mode is ON, the entry state NONE, the last cause AWAKE, deck power UP, the link WAKING; with the filter ON an
edge alone does nothing. The detector watches in STANDBY, and after a cassette insertion still in ON, where its event enters
WAKING; once it has seen an event, and in BACKUP, none counts (log 28). A byte received in WAKING is discarded. 5 ms of an
idle line make a WAKING link AWAKE with its receiver in HUNT, and raise POWER. A row whose condition does not hold changes
nothing (log 1). -/
def Obligations.WakingTheLink : Prop :=
  ∀ s : State, s.reports = [] →
    (∀ w f, s.pwr.mode = .standby → s.pwr.detector = some f → (w = .breakLow ∨ f = false) → s.pwr.deckUp = true →
      s.clk.syncOn = false →
      ∃ t, exec (.wakeEvent w) s = .next t ∧
        t.pwr = { s.pwr with
          mode := .on, entry := .none, lastCause := .awake, returnTimer := false, link := .waking, detector := none } ∧
        t.lnk.rx = Rx.reset ∧ t.mec = s.mec ∧ t.srv = s.srv ∧ t.ctu = s.ctu ∧ t.tpe = s.tpe ∧ t.tun = s.tun ∧
        t.tar = s.tar ∧ t.clk = s.clk ∧ t.tsc = s.tsc) ∧
    (∀ w f, s.pwr.mode = .on → s.pwr.detector = some f → (w = .breakLow ∨ f = false) →
      exec (.wakeEvent w) s = .next (transmit
        { s with pwr := { s.pwr with link := .waking, detector := none }, lnk := { s.lnk with rx := Rx.reset } })) ∧
    (s.pwr.detector = some true → exec (.wakeEvent .edge) s = .next (transmit s)) ∧
    (∀ w, (s.pwr.detector = none ∨ s.pwr.mode = .backup) → exec (.wakeEvent w) s = .next (transmit s)) ∧
    (∀ b, exec (.wakingByteDiscard b) s = .next (transmit s)) ∧
    (s.pwr.link = .waking → s.pwr.mode = .on →
      exec .linkIdleAwake s = .next (transmit
        { s with
          pwr := { s.pwr with link := .awake },
          lnk := { s.lnk with rx := Rx.reset, notices := s.lnk.notices ||| (0x400#12 &&& s.lnk.mask) } })) ∧
    (s.pwr.link ≠ .waking → exec .linkIdleAwake s = .next (transmit s))

/-- STANDBY ENTER at rest: the mode is STANDBY with the last cause STANDBY_ENTERED, the link is ASLEEP with its
receiver in HUNT, the capture buffer is empty, and with the tuner unused and no arming moment within 5 min the deck
domains are powered down, where the tuned record is NONE. The return timer's expiry takes the same test: it powers
down, runs again while an arming moment is near, and ends while the deck is in use; where it does not run the row changes
nothing (log 1). The wake detector watches with the filter then stored. -/
def Obligations.StandbyPowersDown : Prop :=
  ∀ s : State, s.reports = [] → s.tun.scan.state = .idle →
    let down (t : State) : Prop :=
      t.pwr.mode = .standby ∧ t.pwr.deckUp = false ∧ t.pwr.returnTimer = false ∧ t.mec.state = s.mec.state ∧
      t.mec.motionTimer = none ∧ t.mec.idle = false ∧ t.mec.spin = false ∧ t.mec.stall = false ∧
      t.tun.tuned.state = .none ∧ t.tun.tuned.band = none ∧ t.tun.presets = s.tun.presets ∧ t.clk = s.clk ∧ t.tsc = s.tsc
    (s.Listens → s.mec.state = .unthreaded → s.mec.pending = none → s.pwr.entry = .none → s.pwr.deckUp = true →
      s.pwr.returnTimer = false → s.tsc.active = none → s.tsc.plan = [] → s.tar.holder = .none → s.clk.syncOn = false →
      ∃ t, exec .standbyEnter s = .next t ∧ down t ∧ t.pwr.link = .asleep ∧ t.pwr.lastCause = .standbyEntered ∧
        t.pwr.detector = some s.pwr.filter ∧
        t.lnk.rx = Rx.reset ∧ t.dld.front = none ∧ t.dld.back = none) ∧
    (s.pwr.returnTimer = true → s.pwr.mode = .standby → s.pwr.deckUp = true → s.tsc.active = none → s.atRest = true →
      (s.tar.holder = .none ∨ s.tar.holder = .view ∨ s.tar.holder = .scan) →
      ((∀ e ∈ s.tsc.plan, (e.state = .planned ∨ e.state = .next) →
          ¬(s.clk.reading ≤ e.armAt ∧ e.armAt ≤ s.clk.reading + 300)) →
        ∃ t, exec .returnTimerExpiry s = .next t ∧ down t) ∧
      ((∃ e ∈ s.tsc.plan, (e.state = .planned ∨ e.state = .next) ∧ s.clk.reading ≤ e.armAt ∧ e.armAt ≤ s.clk.reading + 300) →
        exec .returnTimerExpiry s = .next (transmit s))) ∧
    (s.pwr.returnTimer = true → s.tsc.active.isSome →
      exec .returnTimerExpiry s = .next (transmit { s with pwr := { s.pwr with returnTimer := false } })) ∧
    (s.pwr.returnTimer = false → exec .returnTimerExpiry s = .next (transmit s))

/-- The primary supply. Its loss enters BACKUP from ON and STANDBY: the supply LOST, deck power DOWN, the link ASLEEP, the last
cause SUPPLY_LOST; the grants end, a SYNC request as ABANDONED, the request buffer, the ready reply and the receiver's frame
go, the candidate goes, a mark in writing is ABORTED; the clock, the presets, the slots and the skip list stay, and the
transport keeps no pending target and no motion timer (log 19). In BACKUP its presence and absence move it between LOST and
RETURNING, and the timer's end in RETURNING enters STANDBY with deck power UP and the supply PRESENT: the wake detector
watches with the filter as it stands (log 28), and RESUME clears CLK's record of a change (log 47). The changes of mode and
of transport state raise POWER and DECK. Outside these conditions the rows change nothing (log 1). -/
def Obligations.SupplyLossAndReturn : Prop :=
  ∀ s : State, s.reports = [] →
    (s.pwr.mode ≠ .backup → s.tsc.active = none →
      ∃ t, exec .supplyLost s = .next t ∧
        t.pwr = { s.pwr with
          supply := .lost, mode := .backup, entry := .none, link := .asleep, deckUp := false, returnTimer := false,
          detector := none, supplyTimer := false, lastCause := .supplyLost } ∧
        t.clk = (if s.tar.holder = .sync ∨ s.tar.syncWait = true then
          { s.clk with candidate := none, request := .none, retry := some 0, lastSync := .abandoned }
          else { s.clk with candidate := none }) ∧
        t.tsc = { s.tsc with shadow := none } ∧ t.tun.presets = s.tun.presets ∧ t.tun.tuned.state = .none ∧
        t.tar.holder = .none ∧ t.tar.hostWait = none ∧ t.tar.syncWait = false ∧ t.mec.drum = false ∧
        t.mec.motionTimer = none ∧ t.mec.pending = none ∧ t.lnk.buffer = none ∧ t.lnk.reply = none ∧ t.lnk.line = none ∧
        t.lnk.rx = Rx.reset ∧ t.lnk.mask = s.lnk.mask ∧ (s.lnk.mask.getLsbD 10 = true → t.pendingNotice .power = true) ∧
        ∀ w, s.ctu.writing = some w → t.ctu.writing = none ∧
          t.ctu.cue = { kind := .aborted, code := some w.code, counter := s.ctu.value } ∧
          (s.lnk.mask.getLsbD 2 = true → t.pendingNotice .cue = true)) ∧
    (s.pwr.mode = .backup → exec .supplyLost s = .next (transmit s)) ∧
    (s.pwr.mode = .backup → s.pwr.supply = .lost →
      exec .supplyPresent s = .next (transmit { s with pwr := { s.pwr with supply := .returning, supplyTimer := true } })) ∧
    (s.pwr.mode = .backup → s.pwr.supply = .returning →
      exec .supplyAbsentReturning s = .next (transmit
        { s with pwr := { s.pwr with supply := .lost, supplyTimer := false } })) ∧
    (s.pwr.mode ≠ .backup → exec .supplyPresent s = .next (transmit s) ∧
      exec .supplyAbsentReturning s = .next (transmit s) ∧ exec .supplyReturn s = .next (transmit s)) ∧
    (s.pwr.mode = .backup → s.pwr.supply = .returning → s.pwr.supplyTimer = true → s.pins.cassette = true →
      s.pins.mode = .between → s.mec.state = .recovery → s.clk.state = .unset → s.tsc.active = none →
      s.clk.syncOn = false →
      ∃ t, exec .supplyReturn s = .next t ∧
        t.pwr = { s.pwr with
          mode := .standby, supply := .present, supplyTimer := false, deckUp := true, link := .asleep,
          detector := some s.pwr.filter, lastCause := .supplyReturn } ∧
        t.mec.state = .recovery ∧ t.mec.move = .toIn ∧ t.mec.motionTimer = some 3600 ∧ t.mec.tab = .unknown ∧
        (s.lnk.mask.getLsbD 10 = true → t.pendingNotice .power = true) ∧
        (s.lnk.mask.getLsbD 0 = true → t.pendingNotice .deck = true) ∧
        t.clk = { s.clk with changed := false } ∧ t.tsc.slots = s.tsc.slots ∧ t.tun = s.tun)

/-- A power-on reset with a cassette in and the mechanism between its positions: every block is at its reset value,
and RECOVERY drives the mode motor toward IN with its motion timer at 3.6 s and the supply reel driven. That the queue
of commands and the counter of the free values go on is the model's (log 11), and so are the reset values of the fields for which
the spec gives none: those of logs 12, 28, 31 and 45 to 47, and the detectors, which read nothing (log 10). -/
def Obligations.PowerOnResetRecovers : Prop :=
  ∀ (tab endLit beginLit : Bool) (s : State),
    exec (.powerOnReset true tab .between endLit beginLit) s = .next
      { State.reset with
        mec := { Mec.reset with move := .toIn, motionTimer := some 3600, stall := !endLit && !beginLit },
        pins := { cassette := true, tab := tab, mode := .between, endLit := endLit, beginLit := beginLit, carrier := false,
                  sync := false },
        pending := s.pending, fresh := s.fresh }

/-- RESTART with the host as owner, a cassette in, nothing active, the clock UNSET and sync disabled, from any transport state:
the flags are clear, the owner is HOST with no pending target, the tuner is free, the candidate gone, the cue writer, the seek
and the match are idle, and the mode is ON with the last cause RESTART; the counter's value, the presets, the slots, the clock's
reading and the notice mask stay. From EJECTING, RECOVERY drives toward OUT whatever the mode switch reads. From every other
state, a FAULT among them, it follows the mode switch: at THREAD, as a threaded tape has it, and BETWEEN it drives toward IN, at
IN it settles in UNTHREADED with the tab sensed, and at OUT in EMPTY. -/
def Obligations.RestartRecovers : Prop :=
  ∀ s : State, s.Listens → s.reports = [] → s.mec.owner = .host → s.pins.cassette = true →
    s.tsc.active = none → s.clk.state = .unset → s.clk.syncOn = false → s.tar.holder ≠ .sync →
    s.tar.syncWait = false → s.pwr.deckUp = true → s.ctu.seek.state = .idle →
    let recovers (P : State → Prop) : Prop :=
      ∃ t, exec .restart s = .next t ∧ P t ∧ t.lnk.sticky = 0 ∧ t.lnk.reported = 0 ∧ t.lnk.mask = s.lnk.mask ∧
        t.mec.owner = .host ∧ t.mec.pending = none ∧ t.mec.faultCause = .none ∧ t.mec.reportCause = .none ∧
        t.mec.drum = false ∧ t.mec.spin = false ∧
        t.tar.holder = .none ∧ t.tar.hostWait = none ∧ t.tun.presets = s.tun.presets ∧ t.tun.scan.state = .idle ∧
        t.ctu.value = s.ctu.value ∧ t.ctu.writing = none ∧ t.ctu.waiting = none ∧ t.ctu.mArmed = false ∧
        t.ctu.seek.state = .idle ∧
        t.clk = { s.clk with candidate := none } ∧ t.tsc.slots = s.tsc.slots ∧ t.pwr.mode = .on ∧
        t.pwr.lastCause = .restart ∧ t.pwr.entry = .none
    let moves (mv : RecoveryMove) (limit : Nat) (t : State) : Prop :=
      t.mec.state = .recovery ∧ t.mec.move = mv ∧ t.mec.motionTimer = some limit
    (s.mec.state = .ejecting → recovers (moves .toOut 6000)) ∧
    (s.mec.state ≠ .ejecting →
      ((s.pins.mode = .thread ∨ s.pins.mode = .between) → recovers (moves .toIn 3600)) ∧
      (s.pins.mode = .inn →
        recovers fun t => t.mec.state = .unthreaded ∧ t.mec.motionTimer = none ∧
          t.mec.tab = if s.pins.tab then .present else .absent) ∧
      (s.pins.mode = .out →
        recovers fun t => t.mec.state = .empty ∧ t.mec.motionTimer = none ∧ t.mec.tab = .unknown ∧
          t.tpe.profile = .unknown))

/-! ### Invariants -/

/-- Every step keeps the link error counter at most 255 and pending only classes that the mask enables. -/
def Obligations.LinkRangesKept : Prop :=
  ∀ s t : State, LinkInv s → step s = .next t → LinkInv t

/-- Every step keeps the lock error counter at most 255, the quality state with it, and the recovery run below 128.
Every step keeps the counter and the match value between the ends, the frames unread at most 60, the cue reader's
window at most 24 classes, the skip list at most 8 pairs, and the remaining seconds at most 86,400. -/
def Obligations.TapeRangesKept : Prop :=
  (∀ s t : State, ServoInv s → step s = .next t → ServoInv t) ∧
  (∀ s t : State, CounterInv s ∧ SkipInv s → step s = .next t → CounterInv t ∧ SkipInv t) ∧
  (∀ s t : State, RemainingInv s → step s = .next t → RemainingInv t)

/-- The ranges hold after a power-on reset, where the block waits in STANDBY with its link ASLEEP and the clock UNSET,
the tables are empty, and LNK has its flags clear, every notice class enabled, nothing pending, held or ready, and its
receiver in HUNT. -/
def Obligations.RangesHoldAtReset : Prop :=
  let s := State.reset
  (LinkInv s ∧ ServoInv s ∧ CounterInv s ∧ SkipInv s ∧ RemainingInv s) ∧ s.pwr.mode = .standby ∧ s.pwr.link = .asleep ∧ s.clk.state = .unset ∧
    s.lnk.mask = 0xFFF ∧ s.lnk.sticky = 0 ∧ s.lnk.reported = 0 ∧ s.lnk.errors = 0 ∧ s.lnk.notices = 0 ∧ s.lnk.buffer = none ∧
    s.lnk.reply = none ∧ s.lnk.rx.state = .hunt ∧ s.mec.state = .recovery ∧ s.ctu.value = 0 ∧ s.tsc.skip = [] ∧
    s.tsc.plan = [] ∧ s.tsc.active = none ∧ s.tar.holder = .none ∧ (∀ n, (s.slot n).state = .empty) ∧
    ∀ n, (s.preset n).used = false
end

