-- ==== Sys2Proof/Laws/State.lean ====
section
/-! SUPPORT. One lemma for each field of the state and each update of one block's record, so that no proof unfolds an update. -/

namespace Sys2Proof.Machine

/-! ### State.mapMec -/

@[simp] theorem State.mapMec_mec (g : Mec → Mec) (s : State) : (s.mapMec g).mec = g s.mec := rfl
@[simp] theorem State.mapMec_srv (g : Mec → Mec) (s : State) : (s.mapMec g).srv = s.srv := rfl
@[simp] theorem State.mapMec_ctu (g : Mec → Mec) (s : State) : (s.mapMec g).ctu = s.ctu := rfl
@[simp] theorem State.mapMec_tpe (g : Mec → Mec) (s : State) : (s.mapMec g).tpe = s.tpe := rfl
@[simp] theorem State.mapMec_tun (g : Mec → Mec) (s : State) : (s.mapMec g).tun = s.tun := rfl
@[simp] theorem State.mapMec_tar (g : Mec → Mec) (s : State) : (s.mapMec g).tar = s.tar := rfl
@[simp] theorem State.mapMec_dld (g : Mec → Mec) (s : State) : (s.mapMec g).dld = s.dld := rfl
@[simp] theorem State.mapMec_clk (g : Mec → Mec) (s : State) : (s.mapMec g).clk = s.clk := rfl
@[simp] theorem State.mapMec_tsc (g : Mec → Mec) (s : State) : (s.mapMec g).tsc = s.tsc := rfl
@[simp] theorem State.mapMec_pwr (g : Mec → Mec) (s : State) : (s.mapMec g).pwr = s.pwr := rfl
@[simp] theorem State.mapMec_lnk (g : Mec → Mec) (s : State) : (s.mapMec g).lnk = s.lnk := rfl
@[simp] theorem State.mapMec_pins (g : Mec → Mec) (s : State) : (s.mapMec g).pins = s.pins := rfl
@[simp] theorem State.mapMec_reports (g : Mec → Mec) (s : State) : (s.mapMec g).reports = s.reports := rfl
@[simp] theorem State.mapMec_fresh (g : Mec → Mec) (s : State) : (s.mapMec g).fresh = s.fresh := rfl
@[simp] theorem State.mapMec_pending (g : Mec → Mec) (s : State) : (s.mapMec g).pending = s.pending := rfl

/-! ### State.mapSrv -/

@[simp] theorem State.mapSrv_mec (g : Srv → Srv) (s : State) : (s.mapSrv g).mec = s.mec := rfl
@[simp] theorem State.mapSrv_srv (g : Srv → Srv) (s : State) : (s.mapSrv g).srv = g s.srv := rfl
@[simp] theorem State.mapSrv_ctu (g : Srv → Srv) (s : State) : (s.mapSrv g).ctu = s.ctu := rfl
@[simp] theorem State.mapSrv_tpe (g : Srv → Srv) (s : State) : (s.mapSrv g).tpe = s.tpe := rfl
@[simp] theorem State.mapSrv_tun (g : Srv → Srv) (s : State) : (s.mapSrv g).tun = s.tun := rfl
@[simp] theorem State.mapSrv_tar (g : Srv → Srv) (s : State) : (s.mapSrv g).tar = s.tar := rfl
@[simp] theorem State.mapSrv_dld (g : Srv → Srv) (s : State) : (s.mapSrv g).dld = s.dld := rfl
@[simp] theorem State.mapSrv_clk (g : Srv → Srv) (s : State) : (s.mapSrv g).clk = s.clk := rfl
@[simp] theorem State.mapSrv_tsc (g : Srv → Srv) (s : State) : (s.mapSrv g).tsc = s.tsc := rfl
@[simp] theorem State.mapSrv_pwr (g : Srv → Srv) (s : State) : (s.mapSrv g).pwr = s.pwr := rfl
@[simp] theorem State.mapSrv_lnk (g : Srv → Srv) (s : State) : (s.mapSrv g).lnk = s.lnk := rfl
@[simp] theorem State.mapSrv_pins (g : Srv → Srv) (s : State) : (s.mapSrv g).pins = s.pins := rfl
@[simp] theorem State.mapSrv_reports (g : Srv → Srv) (s : State) : (s.mapSrv g).reports = s.reports := rfl
@[simp] theorem State.mapSrv_fresh (g : Srv → Srv) (s : State) : (s.mapSrv g).fresh = s.fresh := rfl
@[simp] theorem State.mapSrv_pending (g : Srv → Srv) (s : State) : (s.mapSrv g).pending = s.pending := rfl

/-! ### State.mapCtu -/

@[simp] theorem State.mapCtu_mec (g : Ctu → Ctu) (s : State) : (s.mapCtu g).mec = s.mec := rfl
@[simp] theorem State.mapCtu_srv (g : Ctu → Ctu) (s : State) : (s.mapCtu g).srv = s.srv := rfl
@[simp] theorem State.mapCtu_ctu (g : Ctu → Ctu) (s : State) : (s.mapCtu g).ctu = g s.ctu := rfl
@[simp] theorem State.mapCtu_tpe (g : Ctu → Ctu) (s : State) : (s.mapCtu g).tpe = s.tpe := rfl
@[simp] theorem State.mapCtu_tun (g : Ctu → Ctu) (s : State) : (s.mapCtu g).tun = s.tun := rfl
@[simp] theorem State.mapCtu_tar (g : Ctu → Ctu) (s : State) : (s.mapCtu g).tar = s.tar := rfl
@[simp] theorem State.mapCtu_dld (g : Ctu → Ctu) (s : State) : (s.mapCtu g).dld = s.dld := rfl
@[simp] theorem State.mapCtu_clk (g : Ctu → Ctu) (s : State) : (s.mapCtu g).clk = s.clk := rfl
@[simp] theorem State.mapCtu_tsc (g : Ctu → Ctu) (s : State) : (s.mapCtu g).tsc = s.tsc := rfl
@[simp] theorem State.mapCtu_pwr (g : Ctu → Ctu) (s : State) : (s.mapCtu g).pwr = s.pwr := rfl
@[simp] theorem State.mapCtu_lnk (g : Ctu → Ctu) (s : State) : (s.mapCtu g).lnk = s.lnk := rfl
@[simp] theorem State.mapCtu_pins (g : Ctu → Ctu) (s : State) : (s.mapCtu g).pins = s.pins := rfl
@[simp] theorem State.mapCtu_reports (g : Ctu → Ctu) (s : State) : (s.mapCtu g).reports = s.reports := rfl
@[simp] theorem State.mapCtu_fresh (g : Ctu → Ctu) (s : State) : (s.mapCtu g).fresh = s.fresh := rfl
@[simp] theorem State.mapCtu_pending (g : Ctu → Ctu) (s : State) : (s.mapCtu g).pending = s.pending := rfl

/-! ### State.mapTpe -/

@[simp] theorem State.mapTpe_mec (g : Tpe → Tpe) (s : State) : (s.mapTpe g).mec = s.mec := rfl
@[simp] theorem State.mapTpe_srv (g : Tpe → Tpe) (s : State) : (s.mapTpe g).srv = s.srv := rfl
@[simp] theorem State.mapTpe_ctu (g : Tpe → Tpe) (s : State) : (s.mapTpe g).ctu = s.ctu := rfl
@[simp] theorem State.mapTpe_tpe (g : Tpe → Tpe) (s : State) : (s.mapTpe g).tpe = g s.tpe := rfl
@[simp] theorem State.mapTpe_tun (g : Tpe → Tpe) (s : State) : (s.mapTpe g).tun = s.tun := rfl
@[simp] theorem State.mapTpe_tar (g : Tpe → Tpe) (s : State) : (s.mapTpe g).tar = s.tar := rfl
@[simp] theorem State.mapTpe_dld (g : Tpe → Tpe) (s : State) : (s.mapTpe g).dld = s.dld := rfl
@[simp] theorem State.mapTpe_clk (g : Tpe → Tpe) (s : State) : (s.mapTpe g).clk = s.clk := rfl
@[simp] theorem State.mapTpe_tsc (g : Tpe → Tpe) (s : State) : (s.mapTpe g).tsc = s.tsc := rfl
@[simp] theorem State.mapTpe_pwr (g : Tpe → Tpe) (s : State) : (s.mapTpe g).pwr = s.pwr := rfl
@[simp] theorem State.mapTpe_lnk (g : Tpe → Tpe) (s : State) : (s.mapTpe g).lnk = s.lnk := rfl
@[simp] theorem State.mapTpe_pins (g : Tpe → Tpe) (s : State) : (s.mapTpe g).pins = s.pins := rfl
@[simp] theorem State.mapTpe_reports (g : Tpe → Tpe) (s : State) : (s.mapTpe g).reports = s.reports := rfl
@[simp] theorem State.mapTpe_fresh (g : Tpe → Tpe) (s : State) : (s.mapTpe g).fresh = s.fresh := rfl
@[simp] theorem State.mapTpe_pending (g : Tpe → Tpe) (s : State) : (s.mapTpe g).pending = s.pending := rfl

/-! ### State.mapTun -/

@[simp] theorem State.mapTun_mec (g : Tun → Tun) (s : State) : (s.mapTun g).mec = s.mec := rfl
@[simp] theorem State.mapTun_srv (g : Tun → Tun) (s : State) : (s.mapTun g).srv = s.srv := rfl
@[simp] theorem State.mapTun_ctu (g : Tun → Tun) (s : State) : (s.mapTun g).ctu = s.ctu := rfl
@[simp] theorem State.mapTun_tpe (g : Tun → Tun) (s : State) : (s.mapTun g).tpe = s.tpe := rfl
@[simp] theorem State.mapTun_tun (g : Tun → Tun) (s : State) : (s.mapTun g).tun = g s.tun := rfl
@[simp] theorem State.mapTun_tar (g : Tun → Tun) (s : State) : (s.mapTun g).tar = s.tar := rfl
@[simp] theorem State.mapTun_dld (g : Tun → Tun) (s : State) : (s.mapTun g).dld = s.dld := rfl
@[simp] theorem State.mapTun_clk (g : Tun → Tun) (s : State) : (s.mapTun g).clk = s.clk := rfl
@[simp] theorem State.mapTun_tsc (g : Tun → Tun) (s : State) : (s.mapTun g).tsc = s.tsc := rfl
@[simp] theorem State.mapTun_pwr (g : Tun → Tun) (s : State) : (s.mapTun g).pwr = s.pwr := rfl
@[simp] theorem State.mapTun_lnk (g : Tun → Tun) (s : State) : (s.mapTun g).lnk = s.lnk := rfl
@[simp] theorem State.mapTun_pins (g : Tun → Tun) (s : State) : (s.mapTun g).pins = s.pins := rfl
@[simp] theorem State.mapTun_reports (g : Tun → Tun) (s : State) : (s.mapTun g).reports = s.reports := rfl
@[simp] theorem State.mapTun_fresh (g : Tun → Tun) (s : State) : (s.mapTun g).fresh = s.fresh := rfl
@[simp] theorem State.mapTun_pending (g : Tun → Tun) (s : State) : (s.mapTun g).pending = s.pending := rfl

/-! ### State.mapTar -/

@[simp] theorem State.mapTar_mec (g : Tar → Tar) (s : State) : (s.mapTar g).mec = s.mec := rfl
@[simp] theorem State.mapTar_srv (g : Tar → Tar) (s : State) : (s.mapTar g).srv = s.srv := rfl
@[simp] theorem State.mapTar_ctu (g : Tar → Tar) (s : State) : (s.mapTar g).ctu = s.ctu := rfl
@[simp] theorem State.mapTar_tpe (g : Tar → Tar) (s : State) : (s.mapTar g).tpe = s.tpe := rfl
@[simp] theorem State.mapTar_tun (g : Tar → Tar) (s : State) : (s.mapTar g).tun = s.tun := rfl
@[simp] theorem State.mapTar_tar (g : Tar → Tar) (s : State) : (s.mapTar g).tar = g s.tar := rfl
@[simp] theorem State.mapTar_dld (g : Tar → Tar) (s : State) : (s.mapTar g).dld = s.dld := rfl
@[simp] theorem State.mapTar_clk (g : Tar → Tar) (s : State) : (s.mapTar g).clk = s.clk := rfl
@[simp] theorem State.mapTar_tsc (g : Tar → Tar) (s : State) : (s.mapTar g).tsc = s.tsc := rfl
@[simp] theorem State.mapTar_pwr (g : Tar → Tar) (s : State) : (s.mapTar g).pwr = s.pwr := rfl
@[simp] theorem State.mapTar_lnk (g : Tar → Tar) (s : State) : (s.mapTar g).lnk = s.lnk := rfl
@[simp] theorem State.mapTar_pins (g : Tar → Tar) (s : State) : (s.mapTar g).pins = s.pins := rfl
@[simp] theorem State.mapTar_reports (g : Tar → Tar) (s : State) : (s.mapTar g).reports = s.reports := rfl
@[simp] theorem State.mapTar_fresh (g : Tar → Tar) (s : State) : (s.mapTar g).fresh = s.fresh := rfl
@[simp] theorem State.mapTar_pending (g : Tar → Tar) (s : State) : (s.mapTar g).pending = s.pending := rfl

/-! ### State.mapDld -/

@[simp] theorem State.mapDld_mec (g : Dld → Dld) (s : State) : (s.mapDld g).mec = s.mec := rfl
@[simp] theorem State.mapDld_srv (g : Dld → Dld) (s : State) : (s.mapDld g).srv = s.srv := rfl
@[simp] theorem State.mapDld_ctu (g : Dld → Dld) (s : State) : (s.mapDld g).ctu = s.ctu := rfl
@[simp] theorem State.mapDld_tpe (g : Dld → Dld) (s : State) : (s.mapDld g).tpe = s.tpe := rfl
@[simp] theorem State.mapDld_tun (g : Dld → Dld) (s : State) : (s.mapDld g).tun = s.tun := rfl
@[simp] theorem State.mapDld_tar (g : Dld → Dld) (s : State) : (s.mapDld g).tar = s.tar := rfl
@[simp] theorem State.mapDld_dld (g : Dld → Dld) (s : State) : (s.mapDld g).dld = g s.dld := rfl
@[simp] theorem State.mapDld_clk (g : Dld → Dld) (s : State) : (s.mapDld g).clk = s.clk := rfl
@[simp] theorem State.mapDld_tsc (g : Dld → Dld) (s : State) : (s.mapDld g).tsc = s.tsc := rfl
@[simp] theorem State.mapDld_pwr (g : Dld → Dld) (s : State) : (s.mapDld g).pwr = s.pwr := rfl
@[simp] theorem State.mapDld_lnk (g : Dld → Dld) (s : State) : (s.mapDld g).lnk = s.lnk := rfl
@[simp] theorem State.mapDld_pins (g : Dld → Dld) (s : State) : (s.mapDld g).pins = s.pins := rfl
@[simp] theorem State.mapDld_reports (g : Dld → Dld) (s : State) : (s.mapDld g).reports = s.reports := rfl
@[simp] theorem State.mapDld_fresh (g : Dld → Dld) (s : State) : (s.mapDld g).fresh = s.fresh := rfl
@[simp] theorem State.mapDld_pending (g : Dld → Dld) (s : State) : (s.mapDld g).pending = s.pending := rfl

/-! ### State.mapClk -/

@[simp] theorem State.mapClk_mec (g : Clk → Clk) (s : State) : (s.mapClk g).mec = s.mec := rfl
@[simp] theorem State.mapClk_srv (g : Clk → Clk) (s : State) : (s.mapClk g).srv = s.srv := rfl
@[simp] theorem State.mapClk_ctu (g : Clk → Clk) (s : State) : (s.mapClk g).ctu = s.ctu := rfl
@[simp] theorem State.mapClk_tpe (g : Clk → Clk) (s : State) : (s.mapClk g).tpe = s.tpe := rfl
@[simp] theorem State.mapClk_tun (g : Clk → Clk) (s : State) : (s.mapClk g).tun = s.tun := rfl
@[simp] theorem State.mapClk_tar (g : Clk → Clk) (s : State) : (s.mapClk g).tar = s.tar := rfl
@[simp] theorem State.mapClk_dld (g : Clk → Clk) (s : State) : (s.mapClk g).dld = s.dld := rfl
@[simp] theorem State.mapClk_clk (g : Clk → Clk) (s : State) : (s.mapClk g).clk = g s.clk := rfl
@[simp] theorem State.mapClk_tsc (g : Clk → Clk) (s : State) : (s.mapClk g).tsc = s.tsc := rfl
@[simp] theorem State.mapClk_pwr (g : Clk → Clk) (s : State) : (s.mapClk g).pwr = s.pwr := rfl
@[simp] theorem State.mapClk_lnk (g : Clk → Clk) (s : State) : (s.mapClk g).lnk = s.lnk := rfl
@[simp] theorem State.mapClk_pins (g : Clk → Clk) (s : State) : (s.mapClk g).pins = s.pins := rfl
@[simp] theorem State.mapClk_reports (g : Clk → Clk) (s : State) : (s.mapClk g).reports = s.reports := rfl
@[simp] theorem State.mapClk_fresh (g : Clk → Clk) (s : State) : (s.mapClk g).fresh = s.fresh := rfl
@[simp] theorem State.mapClk_pending (g : Clk → Clk) (s : State) : (s.mapClk g).pending = s.pending := rfl

/-! ### State.mapTsc -/

@[simp] theorem State.mapTsc_mec (g : Tsc → Tsc) (s : State) : (s.mapTsc g).mec = s.mec := rfl
@[simp] theorem State.mapTsc_srv (g : Tsc → Tsc) (s : State) : (s.mapTsc g).srv = s.srv := rfl
@[simp] theorem State.mapTsc_ctu (g : Tsc → Tsc) (s : State) : (s.mapTsc g).ctu = s.ctu := rfl
@[simp] theorem State.mapTsc_tpe (g : Tsc → Tsc) (s : State) : (s.mapTsc g).tpe = s.tpe := rfl
@[simp] theorem State.mapTsc_tun (g : Tsc → Tsc) (s : State) : (s.mapTsc g).tun = s.tun := rfl
@[simp] theorem State.mapTsc_tar (g : Tsc → Tsc) (s : State) : (s.mapTsc g).tar = s.tar := rfl
@[simp] theorem State.mapTsc_dld (g : Tsc → Tsc) (s : State) : (s.mapTsc g).dld = s.dld := rfl
@[simp] theorem State.mapTsc_clk (g : Tsc → Tsc) (s : State) : (s.mapTsc g).clk = s.clk := rfl
@[simp] theorem State.mapTsc_tsc (g : Tsc → Tsc) (s : State) : (s.mapTsc g).tsc = g s.tsc := rfl
@[simp] theorem State.mapTsc_pwr (g : Tsc → Tsc) (s : State) : (s.mapTsc g).pwr = s.pwr := rfl
@[simp] theorem State.mapTsc_lnk (g : Tsc → Tsc) (s : State) : (s.mapTsc g).lnk = s.lnk := rfl
@[simp] theorem State.mapTsc_pins (g : Tsc → Tsc) (s : State) : (s.mapTsc g).pins = s.pins := rfl
@[simp] theorem State.mapTsc_reports (g : Tsc → Tsc) (s : State) : (s.mapTsc g).reports = s.reports := rfl
@[simp] theorem State.mapTsc_fresh (g : Tsc → Tsc) (s : State) : (s.mapTsc g).fresh = s.fresh := rfl
@[simp] theorem State.mapTsc_pending (g : Tsc → Tsc) (s : State) : (s.mapTsc g).pending = s.pending := rfl

/-! ### State.mapPwr -/

@[simp] theorem State.mapPwr_mec (g : Pwr → Pwr) (s : State) : (s.mapPwr g).mec = s.mec := rfl
@[simp] theorem State.mapPwr_srv (g : Pwr → Pwr) (s : State) : (s.mapPwr g).srv = s.srv := rfl
@[simp] theorem State.mapPwr_ctu (g : Pwr → Pwr) (s : State) : (s.mapPwr g).ctu = s.ctu := rfl
@[simp] theorem State.mapPwr_tpe (g : Pwr → Pwr) (s : State) : (s.mapPwr g).tpe = s.tpe := rfl
@[simp] theorem State.mapPwr_tun (g : Pwr → Pwr) (s : State) : (s.mapPwr g).tun = s.tun := rfl
@[simp] theorem State.mapPwr_tar (g : Pwr → Pwr) (s : State) : (s.mapPwr g).tar = s.tar := rfl
@[simp] theorem State.mapPwr_dld (g : Pwr → Pwr) (s : State) : (s.mapPwr g).dld = s.dld := rfl
@[simp] theorem State.mapPwr_clk (g : Pwr → Pwr) (s : State) : (s.mapPwr g).clk = s.clk := rfl
@[simp] theorem State.mapPwr_tsc (g : Pwr → Pwr) (s : State) : (s.mapPwr g).tsc = s.tsc := rfl
@[simp] theorem State.mapPwr_pwr (g : Pwr → Pwr) (s : State) : (s.mapPwr g).pwr = g s.pwr := rfl
@[simp] theorem State.mapPwr_lnk (g : Pwr → Pwr) (s : State) : (s.mapPwr g).lnk = s.lnk := rfl
@[simp] theorem State.mapPwr_pins (g : Pwr → Pwr) (s : State) : (s.mapPwr g).pins = s.pins := rfl
@[simp] theorem State.mapPwr_reports (g : Pwr → Pwr) (s : State) : (s.mapPwr g).reports = s.reports := rfl
@[simp] theorem State.mapPwr_fresh (g : Pwr → Pwr) (s : State) : (s.mapPwr g).fresh = s.fresh := rfl
@[simp] theorem State.mapPwr_pending (g : Pwr → Pwr) (s : State) : (s.mapPwr g).pending = s.pending := rfl

/-! ### State.mapLnk -/

@[simp] theorem State.mapLnk_mec (g : Lnk → Lnk) (s : State) : (s.mapLnk g).mec = s.mec := rfl
@[simp] theorem State.mapLnk_srv (g : Lnk → Lnk) (s : State) : (s.mapLnk g).srv = s.srv := rfl
@[simp] theorem State.mapLnk_ctu (g : Lnk → Lnk) (s : State) : (s.mapLnk g).ctu = s.ctu := rfl
@[simp] theorem State.mapLnk_tpe (g : Lnk → Lnk) (s : State) : (s.mapLnk g).tpe = s.tpe := rfl
@[simp] theorem State.mapLnk_tun (g : Lnk → Lnk) (s : State) : (s.mapLnk g).tun = s.tun := rfl
@[simp] theorem State.mapLnk_tar (g : Lnk → Lnk) (s : State) : (s.mapLnk g).tar = s.tar := rfl
@[simp] theorem State.mapLnk_dld (g : Lnk → Lnk) (s : State) : (s.mapLnk g).dld = s.dld := rfl
@[simp] theorem State.mapLnk_clk (g : Lnk → Lnk) (s : State) : (s.mapLnk g).clk = s.clk := rfl
@[simp] theorem State.mapLnk_tsc (g : Lnk → Lnk) (s : State) : (s.mapLnk g).tsc = s.tsc := rfl
@[simp] theorem State.mapLnk_pwr (g : Lnk → Lnk) (s : State) : (s.mapLnk g).pwr = s.pwr := rfl
@[simp] theorem State.mapLnk_lnk (g : Lnk → Lnk) (s : State) : (s.mapLnk g).lnk = g s.lnk := rfl
@[simp] theorem State.mapLnk_pins (g : Lnk → Lnk) (s : State) : (s.mapLnk g).pins = s.pins := rfl
@[simp] theorem State.mapLnk_reports (g : Lnk → Lnk) (s : State) : (s.mapLnk g).reports = s.reports := rfl
@[simp] theorem State.mapLnk_fresh (g : Lnk → Lnk) (s : State) : (s.mapLnk g).fresh = s.fresh := rfl
@[simp] theorem State.mapLnk_pending (g : Lnk → Lnk) (s : State) : (s.mapLnk g).pending = s.pending := rfl

/-! ### State.mapPins -/

@[simp] theorem State.mapPins_mec (g : Pins → Pins) (s : State) : (s.mapPins g).mec = s.mec := rfl
@[simp] theorem State.mapPins_srv (g : Pins → Pins) (s : State) : (s.mapPins g).srv = s.srv := rfl
@[simp] theorem State.mapPins_ctu (g : Pins → Pins) (s : State) : (s.mapPins g).ctu = s.ctu := rfl
@[simp] theorem State.mapPins_tpe (g : Pins → Pins) (s : State) : (s.mapPins g).tpe = s.tpe := rfl
@[simp] theorem State.mapPins_tun (g : Pins → Pins) (s : State) : (s.mapPins g).tun = s.tun := rfl
@[simp] theorem State.mapPins_tar (g : Pins → Pins) (s : State) : (s.mapPins g).tar = s.tar := rfl
@[simp] theorem State.mapPins_dld (g : Pins → Pins) (s : State) : (s.mapPins g).dld = s.dld := rfl
@[simp] theorem State.mapPins_clk (g : Pins → Pins) (s : State) : (s.mapPins g).clk = s.clk := rfl
@[simp] theorem State.mapPins_tsc (g : Pins → Pins) (s : State) : (s.mapPins g).tsc = s.tsc := rfl
@[simp] theorem State.mapPins_pwr (g : Pins → Pins) (s : State) : (s.mapPins g).pwr = s.pwr := rfl
@[simp] theorem State.mapPins_lnk (g : Pins → Pins) (s : State) : (s.mapPins g).lnk = s.lnk := rfl
@[simp] theorem State.mapPins_pins (g : Pins → Pins) (s : State) : (s.mapPins g).pins = g s.pins := rfl
@[simp] theorem State.mapPins_reports (g : Pins → Pins) (s : State) : (s.mapPins g).reports = s.reports := rfl
@[simp] theorem State.mapPins_fresh (g : Pins → Pins) (s : State) : (s.mapPins g).fresh = s.fresh := rfl
@[simp] theorem State.mapPins_pending (g : Pins → Pins) (s : State) : (s.mapPins g).pending = s.pending := rfl

end Sys2Proof.Machine
end

