-- ==== Sys2Proof/Laws/Ops.lean ====
section
/-! SUPPORT. For each operation the commands share, one lemma that says everything it does. -/

namespace Sys2Proof.Machine

variable {s : State}

/-! ### Notices, flags and reports -/

theorem raise_eq (n : Notice) (s : State) :
    raise n s = s.mapLnk fun l =>
      { l with notices := if s.pwr.mode = .backup then l.notices else l.notices ||| ((1#12 <<< n.bit) &&& l.mask) } := by
  unfold raise; split <;> rfl

theorem raiseIf_eq (b : Bool) (n : Notice) (s : State) :
    raiseIf b n s = s.mapLnk fun l =>
      { l with notices :=
          if b = true ∧ s.pwr.mode ≠ .backup then l.notices ||| ((1#12 <<< n.bit) &&& l.mask) else l.notices } := by
  cases b
  · rfl
  · by_cases h : s.pwr.mode = .backup <;> simp [raiseIf, raise, State.mapLnk, h]

theorem withdraw_eq (n : Notice) (s : State) :
    withdraw n s = s.mapLnk fun l => { l with notices := l.notices &&& ~~~(1#12 <<< n.bit) } := rfl

theorem setSticky_eq (f : Sticky) (s : State) :
    setSticky f s = s.mapLnk fun l => { l with sticky := l.sticky ||| (1#8 <<< f.bit) } := rfl

theorem setReported_eq (f : Reported) (s : State) :
    setReported f s = s.mapLnk fun l => { l with reported := l.reported ||| (1#4 <<< f.bit) } := rfl

theorem report_eq (r : Report) (s : State) : report r s = { s with reports := s.reports ++ [r] } := rfl

theorem reportIf_eq (b : Bool) (r : Report) (s : State) :
    reportIf b r s = { s with reports := s.reports ++ if b then [r] else [] } := by
  cases b
  · simp [reportIf]
  · rfl

theorem reply_eq (r : Reply) (s : State) : reply r s = s.mapLnk fun l => { l with reply := some r } := rfl

/-- A link error sets its flag, counts, and raises LINK where the flag was clear. -/
theorem linkError_eq (f : Sticky) (s : State) :
    linkError f s = raiseIf (!s.stickySet f) .link
      (s.mapLnk fun l => { l with sticky := l.sticky ||| (1#8 <<< f.bit), errors := min 255 (l.errors + 1) }) := rfl

theorem when_true (f : State → State) (s : State) : when true f s = f s := rfl

theorem when_false (f : State → State) (s : State) : when false f s = s := rfl

/-! ### The end of a command -/

/-- With no report waiting nothing is taken. -/
theorem settle_quiet (h : s.reports = []) : ∀ n, settle n s = s
  | 0 => rfl
  | n + 1 => by simp [settle, h]

/-- The first report waiting is taken. -/
theorem settle_cons {r : Report} {rest : List Report} (h : s.reports = r :: rest) (n : Nat) :
    settle (n + 1) s = settle n (takeReport r { s with reports := rest }) := by simp [settle, h]

/-- A command that makes no report ends with the transmit arbiter. -/
theorem done_quiet (h : s.reports = []) : done s = .next (transmit s) := by
  simp [done, settled, settle_quiet h]

/-- A frame that begins is on the line, and the free values of the next one are fresh. -/
theorem sendFrame_eq (kind : Byte) (body : List Byte) (s : State) :
    sendFrame kind body s = { s with lnk := { s.lnk with line := some (frameOf kind body) }, fresh := s.fresh + 1 } := rfl

/-- A reply that begins frees the buffer and clears the flags it reports. -/
theorem beginReply_eq (r : Reply) (s : State) :
    beginReply r s =
      sendFrame (replyKind (s.lnk.buffer.getD 0) r) ((replyFrames (s.lnk.buffer.getD 0) s r).headD [])
        (s.mapLnk fun l =>
          { l with reported := l.reported &&& ~~~(flagsCleared r), buffer := none, reply := none,
                   parts := (replyFrames (s.lnk.buffer.getD 0) s r).drop 1 }) := rfl

/-- A notice that begins is pending no more. -/
theorem beginNotice_eq (n : Notice) (s : State) (h : n ≠ .packet) :
    beginNotice n s = sendFrame n.code (noticeBody s n)
      (s.mapLnk fun l => { l with notices := l.notices &&& ~~~(1#12 <<< n.bit) }) := by
  cases n <;> first | rfl | exact absurd rfl h

/-- A PACKET notice that begins takes its record along (R121). -/
theorem beginNotice_packet_eq (s : State) :
    beginNotice .packet s = captureSent (sendFrame 0x46 (noticeBody s .packet)
      (s.mapLnk fun l => { l with notices := l.notices &&& ~~~(1#12 <<< 6) })) := rfl

theorem captureSent_eq (s : State) :
    captureSent s = raiseIf s.dld.back.isSome .packet (s.mapDld fun d => { d with front := d.back, back := none }) := rfl

/-- The transmit arbiter changes LNK, the counter of the free values and, where it hands a PACKET notice over, DLD. -/
theorem transmit_frame (s : State) : ∃ l d n, transmit s = { s with lnk := l, dld := d, fresh := n } := by
  unfold transmit
  split
  · exact ⟨s.lnk, s.dld, s.fresh, rfl⟩
  split
  swap
  · exact ⟨s.lnk, s.dld, s.fresh, rfl⟩
  split
  · simp only [beginPart, sendFrame_eq, State.mapLnk]; exact ⟨_, s.dld, _, rfl⟩
  · simp only [beginReply_eq, sendFrame_eq, State.mapLnk]; exact ⟨_, s.dld, _, rfl⟩
  · unfold transmitNotice
    split
    · rename_i n _ _
      by_cases h : n = .packet
      · subst h
        simp only [beginNotice_packet_eq, captureSent_eq, raiseIf_eq, sendFrame_eq, State.mapLnk, State.mapDld]
        exact ⟨_, _, _, rfl⟩
      · simp only [beginNotice_eq n s h, sendFrame_eq, State.mapLnk]; exact ⟨_, s.dld, _, rfl⟩
    · exact ⟨s.lnk, s.dld, s.fresh, rfl⟩

/-- While a frame is on the line nothing begins. -/
theorem transmit_busy (h : s.lnk.line.isSome) : transmit s = s := by simp [transmit, h]

/-! ### Requests -/

/-- A request that the link listens to is held, and its owner acts. -/
theorem arrives_listened (h : s.Listens) (kind : Byte) (act : State → State) :
    arrives kind act s = act (s.mapLnk fun l => { l with buffer := some kind }) := by
  simp [arrives, intoBuffer, when, h.1, h.2]

/-- A request that comes while one is held is an overrun. -/
theorem arrives_overrun (ha : s.linkAwake = true) (hb : s.lnk.buffer.isSome) (kind : Byte) (act : State → State) :
    arrives kind act s = linkError .linkOverrun s := by
  simp [arrives, intoBuffer, when, ha, hb]

/-- A request while the link is not AWAKE changes nothing. -/
theorem arrives_asleep (h : s.linkAwake = false) (kind : Byte) (act : State → State) : arrives kind act s = s := by
  simp [arrives, when, h]

/-- The checks of a request pass, or the first that fails is named. -/
theorem checked_eq (checks : List (Nat × Bool)) (act : State → State) (s : State) :
    checked checks act s = match firstBad checks with
      | some n => s.mapLnk fun l => { l with reply := some (.refused .fieldRange n) }
      | none => act s := rfl

/-! ### Bytes of the line -/

/-- The last byte is settled as the command ends, the bytes before it as they come in. -/
theorem rxBytes_concat (bytes : List Byte) (b : Byte) (s : State) :
    rxBytes (bytes ++ [b]) s = byteArrives b (bytes.foldl byteSettles s) := by simp [rxBytes]

/-- A byte that does not bring the receiver back to HUNT only acts on the receiver. -/
theorem byteSettles_quiet {b : Byte} (h : s.lnk.rx.state = .hunt ∨ (byteArrives b s).lnk.rx.state ≠ .hunt) :
    byteSettles s b = byteArrives b s := by
  unfold byteSettles
  rcases h with h | h <;> simp [h]

/-- A byte that ends a frame, complete or in error, is settled before the next byte. -/
theorem byteSettles_ends {b : Byte} (h : s.lnk.rx.state ≠ .hunt) (h' : (byteArrives b s).lnk.rx.state = .hunt) :
    byteSettles s b = settled (byteArrives b s) := by simp [byteSettles, h, h']

end Sys2Proof.Machine
end

