-- ==== Sys2Proof/Laws/Frames.lean ====
section
/-! SUPPORT. For each operation of the blocks, one lemma that names every record of the state it leaves as it was. -/

namespace Sys2Proof.Machine

/-! ### Flags -/

@[simp] theorem setSticky_frame (x0 : Sticky) (s : State) :
    (setSticky x0 s).mec = s.mec ∧ (setSticky x0 s).srv = s.srv ∧ (setSticky x0 s).ctu = s.ctu ∧
    (setSticky x0 s).tpe = s.tpe ∧ (setSticky x0 s).tun = s.tun ∧ (setSticky x0 s).tar = s.tar ∧
    (setSticky x0 s).dld = s.dld ∧ (setSticky x0 s).clk = s.clk ∧ (setSticky x0 s).tsc = s.tsc ∧
    (setSticky x0 s).pwr = s.pwr ∧ (setSticky x0 s).pins = s.pins ∧ (setSticky x0 s).reports = s.reports ∧
    (setSticky x0 s).fresh = s.fresh ∧ (setSticky x0 s).pending = s.pending := by
  simp [setSticky]

@[simp] theorem setReported_frame (x0 : Reported) (s : State) :
    (setReported x0 s).mec = s.mec ∧ (setReported x0 s).srv = s.srv ∧ (setReported x0 s).ctu = s.ctu ∧
    (setReported x0 s).tpe = s.tpe ∧ (setReported x0 s).tun = s.tun ∧ (setReported x0 s).tar = s.tar ∧
    (setReported x0 s).dld = s.dld ∧ (setReported x0 s).clk = s.clk ∧ (setReported x0 s).tsc = s.tsc ∧
    (setReported x0 s).pwr = s.pwr ∧ (setReported x0 s).pins = s.pins ∧ (setReported x0 s).reports = s.reports ∧
    (setReported x0 s).fresh = s.fresh ∧ (setReported x0 s).pending = s.pending := by
  simp [setReported]

@[simp] theorem clearReported_frame (x0 : BitVec 4) (s : State) :
    (clearReported x0 s).mec = s.mec ∧ (clearReported x0 s).srv = s.srv ∧ (clearReported x0 s).ctu = s.ctu ∧
    (clearReported x0 s).tpe = s.tpe ∧ (clearReported x0 s).tun = s.tun ∧ (clearReported x0 s).tar = s.tar ∧
    (clearReported x0 s).dld = s.dld ∧ (clearReported x0 s).clk = s.clk ∧ (clearReported x0 s).tsc = s.tsc ∧
    (clearReported x0 s).pwr = s.pwr ∧ (clearReported x0 s).pins = s.pins ∧
    (clearReported x0 s).reports = s.reports ∧ (clearReported x0 s).fresh = s.fresh ∧
    (clearReported x0 s).pending = s.pending := by
  simp [clearReported]

/-! ### Ops -/

@[simp] theorem raise_frame (x0 : Notice) (s : State) :
    (raise x0 s).mec = s.mec ∧ (raise x0 s).srv = s.srv ∧ (raise x0 s).ctu = s.ctu ∧ (raise x0 s).tpe = s.tpe ∧
    (raise x0 s).tun = s.tun ∧ (raise x0 s).tar = s.tar ∧ (raise x0 s).dld = s.dld ∧ (raise x0 s).clk = s.clk ∧
    (raise x0 s).tsc = s.tsc ∧ (raise x0 s).pwr = s.pwr ∧ (raise x0 s).pins = s.pins ∧
    (raise x0 s).reports = s.reports ∧ (raise x0 s).fresh = s.fresh ∧ (raise x0 s).pending = s.pending := by
  unfold raise; split <;> simp

@[simp] theorem withdraw_frame (x0 : Notice) (s : State) :
    (withdraw x0 s).mec = s.mec ∧ (withdraw x0 s).srv = s.srv ∧ (withdraw x0 s).ctu = s.ctu ∧
    (withdraw x0 s).tpe = s.tpe ∧ (withdraw x0 s).tun = s.tun ∧ (withdraw x0 s).tar = s.tar ∧
    (withdraw x0 s).dld = s.dld ∧ (withdraw x0 s).clk = s.clk ∧ (withdraw x0 s).tsc = s.tsc ∧
    (withdraw x0 s).pwr = s.pwr ∧ (withdraw x0 s).pins = s.pins ∧ (withdraw x0 s).reports = s.reports ∧
    (withdraw x0 s).fresh = s.fresh ∧ (withdraw x0 s).pending = s.pending := by
  simp [withdraw]

@[simp] theorem raiseIf_frame (x0 : Bool) (x1 : Notice) (s : State) :
    (raiseIf x0 x1 s).mec = s.mec ∧ (raiseIf x0 x1 s).srv = s.srv ∧ (raiseIf x0 x1 s).ctu = s.ctu ∧
    (raiseIf x0 x1 s).tpe = s.tpe ∧ (raiseIf x0 x1 s).tun = s.tun ∧ (raiseIf x0 x1 s).tar = s.tar ∧
    (raiseIf x0 x1 s).dld = s.dld ∧ (raiseIf x0 x1 s).clk = s.clk ∧ (raiseIf x0 x1 s).tsc = s.tsc ∧
    (raiseIf x0 x1 s).pwr = s.pwr ∧ (raiseIf x0 x1 s).pins = s.pins ∧ (raiseIf x0 x1 s).reports = s.reports ∧
    (raiseIf x0 x1 s).fresh = s.fresh ∧ (raiseIf x0 x1 s).pending = s.pending := by
  unfold raiseIf; split <;> simp

@[simp] theorem report_frame (x0 : Report) (s : State) :
    (report x0 s).mec = s.mec ∧ (report x0 s).srv = s.srv ∧ (report x0 s).ctu = s.ctu ∧ (report x0 s).tpe = s.tpe ∧
    (report x0 s).tun = s.tun ∧ (report x0 s).tar = s.tar ∧ (report x0 s).dld = s.dld ∧ (report x0 s).clk = s.clk ∧
    (report x0 s).tsc = s.tsc ∧ (report x0 s).pwr = s.pwr ∧ (report x0 s).lnk = s.lnk ∧
    (report x0 s).pins = s.pins ∧ (report x0 s).fresh = s.fresh ∧ (report x0 s).pending = s.pending := by
  simp [report]

@[simp] theorem reportFirst_frame (x0 : Report) (s : State) :
    (reportFirst x0 s).mec = s.mec ∧ (reportFirst x0 s).srv = s.srv ∧ (reportFirst x0 s).ctu = s.ctu ∧
    (reportFirst x0 s).tpe = s.tpe ∧ (reportFirst x0 s).tun = s.tun ∧ (reportFirst x0 s).tar = s.tar ∧
    (reportFirst x0 s).dld = s.dld ∧ (reportFirst x0 s).clk = s.clk ∧ (reportFirst x0 s).tsc = s.tsc ∧
    (reportFirst x0 s).pwr = s.pwr ∧ (reportFirst x0 s).lnk = s.lnk ∧ (reportFirst x0 s).pins = s.pins ∧
    (reportFirst x0 s).fresh = s.fresh ∧ (reportFirst x0 s).pending = s.pending := by
  simp [reportFirst]

@[simp] theorem reportIf_frame (x0 : Bool) (x1 : Report) (s : State) :
    (reportIf x0 x1 s).mec = s.mec ∧ (reportIf x0 x1 s).srv = s.srv ∧ (reportIf x0 x1 s).ctu = s.ctu ∧
    (reportIf x0 x1 s).tpe = s.tpe ∧ (reportIf x0 x1 s).tun = s.tun ∧ (reportIf x0 x1 s).tar = s.tar ∧
    (reportIf x0 x1 s).dld = s.dld ∧ (reportIf x0 x1 s).clk = s.clk ∧ (reportIf x0 x1 s).tsc = s.tsc ∧
    (reportIf x0 x1 s).pwr = s.pwr ∧ (reportIf x0 x1 s).lnk = s.lnk ∧ (reportIf x0 x1 s).pins = s.pins ∧
    (reportIf x0 x1 s).fresh = s.fresh ∧ (reportIf x0 x1 s).pending = s.pending := by
  unfold reportIf; split <;> simp

@[simp] theorem linkError_frame (x0 : Sticky) (s : State) :
    (linkError x0 s).mec = s.mec ∧ (linkError x0 s).srv = s.srv ∧ (linkError x0 s).ctu = s.ctu ∧
    (linkError x0 s).tpe = s.tpe ∧ (linkError x0 s).tun = s.tun ∧ (linkError x0 s).tar = s.tar ∧
    (linkError x0 s).dld = s.dld ∧ (linkError x0 s).clk = s.clk ∧ (linkError x0 s).tsc = s.tsc ∧
    (linkError x0 s).pwr = s.pwr ∧ (linkError x0 s).pins = s.pins ∧ (linkError x0 s).reports = s.reports ∧
    (linkError x0 s).fresh = s.fresh ∧ (linkError x0 s).pending = s.pending := by
  simp [linkError]

@[simp] theorem reply_frame (x0 : Reply) (s : State) :
    (reply x0 s).mec = s.mec ∧ (reply x0 s).srv = s.srv ∧ (reply x0 s).ctu = s.ctu ∧ (reply x0 s).tpe = s.tpe ∧
    (reply x0 s).tun = s.tun ∧ (reply x0 s).tar = s.tar ∧ (reply x0 s).dld = s.dld ∧ (reply x0 s).clk = s.clk ∧
    (reply x0 s).tsc = s.tsc ∧ (reply x0 s).pwr = s.pwr ∧ (reply x0 s).pins = s.pins ∧
    (reply x0 s).reports = s.reports ∧ (reply x0 s).fresh = s.fresh ∧ (reply x0 s).pending = s.pending := by
  simp [reply]

@[simp] theorem replyOk_frame (x0 : ReplyBody) (s : State) :
    (replyOk x0 s).mec = s.mec ∧ (replyOk x0 s).srv = s.srv ∧ (replyOk x0 s).ctu = s.ctu ∧
    (replyOk x0 s).tpe = s.tpe ∧ (replyOk x0 s).tun = s.tun ∧ (replyOk x0 s).tar = s.tar ∧
    (replyOk x0 s).dld = s.dld ∧ (replyOk x0 s).clk = s.clk ∧ (replyOk x0 s).tsc = s.tsc ∧
    (replyOk x0 s).pwr = s.pwr ∧ (replyOk x0 s).pins = s.pins ∧ (replyOk x0 s).reports = s.reports ∧
    (replyOk x0 s).fresh = s.fresh ∧ (replyOk x0 s).pending = s.pending := by
  simp [replyOk]

@[simp] theorem replyAccepted_frame (x0 : ReplyBody) (s : State) :
    (replyAccepted x0 s).mec = s.mec ∧ (replyAccepted x0 s).srv = s.srv ∧ (replyAccepted x0 s).ctu = s.ctu ∧
    (replyAccepted x0 s).tpe = s.tpe ∧ (replyAccepted x0 s).tun = s.tun ∧ (replyAccepted x0 s).tar = s.tar ∧
    (replyAccepted x0 s).dld = s.dld ∧ (replyAccepted x0 s).clk = s.clk ∧ (replyAccepted x0 s).tsc = s.tsc ∧
    (replyAccepted x0 s).pwr = s.pwr ∧ (replyAccepted x0 s).pins = s.pins ∧
    (replyAccepted x0 s).reports = s.reports ∧ (replyAccepted x0 s).fresh = s.fresh ∧
    (replyAccepted x0 s).pending = s.pending := by
  simp [replyAccepted]

@[simp] theorem refuse_frame (x0 : Reason) (s : State) :
    (refuse x0 s).mec = s.mec ∧ (refuse x0 s).srv = s.srv ∧ (refuse x0 s).ctu = s.ctu ∧ (refuse x0 s).tpe = s.tpe ∧
    (refuse x0 s).tun = s.tun ∧ (refuse x0 s).tar = s.tar ∧ (refuse x0 s).dld = s.dld ∧ (refuse x0 s).clk = s.clk ∧
    (refuse x0 s).tsc = s.tsc ∧ (refuse x0 s).pwr = s.pwr ∧ (refuse x0 s).pins = s.pins ∧
    (refuse x0 s).reports = s.reports ∧ (refuse x0 s).fresh = s.fresh ∧ (refuse x0 s).pending = s.pending := by
  simp [refuse]

@[simp] theorem refuseField_frame (x0 : Nat) (s : State) :
    (refuseField x0 s).mec = s.mec ∧ (refuseField x0 s).srv = s.srv ∧ (refuseField x0 s).ctu = s.ctu ∧
    (refuseField x0 s).tpe = s.tpe ∧ (refuseField x0 s).tun = s.tun ∧ (refuseField x0 s).tar = s.tar ∧
    (refuseField x0 s).dld = s.dld ∧ (refuseField x0 s).clk = s.clk ∧ (refuseField x0 s).tsc = s.tsc ∧
    (refuseField x0 s).pwr = s.pwr ∧ (refuseField x0 s).pins = s.pins ∧ (refuseField x0 s).reports = s.reports ∧
    (refuseField x0 s).fresh = s.fresh ∧ (refuseField x0 s).pending = s.pending := by
  simp [refuseField]

/-! ### Servo -/

@[simp] theorem drumStop_frame (s : State) :
    (drumStop s).ctu = s.ctu ∧ (drumStop s).tpe = s.tpe ∧ (drumStop s).tun = s.tun ∧ (drumStop s).tar = s.tar ∧
    (drumStop s).dld = s.dld ∧ (drumStop s).clk = s.clk ∧ (drumStop s).tsc = s.tsc ∧ (drumStop s).pwr = s.pwr ∧
    (drumStop s).pins = s.pins ∧ (drumStop s).reports = s.reports ∧ (drumStop s).fresh = s.fresh ∧
    (drumStop s).pending = s.pending := by
  simp [drumStop]

@[simp] theorem sweepRestart_frame (s : State) :
    (sweepRestart s).mec = s.mec ∧ (sweepRestart s).ctu = s.ctu ∧ (sweepRestart s).tpe = s.tpe ∧
    (sweepRestart s).tun = s.tun ∧ (sweepRestart s).tar = s.tar ∧ (sweepRestart s).dld = s.dld ∧
    (sweepRestart s).clk = s.clk ∧ (sweepRestart s).tsc = s.tsc ∧ (sweepRestart s).pwr = s.pwr ∧
    (sweepRestart s).lnk = s.lnk ∧ (sweepRestart s).pins = s.pins ∧ (sweepRestart s).reports = s.reports ∧
    (sweepRestart s).fresh = s.fresh ∧ (sweepRestart s).pending = s.pending := by
  simp [sweepRestart]

@[simp] theorem sweepHold_frame (s : State) :
    (sweepHold s).mec = s.mec ∧ (sweepHold s).ctu = s.ctu ∧ (sweepHold s).tpe = s.tpe ∧ (sweepHold s).tun = s.tun ∧
    (sweepHold s).tar = s.tar ∧ (sweepHold s).dld = s.dld ∧ (sweepHold s).clk = s.clk ∧ (sweepHold s).tsc = s.tsc ∧
    (sweepHold s).pwr = s.pwr ∧ (sweepHold s).pins = s.pins ∧ (sweepHold s).reports = s.reports ∧
    (sweepHold s).fresh = s.fresh ∧ (sweepHold s).pending = s.pending := by
  simp [sweepHold]

@[simp] theorem sweepDown_frame (x0 : SweepPhase) (s : State) :
    (sweepDown x0 s).mec = s.mec ∧ (sweepDown x0 s).ctu = s.ctu ∧ (sweepDown x0 s).tpe = s.tpe ∧
    (sweepDown x0 s).tun = s.tun ∧ (sweepDown x0 s).tar = s.tar ∧ (sweepDown x0 s).dld = s.dld ∧
    (sweepDown x0 s).clk = s.clk ∧ (sweepDown x0 s).tsc = s.tsc ∧ (sweepDown x0 s).pwr = s.pwr ∧
    (sweepDown x0 s).pins = s.pins ∧ (sweepDown x0 s).reports = s.reports ∧ (sweepDown x0 s).fresh = s.fresh ∧
    (sweepDown x0 s).pending = s.pending := by
  unfold sweepDown; split <;> simp

@[simp] theorem sweepTake_frame (x0 : Nat) (s : State) :
    (sweepTake x0 s).mec = s.mec ∧ (sweepTake x0 s).ctu = s.ctu ∧ (sweepTake x0 s).tpe = s.tpe ∧
    (sweepTake x0 s).tun = s.tun ∧ (sweepTake x0 s).tar = s.tar ∧ (sweepTake x0 s).dld = s.dld ∧
    (sweepTake x0 s).clk = s.clk ∧ (sweepTake x0 s).tsc = s.tsc ∧ (sweepTake x0 s).pwr = s.pwr ∧
    (sweepTake x0 s).lnk = s.lnk ∧ (sweepTake x0 s).pins = s.pins ∧ (sweepTake x0 s).reports = s.reports ∧
    (sweepTake x0 s).fresh = s.fresh ∧ (sweepTake x0 s).pending = s.pending := by
  simp [sweepTake]

@[simp] theorem sweepReading_frame (x0 : Nat) (s : State) :
    (sweepReading x0 s).mec = s.mec ∧ (sweepReading x0 s).ctu = s.ctu ∧ (sweepReading x0 s).tpe = s.tpe ∧
    (sweepReading x0 s).tun = s.tun ∧ (sweepReading x0 s).tar = s.tar ∧ (sweepReading x0 s).dld = s.dld ∧
    (sweepReading x0 s).clk = s.clk ∧ (sweepReading x0 s).tsc = s.tsc ∧ (sweepReading x0 s).pwr = s.pwr ∧
    (sweepReading x0 s).pins = s.pins ∧ (sweepReading x0 s).reports = s.reports ∧
    (sweepReading x0 s).fresh = s.fresh ∧ (sweepReading x0 s).pending = s.pending := by
  simp only [sweepReading, when, withActive, hostRequest, tableChange, sweepUp]; (repeat' split) <;> simp

@[simp] theorem trackingTake_frame (x0 : TrackMode) (x1 : Int) (s : State) :
    (trackingTake x0 x1 s).mec = s.mec ∧ (trackingTake x0 x1 s).ctu = s.ctu ∧ (trackingTake x0 x1 s).tpe = s.tpe ∧
    (trackingTake x0 x1 s).tun = s.tun ∧ (trackingTake x0 x1 s).tar = s.tar ∧ (trackingTake x0 x1 s).dld = s.dld ∧
    (trackingTake x0 x1 s).clk = s.clk ∧ (trackingTake x0 x1 s).tsc = s.tsc ∧ (trackingTake x0 x1 s).pwr = s.pwr ∧
    (trackingTake x0 x1 s).pins = s.pins ∧ (trackingTake x0 x1 s).reports = s.reports ∧
    (trackingTake x0 x1 s).fresh = s.fresh ∧ (trackingTake x0 x1 s).pending = s.pending := by
  unfold trackingTake; dsimp only; (repeat' split) <;> simp

@[simp] theorem setDetected_frame (x0 : Grade) (s : State) :
    (setDetected x0 s).mec = s.mec ∧ (setDetected x0 s).ctu = s.ctu ∧ (setDetected x0 s).tpe = s.tpe ∧
    (setDetected x0 s).tun = s.tun ∧ (setDetected x0 s).tar = s.tar ∧ (setDetected x0 s).dld = s.dld ∧
    (setDetected x0 s).clk = s.clk ∧ (setDetected x0 s).tsc = s.tsc ∧ (setDetected x0 s).pwr = s.pwr ∧
    (setDetected x0 s).pins = s.pins ∧ (setDetected x0 s).reports = s.reports ∧
    (setDetected x0 s).fresh = s.fresh ∧ (setDetected x0 s).pending = s.pending := by
  simp [setDetected]

@[simp] theorem srvPulse_frame (s : State) :
    (srvPulse s).mec = s.mec ∧ (srvPulse s).ctu = s.ctu ∧ (srvPulse s).tpe = s.tpe ∧ (srvPulse s).tun = s.tun ∧
    (srvPulse s).tar = s.tar ∧ (srvPulse s).dld = s.dld ∧ (srvPulse s).clk = s.clk ∧ (srvPulse s).tsc = s.tsc ∧
    (srvPulse s).pwr = s.pwr ∧ (srvPulse s).pins = s.pins ∧ (srvPulse s).reports = s.reports ∧
    (srvPulse s).fresh = s.fresh ∧ (srvPulse s).pending = s.pending := by
  unfold srvPulse; dsimp only; (repeat' split) <;> simp

@[simp] theorem goBlank_frame (s : State) :
    (goBlank s).mec = s.mec ∧ (goBlank s).ctu = s.ctu ∧ (goBlank s).tpe = s.tpe ∧ (goBlank s).tun = s.tun ∧
    (goBlank s).tar = s.tar ∧ (goBlank s).dld = s.dld ∧ (goBlank s).clk = s.clk ∧ (goBlank s).tsc = s.tsc ∧
    (goBlank s).pwr = s.pwr ∧ (goBlank s).pins = s.pins ∧ (goBlank s).reports = s.reports ∧
    (goBlank s).fresh = s.fresh ∧ (goBlank s).pending = s.pending := by
  simp [goBlank]

@[simp] theorem srvEnterPlay_frame (s : State) :
    (srvEnterPlay s).mec = s.mec ∧ (srvEnterPlay s).ctu = s.ctu ∧ (srvEnterPlay s).tpe = s.tpe ∧
    (srvEnterPlay s).tun = s.tun ∧ (srvEnterPlay s).tar = s.tar ∧ (srvEnterPlay s).dld = s.dld ∧
    (srvEnterPlay s).clk = s.clk ∧ (srvEnterPlay s).tsc = s.tsc ∧ (srvEnterPlay s).pwr = s.pwr ∧
    (srvEnterPlay s).lnk = s.lnk ∧ (srvEnterPlay s).pins = s.pins ∧ (srvEnterPlay s).reports = s.reports ∧
    (srvEnterPlay s).fresh = s.fresh ∧ (srvEnterPlay s).pending = s.pending := by
  unfold srvEnterPlay; dsimp only; split <;> simp

@[simp] theorem srvEnterRecord_frame (s : State) :
    (srvEnterRecord s).mec = s.mec ∧ (srvEnterRecord s).ctu = s.ctu ∧ (srvEnterRecord s).tpe = s.tpe ∧
    (srvEnterRecord s).tun = s.tun ∧ (srvEnterRecord s).tar = s.tar ∧ (srvEnterRecord s).dld = s.dld ∧
    (srvEnterRecord s).clk = s.clk ∧ (srvEnterRecord s).tsc = s.tsc ∧ (srvEnterRecord s).pwr = s.pwr ∧
    (srvEnterRecord s).pins = s.pins ∧ (srvEnterRecord s).fresh = s.fresh ∧ (srvEnterRecord s).pending = s.pending := by
  unfold srvEnterRecord; dsimp only; split <;> simp

@[simp] theorem srvLoaded_frame (s : State) :
    (srvLoaded s).mec = s.mec ∧ (srvLoaded s).ctu = s.ctu ∧ (srvLoaded s).tpe = s.tpe ∧ (srvLoaded s).tun = s.tun ∧
    (srvLoaded s).tar = s.tar ∧ (srvLoaded s).dld = s.dld ∧ (srvLoaded s).clk = s.clk ∧ (srvLoaded s).tsc = s.tsc ∧
    (srvLoaded s).pwr = s.pwr ∧ (srvLoaded s).pins = s.pins ∧ (srvLoaded s).reports = s.reports ∧
    (srvLoaded s).fresh = s.fresh ∧ (srvLoaded s).pending = s.pending := by
  simp [srvLoaded]

/-! ### Control -/

@[simp] theorem setSide_frame (s : State) :
    (setSide s).mec = s.mec ∧ (setSide s).srv = s.srv ∧ (setSide s).tpe = s.tpe ∧ (setSide s).tun = s.tun ∧
    (setSide s).tar = s.tar ∧ (setSide s).dld = s.dld ∧ (setSide s).clk = s.clk ∧ (setSide s).tsc = s.tsc ∧
    (setSide s).pwr = s.pwr ∧ (setSide s).lnk = s.lnk ∧ (setSide s).pins = s.pins ∧
    (setSide s).reports = s.reports ∧ (setSide s).fresh = s.fresh ∧ (setSide s).pending = s.pending := by
  simp [setSide]

@[simp] theorem recordCue_frame (x0 : CueKind) (x1 : Option Nat) (s : State) :
    (recordCue x0 x1 s).mec = s.mec ∧ (recordCue x0 x1 s).srv = s.srv ∧ (recordCue x0 x1 s).tpe = s.tpe ∧
    (recordCue x0 x1 s).tun = s.tun ∧ (recordCue x0 x1 s).tar = s.tar ∧ (recordCue x0 x1 s).dld = s.dld ∧
    (recordCue x0 x1 s).clk = s.clk ∧ (recordCue x0 x1 s).tsc = s.tsc ∧ (recordCue x0 x1 s).pwr = s.pwr ∧
    (recordCue x0 x1 s).pins = s.pins ∧ (recordCue x0 x1 s).reports = s.reports ∧
    (recordCue x0 x1 s).fresh = s.fresh ∧ (recordCue x0 x1 s).pending = s.pending := by
  simp [recordCue]

@[simp] theorem endSeek_frame (x0 : CueKind) (s : State) :
    (endSeek x0 s).mec = s.mec ∧ (endSeek x0 s).srv = s.srv ∧ (endSeek x0 s).tpe = s.tpe ∧
    (endSeek x0 s).tun = s.tun ∧ (endSeek x0 s).tar = s.tar ∧ (endSeek x0 s).dld = s.dld ∧
    (endSeek x0 s).clk = s.clk ∧ (endSeek x0 s).tsc = s.tsc ∧ (endSeek x0 s).pwr = s.pwr ∧
    (endSeek x0 s).pins = s.pins ∧ (endSeek x0 s).reports = s.reports ∧ (endSeek x0 s).fresh = s.fresh ∧
    (endSeek x0 s).pending = s.pending := by
  unfold endSeek; split <;> simp

@[simp] theorem abortMark_frame (s : State) :
    (abortMark s).mec = s.mec ∧ (abortMark s).srv = s.srv ∧ (abortMark s).tpe = s.tpe ∧ (abortMark s).tun = s.tun ∧
    (abortMark s).tar = s.tar ∧ (abortMark s).dld = s.dld ∧ (abortMark s).clk = s.clk ∧ (abortMark s).tsc = s.tsc ∧
    (abortMark s).pwr = s.pwr ∧ (abortMark s).pins = s.pins ∧ (abortMark s).reports = s.reports ∧
    (abortMark s).fresh = s.fresh ∧ (abortMark s).pending = s.pending := by
  unfold abortMark; split <;> simp

@[simp] theorem setUncertain_frame (x0 : Bool) (s : State) :
    (setUncertain x0 s).mec = s.mec ∧ (setUncertain x0 s).srv = s.srv ∧ (setUncertain x0 s).tpe = s.tpe ∧
    (setUncertain x0 s).tun = s.tun ∧ (setUncertain x0 s).tar = s.tar ∧ (setUncertain x0 s).dld = s.dld ∧
    (setUncertain x0 s).clk = s.clk ∧ (setUncertain x0 s).tsc = s.tsc ∧ (setUncertain x0 s).pwr = s.pwr ∧
    (setUncertain x0 s).pins = s.pins ∧ (setUncertain x0 s).reports = s.reports ∧
    (setUncertain x0 s).fresh = s.fresh ∧ (setUncertain x0 s).pending = s.pending := by
  simp [setUncertain]

@[simp] theorem setBegun_frame (x0 : Bool) (s : State) :
    (setBegun x0 s).mec = s.mec ∧ (setBegun x0 s).srv = s.srv ∧ (setBegun x0 s).tpe = s.tpe ∧
    (setBegun x0 s).tun = s.tun ∧ (setBegun x0 s).tar = s.tar ∧ (setBegun x0 s).dld = s.dld ∧
    (setBegun x0 s).clk = s.clk ∧ (setBegun x0 s).tsc = s.tsc ∧ (setBegun x0 s).pwr = s.pwr ∧
    (setBegun x0 s).pins = s.pins ∧ (setBegun x0 s).reports = s.reports ∧ (setBegun x0 s).fresh = s.fresh ∧
    (setBegun x0 s).pending = s.pending := by
  simp [setBegun]

@[simp] theorem ctuLoaded_frame (s : State) :
    (ctuLoaded s).mec = s.mec ∧ (ctuLoaded s).srv = s.srv ∧ (ctuLoaded s).tpe = s.tpe ∧ (ctuLoaded s).tun = s.tun ∧
    (ctuLoaded s).tar = s.tar ∧ (ctuLoaded s).dld = s.dld ∧ (ctuLoaded s).clk = s.clk ∧ (ctuLoaded s).tsc = s.tsc ∧
    (ctuLoaded s).pwr = s.pwr ∧ (ctuLoaded s).pins = s.pins ∧ (ctuLoaded s).reports = s.reports ∧
    (ctuLoaded s).fresh = s.fresh ∧ (ctuLoaded s).pending = s.pending := by
  simp [ctuLoaded]

@[simp] theorem disarmMatch_frame (s : State) :
    (disarmMatch s).mec = s.mec ∧ (disarmMatch s).srv = s.srv ∧ (disarmMatch s).tpe = s.tpe ∧
    (disarmMatch s).tun = s.tun ∧ (disarmMatch s).tar = s.tar ∧ (disarmMatch s).dld = s.dld ∧
    (disarmMatch s).clk = s.clk ∧ (disarmMatch s).tsc = s.tsc ∧ (disarmMatch s).pwr = s.pwr ∧
    (disarmMatch s).lnk = s.lnk ∧ (disarmMatch s).pins = s.pins ∧ (disarmMatch s).reports = s.reports ∧
    (disarmMatch s).fresh = s.fresh ∧ (disarmMatch s).pending = s.pending := by
  simp [disarmMatch]

@[simp] theorem ctuEnterWind_frame (s : State) :
    (ctuEnterWind s).mec = s.mec ∧ (ctuEnterWind s).srv = s.srv ∧ (ctuEnterWind s).tpe = s.tpe ∧
    (ctuEnterWind s).tun = s.tun ∧ (ctuEnterWind s).tar = s.tar ∧ (ctuEnterWind s).dld = s.dld ∧
    (ctuEnterWind s).clk = s.clk ∧ (ctuEnterWind s).tsc = s.tsc ∧ (ctuEnterWind s).pwr = s.pwr ∧
    (ctuEnterWind s).pins = s.pins ∧ (ctuEnterWind s).reports = s.reports ∧ (ctuEnterWind s).fresh = s.fresh ∧
    (ctuEnterWind s).pending = s.pending := by
  unfold ctuEnterWind; split <;> simp

@[simp] theorem ctuEnterReading_frame (x0 : TState) (x1 : TState) (s : State) :
    (ctuEnterReading x0 x1 s).mec = s.mec ∧ (ctuEnterReading x0 x1 s).srv = s.srv ∧
    (ctuEnterReading x0 x1 s).tpe = s.tpe ∧ (ctuEnterReading x0 x1 s).tun = s.tun ∧
    (ctuEnterReading x0 x1 s).tar = s.tar ∧ (ctuEnterReading x0 x1 s).dld = s.dld ∧
    (ctuEnterReading x0 x1 s).clk = s.clk ∧ (ctuEnterReading x0 x1 s).tsc = s.tsc ∧
    (ctuEnterReading x0 x1 s).pwr = s.pwr ∧ (ctuEnterReading x0 x1 s).lnk = s.lnk ∧
    (ctuEnterReading x0 x1 s).pins = s.pins ∧ (ctuEnterReading x0 x1 s).reports = s.reports ∧
    (ctuEnterReading x0 x1 s).fresh = s.fresh ∧ (ctuEnterReading x0 x1 s).pending = s.pending := by
  simp [ctuEnterReading]

@[simp] theorem seekEntered_frame (x0 : TState) (s : State) :
    (seekEntered x0 s).mec = s.mec ∧ (seekEntered x0 s).srv = s.srv ∧ (seekEntered x0 s).tpe = s.tpe ∧
    (seekEntered x0 s).tun = s.tun ∧ (seekEntered x0 s).tar = s.tar ∧ (seekEntered x0 s).dld = s.dld ∧
    (seekEntered x0 s).clk = s.clk ∧ (seekEntered x0 s).tsc = s.tsc ∧ (seekEntered x0 s).pwr = s.pwr ∧
    (seekEntered x0 s).lnk = s.lnk ∧ (seekEntered x0 s).pins = s.pins ∧ (seekEntered x0 s).reports = s.reports ∧
    (seekEntered x0 s).fresh = s.fresh ∧ (seekEntered x0 s).pending = s.pending := by
  unfold seekEntered; dsimp only; (repeat' split) <;> simp

/-! ### Position -/

@[simp] theorem mapReel_frame (x0 : Reel) (x1 : ReelRec → ReelRec) (s : State) :
    (mapReel x0 x1 s).mec = s.mec ∧ (mapReel x0 x1 s).srv = s.srv ∧ (mapReel x0 x1 s).ctu = s.ctu ∧
    (mapReel x0 x1 s).tun = s.tun ∧ (mapReel x0 x1 s).tar = s.tar ∧ (mapReel x0 x1 s).dld = s.dld ∧
    (mapReel x0 x1 s).clk = s.clk ∧ (mapReel x0 x1 s).tsc = s.tsc ∧ (mapReel x0 x1 s).pwr = s.pwr ∧
    (mapReel x0 x1 s).lnk = s.lnk ∧ (mapReel x0 x1 s).pins = s.pins ∧ (mapReel x0 x1 s).reports = s.reports ∧
    (mapReel x0 x1 s).fresh = s.fresh ∧ (mapReel x0 x1 s).pending = s.pending := by
  unfold mapReel; split <;> simp

@[simp] theorem mapReels_frame (x0 : ReelRec → ReelRec) (s : State) :
    (mapReels x0 s).mec = s.mec ∧ (mapReels x0 s).srv = s.srv ∧ (mapReels x0 s).ctu = s.ctu ∧
    (mapReels x0 s).tun = s.tun ∧ (mapReels x0 s).tar = s.tar ∧ (mapReels x0 s).dld = s.dld ∧
    (mapReels x0 s).clk = s.clk ∧ (mapReels x0 s).tsc = s.tsc ∧ (mapReels x0 s).pwr = s.pwr ∧
    (mapReels x0 s).lnk = s.lnk ∧ (mapReels x0 s).pins = s.pins ∧ (mapReels x0 s).reports = s.reports ∧
    (mapReels x0 s).fresh = s.fresh ∧ (mapReels x0 s).pending = s.pending := by
  simp [mapReels]

@[simp] theorem tpeSuspend_frame (s : State) :
    (tpeSuspend s).mec = s.mec ∧ (tpeSuspend s).srv = s.srv ∧ (tpeSuspend s).ctu = s.ctu ∧
    (tpeSuspend s).tun = s.tun ∧ (tpeSuspend s).tar = s.tar ∧ (tpeSuspend s).dld = s.dld ∧
    (tpeSuspend s).clk = s.clk ∧ (tpeSuspend s).tsc = s.tsc ∧ (tpeSuspend s).pwr = s.pwr ∧
    (tpeSuspend s).lnk = s.lnk ∧ (tpeSuspend s).pins = s.pins ∧ (tpeSuspend s).reports = s.reports ∧
    (tpeSuspend s).fresh = s.fresh ∧ (tpeSuspend s).pending = s.pending := by
  simp [tpeSuspend]

@[simp] theorem tpeEnterWind_frame (s : State) :
    (tpeEnterWind s).mec = s.mec ∧ (tpeEnterWind s).srv = s.srv ∧ (tpeEnterWind s).ctu = s.ctu ∧
    (tpeEnterWind s).tun = s.tun ∧ (tpeEnterWind s).tar = s.tar ∧ (tpeEnterWind s).dld = s.dld ∧
    (tpeEnterWind s).clk = s.clk ∧ (tpeEnterWind s).tsc = s.tsc ∧ (tpeEnterWind s).pwr = s.pwr ∧
    (tpeEnterWind s).lnk = s.lnk ∧ (tpeEnterWind s).pins = s.pins ∧ (tpeEnterWind s).reports = s.reports ∧
    (tpeEnterWind s).fresh = s.fresh ∧ (tpeEnterWind s).pending = s.pending := by
  unfold tpeEnterWind; dsimp only; split <;> simp

@[simp] theorem tpeLeaveWind_frame (s : State) :
    (tpeLeaveWind s).mec = s.mec ∧ (tpeLeaveWind s).srv = s.srv ∧ (tpeLeaveWind s).ctu = s.ctu ∧
    (tpeLeaveWind s).tun = s.tun ∧ (tpeLeaveWind s).tar = s.tar ∧ (tpeLeaveWind s).dld = s.dld ∧
    (tpeLeaveWind s).clk = s.clk ∧ (tpeLeaveWind s).tsc = s.tsc ∧ (tpeLeaveWind s).pwr = s.pwr ∧
    (tpeLeaveWind s).lnk = s.lnk ∧ (tpeLeaveWind s).pins = s.pins ∧ (tpeLeaveWind s).reports = s.reports ∧
    (tpeLeaveWind s).fresh = s.fresh ∧ (tpeLeaveWind s).pending = s.pending := by
  simp [tpeLeaveWind]

@[simp] theorem tpeCassetteReset_frame (s : State) :
    (tpeCassetteReset s).mec = s.mec ∧ (tpeCassetteReset s).srv = s.srv ∧ (tpeCassetteReset s).ctu = s.ctu ∧
    (tpeCassetteReset s).tun = s.tun ∧ (tpeCassetteReset s).tar = s.tar ∧ (tpeCassetteReset s).dld = s.dld ∧
    (tpeCassetteReset s).clk = s.clk ∧ (tpeCassetteReset s).tsc = s.tsc ∧ (tpeCassetteReset s).pwr = s.pwr ∧
    (tpeCassetteReset s).pins = s.pins ∧ (tpeCassetteReset s).fresh = s.fresh ∧
    (tpeCassetteReset s).pending = s.pending := by
  simp [tpeCassetteReset]

@[simp] theorem tpeRestart_frame (s : State) :
    (tpeRestart s).mec = s.mec ∧ (tpeRestart s).srv = s.srv ∧ (tpeRestart s).ctu = s.ctu ∧
    (tpeRestart s).tun = s.tun ∧ (tpeRestart s).tar = s.tar ∧ (tpeRestart s).dld = s.dld ∧
    (tpeRestart s).clk = s.clk ∧ (tpeRestart s).tsc = s.tsc ∧ (tpeRestart s).pwr = s.pwr ∧
    (tpeRestart s).lnk = s.lnk ∧ (tpeRestart s).pins = s.pins ∧ (tpeRestart s).reports = s.reports ∧
    (tpeRestart s).fresh = s.fresh ∧ (tpeRestart s).pending = s.pending := by
  simp [tpeRestart]

@[simp] theorem tpeBackup_frame (x0 : Bool) (s : State) :
    (tpeBackup x0 s).mec = s.mec ∧ (tpeBackup x0 s).srv = s.srv ∧ (tpeBackup x0 s).ctu = s.ctu ∧
    (tpeBackup x0 s).tun = s.tun ∧ (tpeBackup x0 s).tar = s.tar ∧ (tpeBackup x0 s).dld = s.dld ∧
    (tpeBackup x0 s).clk = s.clk ∧ (tpeBackup x0 s).tsc = s.tsc ∧ (tpeBackup x0 s).pwr = s.pwr ∧
    (tpeBackup x0 s).lnk = s.lnk ∧ (tpeBackup x0 s).pins = s.pins ∧ (tpeBackup x0 s).reports = s.reports ∧
    (tpeBackup x0 s).fresh = s.fresh ∧ (tpeBackup x0 s).pending = s.pending := by
  unfold tpeBackup; split <;> simp

/-! ### Transport -/

@[simp] theorem idleFollow_frame (s : State) :
    (idleFollow s).srv = s.srv ∧ (idleFollow s).ctu = s.ctu ∧ (idleFollow s).tpe = s.tpe ∧
    (idleFollow s).tun = s.tun ∧ (idleFollow s).tar = s.tar ∧ (idleFollow s).dld = s.dld ∧
    (idleFollow s).clk = s.clk ∧ (idleFollow s).tsc = s.tsc ∧ (idleFollow s).pwr = s.pwr ∧
    (idleFollow s).lnk = s.lnk ∧ (idleFollow s).pins = s.pins ∧ (idleFollow s).reports = s.reports ∧
    (idleFollow s).fresh = s.fresh ∧ (idleFollow s).pending = s.pending := by
  simp [idleFollow]

@[simp] theorem stallFollow_frame (s : State) :
    (stallFollow s).srv = s.srv ∧ (stallFollow s).ctu = s.ctu ∧ (stallFollow s).tpe = s.tpe ∧
    (stallFollow s).tun = s.tun ∧ (stallFollow s).tar = s.tar ∧ (stallFollow s).dld = s.dld ∧
    (stallFollow s).clk = s.clk ∧ (stallFollow s).tsc = s.tsc ∧ (stallFollow s).pwr = s.pwr ∧
    (stallFollow s).lnk = s.lnk ∧ (stallFollow s).pins = s.pins ∧ (stallFollow s).reports = s.reports ∧
    (stallFollow s).fresh = s.fresh ∧ (stallFollow s).pending = s.pending := by
  simp [stallFollow]

@[simp] theorem ctuLeaveReading_frame (x0 : TState) (s : State) :
    (ctuLeaveReading x0 s).mec = s.mec ∧ (ctuLeaveReading x0 s).srv = s.srv ∧ (ctuLeaveReading x0 s).tpe = s.tpe ∧
    (ctuLeaveReading x0 s).tun = s.tun ∧ (ctuLeaveReading x0 s).tar = s.tar ∧ (ctuLeaveReading x0 s).dld = s.dld ∧
    (ctuLeaveReading x0 s).clk = s.clk ∧ (ctuLeaveReading x0 s).tsc = s.tsc ∧ (ctuLeaveReading x0 s).pwr = s.pwr ∧
    (ctuLeaveReading x0 s).lnk = s.lnk ∧ (ctuLeaveReading x0 s).pins = s.pins ∧
    (ctuLeaveReading x0 s).reports = s.reports ∧ (ctuLeaveReading x0 s).fresh = s.fresh ∧
    (ctuLeaveReading x0 s).pending = s.pending := by
  simp [ctuLeaveReading]

@[simp] theorem leaveState_frame (x0 : TState) (x1 : TState) (s : State) :
    (leaveState x0 x1 s).mec = s.mec ∧ (leaveState x0 x1 s).srv = s.srv ∧ (leaveState x0 x1 s).tun = s.tun ∧
    (leaveState x0 x1 s).tar = s.tar ∧ (leaveState x0 x1 s).dld = s.dld ∧ (leaveState x0 x1 s).clk = s.clk ∧
    (leaveState x0 x1 s).tsc = s.tsc ∧ (leaveState x0 x1 s).pwr = s.pwr ∧ (leaveState x0 x1 s).pins = s.pins ∧
    (leaveState x0 x1 s).fresh = s.fresh ∧ (leaveState x0 x1 s).pending = s.pending := by
  unfold leaveState; (repeat' split) <;> simp

@[simp] theorem arriveState_frame (x0 : TState) (x1 : TState) (s : State) :
    (arriveState x0 x1 s).mec = s.mec ∧ (arriveState x0 x1 s).tun = s.tun ∧ (arriveState x0 x1 s).tar = s.tar ∧
    (arriveState x0 x1 s).dld = s.dld ∧ (arriveState x0 x1 s).clk = s.clk ∧ (arriveState x0 x1 s).tsc = s.tsc ∧
    (arriveState x0 x1 s).pwr = s.pwr ∧ (arriveState x0 x1 s).pins = s.pins ∧
    (arriveState x0 x1 s).fresh = s.fresh ∧ (arriveState x0 x1 s).pending = s.pending := by
  unfold arriveState; (repeat' split) <;> simp

@[simp] theorem enter_frame (x0 : TState) (x1 : Bool) (s : State) :
    (enter x0 x1 s).tun = s.tun ∧ (enter x0 x1 s).tar = s.tar ∧ (enter x0 x1 s).dld = s.dld ∧
    (enter x0 x1 s).clk = s.clk ∧ (enter x0 x1 s).tsc = s.tsc ∧ (enter x0 x1 s).pwr = s.pwr ∧
    (enter x0 x1 s).pins = s.pins ∧ (enter x0 x1 s).fresh = s.fresh ∧ (enter x0 x1 s).pending = s.pending := by
  unfold enter; dsimp only; (repeat' split) <;> simp

@[simp] theorem enterState_frame (x0 : TState) (s : State) :
    (enterState x0 s).tun = s.tun ∧ (enterState x0 s).tar = s.tar ∧ (enterState x0 s).dld = s.dld ∧
    (enterState x0 s).clk = s.clk ∧ (enterState x0 s).tsc = s.tsc ∧ (enterState x0 s).pwr = s.pwr ∧
    (enterState x0 s).pins = s.pins ∧ (enterState x0 s).fresh = s.fresh ∧ (enterState x0 s).pending = s.pending := by
  simp [enterState]

@[simp] theorem passThreaded_frame (s : State) :
    (passThreaded s).tun = s.tun ∧ (passThreaded s).tar = s.tar ∧ (passThreaded s).dld = s.dld ∧
    (passThreaded s).clk = s.clk ∧ (passThreaded s).tsc = s.tsc ∧ (passThreaded s).pwr = s.pwr ∧
    (passThreaded s).pins = s.pins ∧ (passThreaded s).fresh = s.fresh ∧ (passThreaded s).pending = s.pending := by
  simp [passThreaded]

@[simp] theorem startMotion_frame (x0 : TState) (s : State) :
    (startMotion x0 s).tun = s.tun ∧ (startMotion x0 s).tar = s.tar ∧ (startMotion x0 s).dld = s.dld ∧
    (startMotion x0 s).clk = s.clk ∧ (startMotion x0 s).tsc = s.tsc ∧ (startMotion x0 s).pwr = s.pwr ∧
    (startMotion x0 s).fresh = s.fresh ∧ (startMotion x0 s).pending = s.pending := by
  simp [startMotion]

@[simp] theorem startLoading_frame (s : State) :
    (startLoading s).tun = s.tun ∧ (startLoading s).tar = s.tar ∧ (startLoading s).dld = s.dld ∧
    (startLoading s).clk = s.clk ∧ (startLoading s).tsc = s.tsc ∧ (startLoading s).pwr = s.pwr ∧
    (startLoading s).fresh = s.fresh ∧ (startLoading s).pending = s.pending := by
  simp [startLoading]

@[simp] theorem loseTarget_frame (s : State) :
    (loseTarget s).srv = s.srv ∧ (loseTarget s).tpe = s.tpe ∧ (loseTarget s).tun = s.tun ∧
    (loseTarget s).tar = s.tar ∧ (loseTarget s).dld = s.dld ∧ (loseTarget s).clk = s.clk ∧
    (loseTarget s).tsc = s.tsc ∧ (loseTarget s).pwr = s.pwr ∧ (loseTarget s).pins = s.pins ∧
    (loseTarget s).reports = s.reports ∧ (loseTarget s).fresh = s.fresh ∧ (loseTarget s).pending = s.pending := by
  unfold loseTarget; split <;> simp

@[simp] theorem dropTarget_frame (x0 : PendingTarget) (x1 : Reason) (s : State) :
    (dropTarget x0 x1 s).srv = s.srv ∧ (dropTarget x0 x1 s).tpe = s.tpe ∧ (dropTarget x0 x1 s).tun = s.tun ∧
    (dropTarget x0 x1 s).tar = s.tar ∧ (dropTarget x0 x1 s).dld = s.dld ∧ (dropTarget x0 x1 s).clk = s.clk ∧
    (dropTarget x0 x1 s).tsc = s.tsc ∧ (dropTarget x0 x1 s).pwr = s.pwr ∧ (dropTarget x0 x1 s).pins = s.pins ∧
    (dropTarget x0 x1 s).fresh = s.fresh ∧ (dropTarget x0 x1 s).pending = s.pending := by
  simp [dropTarget]

@[simp] theorem enterTarget_frame (x0 : PendingTarget) (s : State) :
    (enterTarget x0 s).tun = s.tun ∧ (enterTarget x0 s).tar = s.tar ∧ (enterTarget x0 s).dld = s.dld ∧
    (enterTarget x0 s).clk = s.clk ∧ (enterTarget x0 s).tsc = s.tsc ∧ (enterTarget x0 s).pwr = s.pwr ∧
    (enterTarget x0 s).pins = s.pins ∧ (enterTarget x0 s).fresh = s.fresh ∧ (enterTarget x0 s).pending = s.pending := by
  unfold enterTarget; dsimp only; (repeat' split) <;> simp

@[simp] theorem routeMotion_frame (x0 : TState) (x1 : PendingTarget) (s : State) :
    (routeMotion x0 x1 s).tun = s.tun ∧ (routeMotion x0 x1 s).tar = s.tar ∧ (routeMotion x0 x1 s).dld = s.dld ∧
    (routeMotion x0 x1 s).clk = s.clk ∧ (routeMotion x0 x1 s).tsc = s.tsc ∧ (routeMotion x0 x1 s).pwr = s.pwr ∧
    (routeMotion x0 x1 s).fresh = s.fresh ∧ (routeMotion x0 x1 s).pending = s.pending := by
  simp [routeMotion]

@[simp] theorem beginSpinUp_frame (x0 : PendingTarget) (s : State) :
    (beginSpinUp x0 s).tun = s.tun ∧ (beginSpinUp x0 s).tar = s.tar ∧ (beginSpinUp x0 s).dld = s.dld ∧
    (beginSpinUp x0 s).clk = s.clk ∧ (beginSpinUp x0 s).tsc = s.tsc ∧ (beginSpinUp x0 s).pwr = s.pwr ∧
    (beginSpinUp x0 s).pins = s.pins ∧ (beginSpinUp x0 s).fresh = s.fresh ∧ (beginSpinUp x0 s).pending = s.pending := by
  unfold beginSpinUp; split <;> simp

@[simp] theorem targetReached_frame (s : State) :
    (targetReached s).srv = s.srv ∧ (targetReached s).ctu = s.ctu ∧ (targetReached s).tpe = s.tpe ∧
    (targetReached s).tun = s.tun ∧ (targetReached s).tar = s.tar ∧ (targetReached s).dld = s.dld ∧
    (targetReached s).clk = s.clk ∧ (targetReached s).tsc = s.tsc ∧ (targetReached s).pwr = s.pwr ∧
    (targetReached s).lnk = s.lnk ∧ (targetReached s).pins = s.pins ∧ (targetReached s).reports = s.reports ∧
    (targetReached s).fresh = s.fresh ∧ (targetReached s).pending = s.pending := by
  simp [targetReached]

@[simp] theorem routeUnthreaded_frame (x0 : PendingTarget) (s : State) :
    (routeUnthreaded x0 s).tun = s.tun ∧ (routeUnthreaded x0 s).tar = s.tar ∧ (routeUnthreaded x0 s).dld = s.dld ∧
    (routeUnthreaded x0 s).clk = s.clk ∧ (routeUnthreaded x0 s).tsc = s.tsc ∧ (routeUnthreaded x0 s).pwr = s.pwr ∧
    (routeUnthreaded x0 s).fresh = s.fresh ∧ (routeUnthreaded x0 s).pending = s.pending := by
  unfold routeUnthreaded; (repeat' split) <;> simp

@[simp] theorem routeThreaded_frame (x0 : PendingTarget) (s : State) :
    (routeThreaded x0 s).tun = s.tun ∧ (routeThreaded x0 s).tar = s.tar ∧ (routeThreaded x0 s).dld = s.dld ∧
    (routeThreaded x0 s).clk = s.clk ∧ (routeThreaded x0 s).tsc = s.tsc ∧ (routeThreaded x0 s).pwr = s.pwr ∧
    (routeThreaded x0 s).fresh = s.fresh ∧ (routeThreaded x0 s).pending = s.pending := by
  unfold routeThreaded; split <;> simp

@[simp] theorem routePlaying_frame (x0 : PendingTarget) (s : State) :
    (routePlaying x0 s).tun = s.tun ∧ (routePlaying x0 s).tar = s.tar ∧ (routePlaying x0 s).dld = s.dld ∧
    (routePlaying x0 s).clk = s.clk ∧ (routePlaying x0 s).tsc = s.tsc ∧ (routePlaying x0 s).pwr = s.pwr ∧
    (routePlaying x0 s).fresh = s.fresh ∧ (routePlaying x0 s).pending = s.pending := by
  unfold routePlaying; split <;> simp

@[simp] theorem routeRecording_frame (x0 : PendingTarget) (s : State) :
    (routeRecording x0 s).tun = s.tun ∧ (routeRecording x0 s).tar = s.tar ∧ (routeRecording x0 s).dld = s.dld ∧
    (routeRecording x0 s).clk = s.clk ∧ (routeRecording x0 s).tsc = s.tsc ∧ (routeRecording x0 s).pwr = s.pwr ∧
    (routeRecording x0 s).fresh = s.fresh ∧ (routeRecording x0 s).pending = s.pending := by
  unfold routeRecording; (repeat' split) <;> simp

@[simp] theorem routeWinding_frame (x0 : PendingTarget) (s : State) :
    (routeWinding x0 s).tun = s.tun ∧ (routeWinding x0 s).tar = s.tar ∧ (routeWinding x0 s).dld = s.dld ∧
    (routeWinding x0 s).clk = s.clk ∧ (routeWinding x0 s).tsc = s.tsc ∧ (routeWinding x0 s).pwr = s.pwr ∧
    (routeWinding x0 s).fresh = s.fresh ∧ (routeWinding x0 s).pending = s.pending := by
  unfold routeWinding; split <;> simp

@[simp] theorem route_frame (x0 : PendingTarget) (s : State) :
    (route x0 s).tun = s.tun ∧ (route x0 s).tar = s.tar ∧ (route x0 s).dld = s.dld ∧ (route x0 s).clk = s.clk ∧
    (route x0 s).tsc = s.tsc ∧ (route x0 s).pwr = s.pwr ∧ (route x0 s).fresh = s.fresh ∧
    (route x0 s).pending = s.pending := by
  unfold route; (repeat' split) <;> simp

@[simp] theorem makePending_frame (x0 : PendingTarget) (s : State) :
    (makePending x0 s).srv = s.srv ∧ (makePending x0 s).ctu = s.ctu ∧ (makePending x0 s).tpe = s.tpe ∧
    (makePending x0 s).tun = s.tun ∧ (makePending x0 s).tar = s.tar ∧ (makePending x0 s).dld = s.dld ∧
    (makePending x0 s).clk = s.clk ∧ (makePending x0 s).tsc = s.tsc ∧ (makePending x0 s).pwr = s.pwr ∧
    (makePending x0 s).lnk = s.lnk ∧ (makePending x0 s).pins = s.pins ∧ (makePending x0 s).reports = s.reports ∧
    (makePending x0 s).fresh = s.fresh ∧ (makePending x0 s).pending = s.pending := by
  simp [makePending]

@[simp] theorem duringSpinUp_frame (x0 : PendingTarget) (x1 : PendingTarget) (s : State) :
    (duringSpinUp x0 x1 s).tun = s.tun ∧ (duringSpinUp x0 x1 s).tar = s.tar ∧ (duringSpinUp x0 x1 s).dld = s.dld ∧
    (duringSpinUp x0 x1 s).clk = s.clk ∧ (duringSpinUp x0 x1 s).tsc = s.tsc ∧ (duringSpinUp x0 x1 s).pwr = s.pwr ∧
    (duringSpinUp x0 x1 s).fresh = s.fresh ∧ (duringSpinUp x0 x1 s).pending = s.pending := by
  unfold duringSpinUp; (repeat' split) <;> simp

@[simp] theorem execTarget_frame (x0 : PendingTarget) (s : State) :
    (execTarget x0 s).tun = s.tun ∧ (execTarget x0 s).tar = s.tar ∧ (execTarget x0 s).dld = s.dld ∧
    (execTarget x0 s).clk = s.clk ∧ (execTarget x0 s).tsc = s.tsc ∧ (execTarget x0 s).pwr = s.pwr ∧
    (execTarget x0 s).fresh = s.fresh ∧ (execTarget x0 s).pending = s.pending := by
  unfold execTarget; (repeat' split) <;> simp

@[simp] theorem stopTransport_frame (s : State) :
    (stopTransport s).tun = s.tun ∧ (stopTransport s).tar = s.tar ∧ (stopTransport s).dld = s.dld ∧
    (stopTransport s).clk = s.clk ∧ (stopTransport s).tsc = s.tsc ∧ (stopTransport s).pwr = s.pwr ∧
    (stopTransport s).pins = s.pins ∧ (stopTransport s).fresh = s.fresh ∧ (stopTransport s).pending = s.pending := by
  unfold stopTransport; (repeat' split) <;> simp

@[simp] theorem hostTarget_frame (x0 : Target) (x1 : Speed) (x2 : Grade) (s : State) :
    (hostTarget x0 x1 x2 s).tun = s.tun ∧ (hostTarget x0 x1 x2 s).tar = s.tar ∧
    (hostTarget x0 x1 x2 s).dld = s.dld ∧ (hostTarget x0 x1 x2 s).clk = s.clk ∧
    (hostTarget x0 x1 x2 s).tsc = s.tsc ∧ (hostTarget x0 x1 x2 s).pwr = s.pwr ∧
    (hostTarget x0 x1 x2 s).fresh = s.fresh ∧ (hostTarget x0 x1 x2 s).pending = s.pending := by
  unfold hostTarget; split <;> simp

@[simp] theorem ctuTarget_frame (x0 : Target) (s : State) :
    (ctuTarget x0 s).tun = s.tun ∧ (ctuTarget x0 s).tar = s.tar ∧ (ctuTarget x0 s).dld = s.dld ∧
    (ctuTarget x0 s).clk = s.clk ∧ (ctuTarget x0 s).tsc = s.tsc ∧ (ctuTarget x0 s).pwr = s.pwr ∧
    (ctuTarget x0 s).fresh = s.fresh ∧ (ctuTarget x0 s).pending = s.pending := by
  simp [ctuTarget]

@[simp] theorem timerTarget_frame (x0 : Target) (x1 : Grade) (s : State) :
    (timerTarget x0 x1 s).tun = s.tun ∧ (timerTarget x0 x1 s).tar = s.tar ∧ (timerTarget x0 x1 s).dld = s.dld ∧
    (timerTarget x0 x1 s).clk = s.clk ∧ (timerTarget x0 x1 s).tsc = s.tsc ∧ (timerTarget x0 x1 s).pwr = s.pwr ∧
    (timerTarget x0 x1 s).fresh = s.fresh ∧ (timerTarget x0 x1 s).pending = s.pending := by
  unfold timerTarget; (repeat' split) <;> simp

@[simp] theorem senseTab_frame (s : State) :
    (senseTab s).srv = s.srv ∧ (senseTab s).ctu = s.ctu ∧ (senseTab s).tpe = s.tpe ∧ (senseTab s).tun = s.tun ∧
    (senseTab s).tar = s.tar ∧ (senseTab s).dld = s.dld ∧ (senseTab s).clk = s.clk ∧ (senseTab s).tsc = s.tsc ∧
    (senseTab s).pwr = s.pwr ∧ (senseTab s).lnk = s.lnk ∧ (senseTab s).pins = s.pins ∧
    (senseTab s).reports = s.reports ∧ (senseTab s).fresh = s.fresh ∧ (senseTab s).pending = s.pending := by
  unfold senseTab; split <;> simp

@[simp] theorem proceed_frame (s : State) :
    (proceed s).tun = s.tun ∧ (proceed s).tar = s.tar ∧ (proceed s).dld = s.dld ∧ (proceed s).clk = s.clk ∧
    (proceed s).tsc = s.tsc ∧ (proceed s).pwr = s.pwr ∧ (proceed s).fresh = s.fresh ∧
    (proceed s).pending = s.pending := by
  unfold proceed; (repeat' split) <;> simp

@[simp] theorem motionEnds_frame (x0 : TState) (s : State) :
    (motionEnds x0 s).tun = s.tun ∧ (motionEnds x0 s).tar = s.tar ∧ (motionEnds x0 s).dld = s.dld ∧
    (motionEnds x0 s).clk = s.clk ∧ (motionEnds x0 s).tsc = s.tsc ∧ (motionEnds x0 s).pwr = s.pwr ∧
    (motionEnds x0 s).pins = s.pins ∧ (motionEnds x0 s).fresh = s.fresh ∧ (motionEnds x0 s).pending = s.pending := by
  simp [motionEnds]

@[simp] theorem settleEmpty_frame (s : State) :
    (settleEmpty s).tun = s.tun ∧ (settleEmpty s).tar = s.tar ∧ (settleEmpty s).dld = s.dld ∧
    (settleEmpty s).clk = s.clk ∧ (settleEmpty s).tsc = s.tsc ∧ (settleEmpty s).pwr = s.pwr ∧
    (settleEmpty s).fresh = s.fresh ∧ (settleEmpty s).pending = s.pending := by
  simp [settleEmpty]

@[simp] theorem loadingDone_frame (s : State) :
    (loadingDone s).tun = s.tun ∧ (loadingDone s).tar = s.tar ∧ (loadingDone s).dld = s.dld ∧
    (loadingDone s).clk = s.clk ∧ (loadingDone s).tsc = s.tsc ∧ (loadingDone s).pwr = s.pwr ∧
    (loadingDone s).fresh = s.fresh ∧ (loadingDone s).pending = s.pending := by
  simp [loadingDone]

@[simp] theorem settleUnthreaded_frame (s : State) :
    (settleUnthreaded s).tun = s.tun ∧ (settleUnthreaded s).tar = s.tar ∧ (settleUnthreaded s).dld = s.dld ∧
    (settleUnthreaded s).clk = s.clk ∧ (settleUnthreaded s).tsc = s.tsc ∧ (settleUnthreaded s).pwr = s.pwr ∧
    (settleUnthreaded s).fresh = s.fresh ∧ (settleUnthreaded s).pending = s.pending := by
  simp [settleUnthreaded]

@[simp] theorem enterFault_frame (x0 : FaultCause) (s : State) :
    (enterFault x0 s).tun = s.tun ∧ (enterFault x0 s).tar = s.tar ∧ (enterFault x0 s).dld = s.dld ∧
    (enterFault x0 s).clk = s.clk ∧ (enterFault x0 s).tsc = s.tsc ∧ (enterFault x0 s).pwr = s.pwr ∧
    (enterFault x0 s).pins = s.pins ∧ (enterFault x0 s).fresh = s.fresh ∧ (enterFault x0 s).pending = s.pending := by
  simp [enterFault]

@[simp] theorem recoveryMove_frame (x0 : RecoveryMove) (x1 : Nat) (s : State) :
    (recoveryMove x0 x1 s).srv = s.srv ∧ (recoveryMove x0 x1 s).ctu = s.ctu ∧ (recoveryMove x0 x1 s).tpe = s.tpe ∧
    (recoveryMove x0 x1 s).tun = s.tun ∧ (recoveryMove x0 x1 s).tar = s.tar ∧ (recoveryMove x0 x1 s).dld = s.dld ∧
    (recoveryMove x0 x1 s).clk = s.clk ∧ (recoveryMove x0 x1 s).tsc = s.tsc ∧ (recoveryMove x0 x1 s).pwr = s.pwr ∧
    (recoveryMove x0 x1 s).lnk = s.lnk ∧ (recoveryMove x0 x1 s).reports = s.reports ∧
    (recoveryMove x0 x1 s).fresh = s.fresh ∧ (recoveryMove x0 x1 s).pending = s.pending := by
  simp [recoveryMove]

@[simp] theorem recoveryRun_frame (s : State) :
    (recoveryRun s).tun = s.tun ∧ (recoveryRun s).tar = s.tar ∧ (recoveryRun s).dld = s.dld ∧
    (recoveryRun s).clk = s.clk ∧ (recoveryRun s).tsc = s.tsc ∧ (recoveryRun s).pwr = s.pwr ∧
    (recoveryRun s).fresh = s.fresh ∧ (recoveryRun s).pending = s.pending := by
  unfold recoveryRun; split <;> simp

@[simp] theorem recoveryClear_frame (x0 : Bool) (s : State) :
    (recoveryClear x0 s).tun = s.tun ∧ (recoveryClear x0 s).tar = s.tar ∧ (recoveryClear x0 s).dld = s.dld ∧
    (recoveryClear x0 s).clk = s.clk ∧ (recoveryClear x0 s).tsc = s.tsc ∧ (recoveryClear x0 s).pwr = s.pwr ∧
    (recoveryClear x0 s).pins = s.pins ∧ (recoveryClear x0 s).fresh = s.fresh ∧
    (recoveryClear x0 s).pending = s.pending := by
  simp [recoveryClear]

@[simp] theorem recoverTaken_frame (s : State) :
    (recoverTaken s).tun = s.tun ∧ (recoverTaken s).tar = s.tar ∧ (recoverTaken s).dld = s.dld ∧
    (recoverTaken s).clk = s.clk ∧ (recoverTaken s).tsc = s.tsc ∧ (recoverTaken s).pwr = s.pwr ∧
    (recoverTaken s).fresh = s.fresh ∧ (recoverTaken s).pending = s.pending := by
  unfold recoverTaken; split <;> simp

@[simp] theorem enterRecovery_frame (x0 : Bool) (x1 : Bool) (s : State) :
    (enterRecovery x0 x1 s).tun = s.tun ∧ (enterRecovery x0 x1 s).tar = s.tar ∧
    (enterRecovery x0 x1 s).dld = s.dld ∧ (enterRecovery x0 x1 s).clk = s.clk ∧
    (enterRecovery x0 x1 s).tsc = s.tsc ∧ (enterRecovery x0 x1 s).pwr = s.pwr ∧
    (enterRecovery x0 x1 s).fresh = s.fresh ∧ (enterRecovery x0 x1 s).pending = s.pending := by
  unfold enterRecovery; dsimp only; split <;> simp

@[simp] theorem mecPowerUp_frame (s : State) :
    (mecPowerUp s).tun = s.tun ∧ (mecPowerUp s).tar = s.tar ∧ (mecPowerUp s).dld = s.dld ∧
    (mecPowerUp s).clk = s.clk ∧ (mecPowerUp s).tsc = s.tsc ∧ (mecPowerUp s).pwr = s.pwr ∧
    (mecPowerUp s).fresh = s.fresh ∧ (mecPowerUp s).pending = s.pending := by
  unfold mecPowerUp; dsimp only; (repeat' split) <;> simp

@[simp] theorem modeSwitch_frame (x0 : ModePos) (s : State) :
    (modeSwitch x0 s).tun = s.tun ∧ (modeSwitch x0 s).tar = s.tar ∧ (modeSwitch x0 s).dld = s.dld ∧
    (modeSwitch x0 s).clk = s.clk ∧ (modeSwitch x0 s).tsc = s.tsc ∧ (modeSwitch x0 s).pwr = s.pwr ∧
    (modeSwitch x0 s).fresh = s.fresh ∧ (modeSwitch x0 s).pending = s.pending := by
  unfold modeSwitch; (repeat' split) <;> simp

@[simp] theorem motionTimeout_frame (s : State) :
    (motionTimeout s).tun = s.tun ∧ (motionTimeout s).tar = s.tar ∧ (motionTimeout s).dld = s.dld ∧
    (motionTimeout s).clk = s.clk ∧ (motionTimeout s).tsc = s.tsc ∧ (motionTimeout s).pwr = s.pwr ∧
    (motionTimeout s).pins = s.pins ∧ (motionTimeout s).fresh = s.fresh ∧ (motionTimeout s).pending = s.pending := by
  unfold motionTimeout when; (repeat' split) <;> simp

@[simp] theorem spinFails_frame (s : State) :
    (spinFails s).tun = s.tun ∧ (spinFails s).tar = s.tar ∧ (spinFails s).dld = s.dld ∧ (spinFails s).clk = s.clk ∧
    (spinFails s).tsc = s.tsc ∧ (spinFails s).pwr = s.pwr ∧ (spinFails s).pins = s.pins ∧
    (spinFails s).fresh = s.fresh ∧ (spinFails s).pending = s.pending := by
  unfold spinFails; dsimp only; (repeat' split) <;> simp

@[simp] theorem spinFrame_frame (x0 : Bool) (x1 : Bool) (s : State) :
    (spinFrame x0 x1 s).tun = s.tun ∧ (spinFrame x0 x1 s).tar = s.tar ∧ (spinFrame x0 x1 s).dld = s.dld ∧
    (spinFrame x0 x1 s).clk = s.clk ∧ (spinFrame x0 x1 s).tsc = s.tsc ∧ (spinFrame x0 x1 s).pwr = s.pwr ∧
    (spinFrame x0 x1 s).pins = s.pins ∧ (spinFrame x0 x1 s).fresh = s.fresh ∧
    (spinFrame x0 x1 s).pending = s.pending := by
  unfold spinFrame; (repeat' split) <;> simp

@[simp] theorem idleExpires_frame (s : State) :
    (idleExpires s).tun = s.tun ∧ (idleExpires s).tar = s.tar ∧ (idleExpires s).dld = s.dld ∧
    (idleExpires s).clk = s.clk ∧ (idleExpires s).tsc = s.tsc ∧ (idleExpires s).pwr = s.pwr ∧
    (idleExpires s).fresh = s.fresh ∧ (idleExpires s).pending = s.pending := by
  simp only [idleExpires, when, withActive]; (repeat' split) <;> simp

@[simp] theorem endStop_frame (s : State) :
    (endStop s).tun = s.tun ∧ (endStop s).tar = s.tar ∧ (endStop s).dld = s.dld ∧ (endStop s).clk = s.clk ∧
    (endStop s).tsc = s.tsc ∧ (endStop s).pwr = s.pwr ∧ (endStop s).pins = s.pins ∧ (endStop s).fresh = s.fresh ∧
    (endStop s).pending = s.pending := by
  unfold endStop when; dsimp only; (repeat' split) <;> simp

@[simp] theorem applyEndAction_frame (s : State) :
    (applyEndAction s).tun = s.tun ∧ (applyEndAction s).tar = s.tar ∧ (applyEndAction s).dld = s.dld ∧
    (applyEndAction s).clk = s.clk ∧ (applyEndAction s).tsc = s.tsc ∧ (applyEndAction s).pwr = s.pwr ∧
    (applyEndAction s).fresh = s.fresh ∧ (applyEndAction s).pending = s.pending := by
  simp only [applyEndAction, when, withActive]; (repeat' split) <;> simp

@[simp] theorem beginStop_frame (s : State) :
    (beginStop s).tun = s.tun ∧ (beginStop s).tar = s.tar ∧ (beginStop s).dld = s.dld ∧ (beginStop s).clk = s.clk ∧
    (beginStop s).tsc = s.tsc ∧ (beginStop s).pwr = s.pwr ∧ (beginStop s).pins = s.pins ∧
    (beginStop s).fresh = s.fresh ∧ (beginStop s).pending = s.pending := by
  unfold beginStop when; (repeat' split) <;> simp

@[simp] theorem reelStalls_frame (s : State) :
    (reelStalls s).tun = s.tun ∧ (reelStalls s).tar = s.tar ∧ (reelStalls s).dld = s.dld ∧
    (reelStalls s).clk = s.clk ∧ (reelStalls s).tsc = s.tsc ∧ (reelStalls s).pwr = s.pwr ∧
    (reelStalls s).fresh = s.fresh ∧ (reelStalls s).pending = s.pending := by
  unfold reelStalls; split <;> simp

@[simp] theorem servoLost_frame (s : State) :
    (servoLost s).tun = s.tun ∧ (servoLost s).tar = s.tar ∧ (servoLost s).dld = s.dld ∧ (servoLost s).clk = s.clk ∧
    (servoLost s).tsc = s.tsc ∧ (servoLost s).pwr = s.pwr ∧ (servoLost s).pins = s.pins ∧
    (servoLost s).fresh = s.fresh ∧ (servoLost s).pending = s.pending := by
  unfold servoLost when; (repeat' split) <;> simp

@[simp] theorem cassetteLeaves_frame (s : State) :
    (cassetteLeaves s).tun = s.tun ∧ (cassetteLeaves s).tar = s.tar ∧ (cassetteLeaves s).dld = s.dld ∧
    (cassetteLeaves s).clk = s.clk ∧ (cassetteLeaves s).tsc = s.tsc ∧ (cassetteLeaves s).pwr = s.pwr ∧
    (cassetteLeaves s).fresh = s.fresh ∧ (cassetteLeaves s).pending = s.pending := by
  simp only [cassetteLeaves, when, withActive]; (repeat' split) <;> simp

@[simp] theorem claimTransport_frame (s : State) :
    (claimTransport s).srv = s.srv ∧ (claimTransport s).tpe = s.tpe ∧ (claimTransport s).tun = s.tun ∧
    (claimTransport s).tar = s.tar ∧ (claimTransport s).dld = s.dld ∧ (claimTransport s).clk = s.clk ∧
    (claimTransport s).tsc = s.tsc ∧ (claimTransport s).pwr = s.pwr ∧ (claimTransport s).pins = s.pins ∧
    (claimTransport s).reports = s.reports ∧ (claimTransport s).fresh = s.fresh ∧
    (claimTransport s).pending = s.pending := by
  unfold claimTransport; dsimp only; (repeat' split) <;> simp

@[simp] theorem releaseTransport_frame (s : State) :
    (releaseTransport s).srv = s.srv ∧ (releaseTransport s).ctu = s.ctu ∧ (releaseTransport s).tpe = s.tpe ∧
    (releaseTransport s).tun = s.tun ∧ (releaseTransport s).tar = s.tar ∧ (releaseTransport s).dld = s.dld ∧
    (releaseTransport s).clk = s.clk ∧ (releaseTransport s).tsc = s.tsc ∧ (releaseTransport s).pwr = s.pwr ∧
    (releaseTransport s).lnk = s.lnk ∧ (releaseTransport s).pins = s.pins ∧
    (releaseTransport s).reports = s.reports ∧ (releaseTransport s).fresh = s.fresh ∧
    (releaseTransport s).pending = s.pending := by
  simp [releaseTransport]

@[simp] theorem restRequest_frame (s : State) :
    (restRequest s).tun = s.tun ∧ (restRequest s).tar = s.tar ∧ (restRequest s).dld = s.dld ∧
    (restRequest s).clk = s.clk ∧ (restRequest s).tsc = s.tsc ∧ (restRequest s).pwr = s.pwr ∧
    (restRequest s).fresh = s.fresh ∧ (restRequest s).pending = s.pending := by
  unfold restRequest; dsimp only; split <;> simp

/-! ### TapePath -/

@[simp] theorem moveValue_frame (x0 : Int) (s : State) :
    (moveValue x0 s).mec = s.mec ∧ (moveValue x0 s).srv = s.srv ∧ (moveValue x0 s).tpe = s.tpe ∧
    (moveValue x0 s).tun = s.tun ∧ (moveValue x0 s).tar = s.tar ∧ (moveValue x0 s).dld = s.dld ∧
    (moveValue x0 s).clk = s.clk ∧ (moveValue x0 s).tsc = s.tsc ∧ (moveValue x0 s).pwr = s.pwr ∧
    (moveValue x0 s).pins = s.pins ∧ (moveValue x0 s).reports = s.reports ∧ (moveValue x0 s).fresh = s.fresh ∧
    (moveValue x0 s).pending = s.pending := by
  simp [moveValue]

@[simp] theorem fireMatch_frame (s : State) :
    (fireMatch s).tun = s.tun ∧ (fireMatch s).tar = s.tar ∧ (fireMatch s).dld = s.dld ∧ (fireMatch s).clk = s.clk ∧
    (fireMatch s).tsc = s.tsc ∧ (fireMatch s).pwr = s.pwr ∧ (fireMatch s).fresh = s.fresh ∧
    (fireMatch s).pending = s.pending := by
  unfold fireMatch; dsimp only; (repeat' split) <;> simp

@[simp] theorem testMatch_frame (s : State) :
    (testMatch s).tun = s.tun ∧ (testMatch s).tar = s.tar ∧ (testMatch s).dld = s.dld ∧ (testMatch s).clk = s.clk ∧
    (testMatch s).tsc = s.tsc ∧ (testMatch s).pwr = s.pwr ∧ (testMatch s).fresh = s.fresh ∧
    (testMatch s).pending = s.pending := by
  unfold testMatch; dsimp only; split <;> simp

@[simp] theorem moveCounter_frame (x0 : Int) (s : State) :
    (moveCounter x0 s).tun = s.tun ∧ (moveCounter x0 s).tar = s.tar ∧ (moveCounter x0 s).dld = s.dld ∧
    (moveCounter x0 s).clk = s.clk ∧ (moveCounter x0 s).tsc = s.tsc ∧ (moveCounter x0 s).pwr = s.pwr ∧
    (moveCounter x0 s).fresh = s.fresh ∧ (moveCounter x0 s).pending = s.pending := by
  unfold moveCounter; split <;> simp

@[simp] theorem counterPulse_frame (s : State) :
    (counterPulse s).tun = s.tun ∧ (counterPulse s).tar = s.tar ∧ (counterPulse s).dld = s.dld ∧
    (counterPulse s).clk = s.clk ∧ (counterPulse s).tsc = s.tsc ∧ (counterPulse s).pwr = s.pwr ∧
    (counterPulse s).fresh = s.fresh ∧ (counterPulse s).pending = s.pending := by
  unfold counterPulse; dsimp only; split <;> simp

@[simp] theorem sourceToStep_frame (s : State) :
    (sourceToStep s).tun = s.tun ∧ (sourceToStep s).tar = s.tar ∧ (sourceToStep s).dld = s.dld ∧
    (sourceToStep s).clk = s.clk ∧ (sourceToStep s).tsc = s.tsc ∧ (sourceToStep s).pwr = s.pwr ∧
    (sourceToStep s).fresh = s.fresh ∧ (sourceToStep s).pending = s.pending := by
  unfold sourceToStep; dsimp only; (repeat' split) <;> simp

@[simp] theorem counterStep_frame (s : State) :
    (counterStep s).tun = s.tun ∧ (counterStep s).tar = s.tar ∧ (counterStep s).dld = s.dld ∧
    (counterStep s).clk = s.clk ∧ (counterStep s).tsc = s.tsc ∧ (counterStep s).pwr = s.pwr ∧
    (counterStep s).fresh = s.fresh ∧ (counterStep s).pending = s.pending := by
  unfold counterStep; dsimp only; (repeat' split) <;> simp

@[simp] theorem windMoved_frame (x0 : Nat) (s : State) :
    (windMoved x0 s).tun = s.tun ∧ (windMoved x0 s).tar = s.tar ∧ (windMoved x0 s).dld = s.dld ∧
    (windMoved x0 s).clk = s.clk ∧ (windMoved x0 s).tsc = s.tsc ∧ (windMoved x0 s).pwr = s.pwr ∧
    (windMoved x0 s).fresh = s.fresh ∧ (windMoved x0 s).pending = s.pending := by
  unfold windMoved; dsimp only; (repeat' split) <;> simp

@[simp] theorem thresholdTest_frame (s : State) :
    (thresholdTest s).mec = s.mec ∧ (thresholdTest s).srv = s.srv ∧ (thresholdTest s).ctu = s.ctu ∧
    (thresholdTest s).tun = s.tun ∧ (thresholdTest s).tar = s.tar ∧ (thresholdTest s).dld = s.dld ∧
    (thresholdTest s).clk = s.clk ∧ (thresholdTest s).tsc = s.tsc ∧ (thresholdTest s).pwr = s.pwr ∧
    (thresholdTest s).pins = s.pins ∧ (thresholdTest s).reports = s.reports ∧ (thresholdTest s).fresh = s.fresh ∧
    (thresholdTest s).pending = s.pending := by
  unfold thresholdTest; dsimp only; (repeat' split) <;> simp

@[simp] theorem setLs_frame (x0 : Option Nat) (x1 : Method) (s : State) :
    (setLs x0 x1 s).tun = s.tun ∧ (setLs x0 x1 s).tar = s.tar ∧ (setLs x0 x1 s).dld = s.dld ∧
    (setLs x0 x1 s).clk = s.clk ∧ (setLs x0 x1 s).tsc = s.tsc ∧ (setLs x0 x1 s).pwr = s.pwr ∧
    (setLs x0 x1 s).fresh = s.fresh ∧ (setLs x0 x1 s).pending = s.pending := by
  unfold setLs; dsimp only; (repeat' split) <;> simp

@[simp] theorem directCalc_frame (s : State) :
    (directCalc s).tun = s.tun ∧ (directCalc s).tar = s.tar ∧ (directCalc s).dld = s.dld ∧
    (directCalc s).clk = s.clk ∧ (directCalc s).tsc = s.tsc ∧ (directCalc s).pwr = s.pwr ∧
    (directCalc s).fresh = s.fresh ∧ (directCalc s).pending = s.pending := by
  unfold directCalc; split <;> simp

@[simp] theorem ratioCalc_frame (s : State) :
    (ratioCalc s).tun = s.tun ∧ (ratioCalc s).tar = s.tar ∧ (ratioCalc s).dld = s.dld ∧ (ratioCalc s).clk = s.clk ∧
    (ratioCalc s).tsc = s.tsc ∧ (ratioCalc s).pwr = s.pwr ∧ (ratioCalc s).fresh = s.fresh ∧
    (ratioCalc s).pending = s.pending := by
  unfold ratioCalc; split <;> simp

@[simp] theorem profileMoved_frame (x0 : Profile) (s : State) :
    (profileMoved x0 s).tun = s.tun ∧ (profileMoved x0 s).tar = s.tar ∧ (profileMoved x0 s).dld = s.dld ∧
    (profileMoved x0 s).clk = s.clk ∧ (profileMoved x0 s).tsc = s.tsc ∧ (profileMoved x0 s).pwr = s.pwr ∧
    (profileMoved x0 s).fresh = s.fresh ∧ (profileMoved x0 s).pending = s.pending := by
  unfold profileMoved; dsimp only; (repeat' split) <;> simp

@[simp] theorem takeSample_frame (s : State) :
    (takeSample s).tun = s.tun ∧ (takeSample s).tar = s.tar ∧ (takeSample s).dld = s.dld ∧
    (takeSample s).clk = s.clk ∧ (takeSample s).tsc = s.tsc ∧ (takeSample s).pwr = s.pwr ∧
    (takeSample s).fresh = s.fresh ∧ (takeSample s).pending = s.pending := by
  unfold takeSample; split <;> simp

@[simp] theorem closeRev_frame (x0 : Reel) (x1 : OpenRev) (s : State) :
    (closeRev x0 x1 s).tun = s.tun ∧ (closeRev x0 x1 s).tar = s.tar ∧ (closeRev x0 x1 s).dld = s.dld ∧
    (closeRev x0 x1 s).clk = s.clk ∧ (closeRev x0 x1 s).tsc = s.tsc ∧ (closeRev x0 x1 s).pwr = s.pwr ∧
    (closeRev x0 x1 s).fresh = s.fresh ∧ (closeRev x0 x1 s).pending = s.pending := by
  unfold closeRev; dsimp only; (repeat' split) <;> simp

@[simp] theorem edgeMeasuring_frame (x0 : Reel) (s : State) :
    (edgeMeasuring x0 s).tun = s.tun ∧ (edgeMeasuring x0 s).tar = s.tar ∧ (edgeMeasuring x0 s).dld = s.dld ∧
    (edgeMeasuring x0 s).clk = s.clk ∧ (edgeMeasuring x0 s).tsc = s.tsc ∧ (edgeMeasuring x0 s).pwr = s.pwr ∧
    (edgeMeasuring x0 s).fresh = s.fresh ∧ (edgeMeasuring x0 s).pending = s.pending := by
  unfold edgeMeasuring; (repeat' split) <;> simp

@[simp] theorem closeTimed_frame (x0 : Reel) (x1 : Nat) (s : State) :
    (closeTimed x0 x1 s).tun = s.tun ∧ (closeTimed x0 x1 s).tar = s.tar ∧ (closeTimed x0 x1 s).dld = s.dld ∧
    (closeTimed x0 x1 s).clk = s.clk ∧ (closeTimed x0 x1 s).tsc = s.tsc ∧ (closeTimed x0 x1 s).pwr = s.pwr ∧
    (closeTimed x0 x1 s).fresh = s.fresh ∧ (closeTimed x0 x1 s).pending = s.pending := by
  unfold closeTimed; split <;> simp

@[simp] theorem edgeWinding_frame (x0 : Reel) (x1 : Nat) (s : State) :
    (edgeWinding x0 x1 s).tun = s.tun ∧ (edgeWinding x0 x1 s).tar = s.tar ∧ (edgeWinding x0 x1 s).dld = s.dld ∧
    (edgeWinding x0 x1 s).clk = s.clk ∧ (edgeWinding x0 x1 s).tsc = s.tsc ∧ (edgeWinding x0 x1 s).pwr = s.pwr ∧
    (edgeWinding x0 x1 s).fresh = s.fresh ∧ (edgeWinding x0 x1 s).pending = s.pending := by
  unfold edgeWinding; dsimp only; (repeat' split) <;> simp

@[simp] theorem reelEdge_frame (x0 : Reel) (x1 : Nat) (s : State) :
    (reelEdge x0 x1 s).tun = s.tun ∧ (reelEdge x0 x1 s).tar = s.tar ∧ (reelEdge x0 x1 s).dld = s.dld ∧
    (reelEdge x0 x1 s).clk = s.clk ∧ (reelEdge x0 x1 s).tsc = s.tsc ∧ (reelEdge x0 x1 s).pwr = s.pwr ∧
    (reelEdge x0 x1 s).fresh = s.fresh ∧ (reelEdge x0 x1 s).pending = s.pending := by
  unfold reelEdge; (repeat' split) <;> simp

@[simp] theorem revOverflow_frame (x0 : Reel) (s : State) :
    (revOverflow x0 s).mec = s.mec ∧ (revOverflow x0 s).srv = s.srv ∧ (revOverflow x0 s).ctu = s.ctu ∧
    (revOverflow x0 s).tun = s.tun ∧ (revOverflow x0 s).tar = s.tar ∧ (revOverflow x0 s).dld = s.dld ∧
    (revOverflow x0 s).clk = s.clk ∧ (revOverflow x0 s).tsc = s.tsc ∧ (revOverflow x0 s).pwr = s.pwr ∧
    (revOverflow x0 s).lnk = s.lnk ∧ (revOverflow x0 s).pins = s.pins ∧ (revOverflow x0 s).reports = s.reports ∧
    (revOverflow x0 s).fresh = s.fresh ∧ (revOverflow x0 s).pending = s.pending := by
  unfold revOverflow when; (repeat' split) <;> simp

@[simp] theorem capstanStepTaken_frame (s : State) :
    (capstanStepTaken s).tun = s.tun ∧ (capstanStepTaken s).tar = s.tar ∧ (capstanStepTaken s).dld = s.dld ∧
    (capstanStepTaken s).clk = s.clk ∧ (capstanStepTaken s).tsc = s.tsc ∧ (capstanStepTaken s).pwr = s.pwr ∧
    (capstanStepTaken s).fresh = s.fresh ∧ (capstanStepTaken s).pending = s.pending := by
  unfold capstanStepTaken; dsimp only; (repeat' split) <;> simp

@[simp] theorem tpePulse_frame (s : State) :
    (tpePulse s).mec = s.mec ∧ (tpePulse s).srv = s.srv ∧ (tpePulse s).ctu = s.ctu ∧ (tpePulse s).tun = s.tun ∧
    (tpePulse s).tar = s.tar ∧ (tpePulse s).dld = s.dld ∧ (tpePulse s).clk = s.clk ∧ (tpePulse s).tsc = s.tsc ∧
    (tpePulse s).pwr = s.pwr ∧ (tpePulse s).lnk = s.lnk ∧ (tpePulse s).pins = s.pins ∧
    (tpePulse s).reports = s.reports ∧ (tpePulse s).fresh = s.fresh ∧ (tpePulse s).pending = s.pending := by
  unfold tpePulse; dsimp only; (repeat' split) <;> simp

@[simp] theorem seekFound_frame (x0 : Nat) (s : State) :
    (seekFound x0 s).tun = s.tun ∧ (seekFound x0 s).tar = s.tar ∧ (seekFound x0 s).dld = s.dld ∧
    (seekFound x0 s).clk = s.clk ∧ (seekFound x0 s).tsc = s.tsc ∧ (seekFound x0 s).pwr = s.pwr ∧
    (seekFound x0 s).fresh = s.fresh ∧ (seekFound x0 s).pending = s.pending := by
  unfold seekFound; dsimp only; split <;> simp

@[simp] theorem seekPassed_frame (x0 : Nat) (s : State) :
    (seekPassed x0 s).tun = s.tun ∧ (seekPassed x0 s).tar = s.tar ∧ (seekPassed x0 s).dld = s.dld ∧
    (seekPassed x0 s).clk = s.clk ∧ (seekPassed x0 s).tsc = s.tsc ∧ (seekPassed x0 s).pwr = s.pwr ∧
    (seekPassed x0 s).fresh = s.fresh ∧ (seekPassed x0 s).pending = s.pending := by
  unfold seekPassed; dsimp only; split <;> simp

@[simp] theorem markRecognised_frame (x0 : Nat) (s : State) :
    (markRecognised x0 s).tun = s.tun ∧ (markRecognised x0 s).tar = s.tar ∧ (markRecognised x0 s).dld = s.dld ∧
    (markRecognised x0 s).clk = s.clk ∧ (markRecognised x0 s).tsc = s.tsc ∧ (markRecognised x0 s).pwr = s.pwr ∧
    (markRecognised x0 s).fresh = s.fresh ∧ (markRecognised x0 s).pending = s.pending := by
  unfold markRecognised; (repeat' split) <;> simp

@[simp] theorem cueRead_frame (x0 : Bool) (x1 : PulseClass) (x2 : List PulseClass) (s : State) :
    (cueRead x0 x1 x2 s).tun = s.tun ∧ (cueRead x0 x1 x2 s).tar = s.tar ∧ (cueRead x0 x1 x2 s).dld = s.dld ∧
    (cueRead x0 x1 x2 s).clk = s.clk ∧ (cueRead x0 x1 x2 s).tsc = s.tsc ∧ (cueRead x0 x1 x2 s).pwr = s.pwr ∧
    (cueRead x0 x1 x2 s).fresh = s.fresh ∧ (cueRead x0 x1 x2 s).pending = s.pending := by
  unfold cueRead; split <;> simp

@[simp] theorem pulseTaken_frame (x0 : Nat) (s : State) :
    (pulseTaken x0 s).tun = s.tun ∧ (pulseTaken x0 s).tar = s.tar ∧ (pulseTaken x0 s).dld = s.dld ∧
    (pulseTaken x0 s).clk = s.clk ∧ (pulseTaken x0 s).tsc = s.tsc ∧ (pulseTaken x0 s).pwr = s.pwr ∧
    (pulseTaken x0 s).fresh = s.fresh ∧ (pulseTaken x0 s).pending = s.pending := by
  unfold pulseTaken; dsimp only; split <;> simp

@[simp] theorem pulseRead_frame (x0 : Nat) (s : State) :
    (pulseRead x0 s).tun = s.tun ∧ (pulseRead x0 s).tar = s.tar ∧ (pulseRead x0 s).dld = s.dld ∧
    (pulseRead x0 s).clk = s.clk ∧ (pulseRead x0 s).tsc = s.tsc ∧ (pulseRead x0 s).pwr = s.pwr ∧
    (pulseRead x0 s).fresh = s.fresh ∧ (pulseRead x0 s).pending = s.pending := by
  unfold pulseRead; (repeat' split) <;> simp

@[simp] theorem markAdvance_frame (s : State) :
    (markAdvance s).mec = s.mec ∧ (markAdvance s).srv = s.srv ∧ (markAdvance s).tpe = s.tpe ∧
    (markAdvance s).tun = s.tun ∧ (markAdvance s).tar = s.tar ∧ (markAdvance s).dld = s.dld ∧
    (markAdvance s).clk = s.clk ∧ (markAdvance s).tsc = s.tsc ∧ (markAdvance s).pwr = s.pwr ∧
    (markAdvance s).pins = s.pins ∧ (markAdvance s).reports = s.reports ∧ (markAdvance s).fresh = s.fresh ∧
    (markAdvance s).pending = s.pending := by
  unfold markAdvance; (repeat' split) <;> simp

@[simp] theorem pulseWritten_frame (s : State) :
    (pulseWritten s).tun = s.tun ∧ (pulseWritten s).tar = s.tar ∧ (pulseWritten s).dld = s.dld ∧
    (pulseWritten s).clk = s.clk ∧ (pulseWritten s).tsc = s.tsc ∧ (pulseWritten s).pwr = s.pwr ∧
    (pulseWritten s).fresh = s.fresh ∧ (pulseWritten s).pending = s.pending := by
  simp only [pulseWritten, when, withActive]; (repeat' split) <;> simp

@[simp] theorem qualityMoved_frame (x0 : Quality) (s : State) :
    (qualityMoved x0 s).mec = s.mec ∧ (qualityMoved x0 s).ctu = s.ctu ∧ (qualityMoved x0 s).tpe = s.tpe ∧
    (qualityMoved x0 s).tun = s.tun ∧ (qualityMoved x0 s).tar = s.tar ∧ (qualityMoved x0 s).dld = s.dld ∧
    (qualityMoved x0 s).clk = s.clk ∧ (qualityMoved x0 s).tsc = s.tsc ∧ (qualityMoved x0 s).pwr = s.pwr ∧
    (qualityMoved x0 s).pins = s.pins ∧ (qualityMoved x0 s).fresh = s.fresh ∧
    (qualityMoved x0 s).pending = s.pending := by
  unfold qualityMoved; dsimp only; (repeat' split) <;> simp

@[simp] theorem judgeFrame_frame (x0 : Bool) (s : State) :
    (judgeFrame x0 s).mec = s.mec ∧ (judgeFrame x0 s).ctu = s.ctu ∧ (judgeFrame x0 s).tpe = s.tpe ∧
    (judgeFrame x0 s).tun = s.tun ∧ (judgeFrame x0 s).tar = s.tar ∧ (judgeFrame x0 s).dld = s.dld ∧
    (judgeFrame x0 s).clk = s.clk ∧ (judgeFrame x0 s).tsc = s.tsc ∧ (judgeFrame x0 s).pwr = s.pwr ∧
    (judgeFrame x0 s).pins = s.pins ∧ (judgeFrame x0 s).fresh = s.fresh ∧ (judgeFrame x0 s).pending = s.pending := by
  simp [judgeFrame]

@[simp] theorem lockFrame_frame (x0 : Int) (x1 : CapstanPhase) (s : State) :
    (lockFrame x0 x1 s).tun = s.tun ∧ (lockFrame x0 x1 s).tar = s.tar ∧ (lockFrame x0 x1 s).dld = s.dld ∧
    (lockFrame x0 x1 s).clk = s.clk ∧ (lockFrame x0 x1 s).tsc = s.tsc ∧ (lockFrame x0 x1 s).pwr = s.pwr ∧
    (lockFrame x0 x1 s).pins = s.pins ∧ (lockFrame x0 x1 s).fresh = s.fresh ∧
    (lockFrame x0 x1 s).pending = s.pending := by
  unfold lockFrame; dsimp only; split <;> simp

@[simp] theorem blankFrame_frame (s : State) :
    (blankFrame s).mec = s.mec ∧ (blankFrame s).ctu = s.ctu ∧ (blankFrame s).tpe = s.tpe ∧
    (blankFrame s).tun = s.tun ∧ (blankFrame s).tar = s.tar ∧ (blankFrame s).dld = s.dld ∧
    (blankFrame s).clk = s.clk ∧ (blankFrame s).tsc = s.tsc ∧ (blankFrame s).pwr = s.pwr ∧
    (blankFrame s).pins = s.pins ∧ (blankFrame s).reports = s.reports ∧ (blankFrame s).fresh = s.fresh ∧
    (blankFrame s).pending = s.pending := by
  unfold blankFrame; (repeat' split) <;> simp

@[simp] theorem unreadFrame_frame (s : State) :
    (unreadFrame s).tun = s.tun ∧ (unreadFrame s).tar = s.tar ∧ (unreadFrame s).dld = s.dld ∧
    (unreadFrame s).clk = s.clk ∧ (unreadFrame s).tsc = s.tsc ∧ (unreadFrame s).pwr = s.pwr ∧
    (unreadFrame s).fresh = s.fresh ∧ (unreadFrame s).pending = s.pending := by
  unfold unreadFrame; (repeat' split) <;> simp

@[simp] theorem frameOver_frame (s : State) :
    (frameOver s).mec = s.mec ∧ (frameOver s).tpe = s.tpe ∧ (frameOver s).tun = s.tun ∧ (frameOver s).tar = s.tar ∧
    (frameOver s).dld = s.dld ∧ (frameOver s).clk = s.clk ∧ (frameOver s).tsc = s.tsc ∧ (frameOver s).pwr = s.pwr ∧
    (frameOver s).lnk = s.lnk ∧ (frameOver s).pins = s.pins ∧ (frameOver s).reports = s.reports ∧
    (frameOver s).fresh = s.fresh ∧ (frameOver s).pending = s.pending := by
  simp [frameOver]

@[simp] theorem servoFrameTaken_frame (x0 : Int) (x1 : CapstanPhase) (s : State) :
    (servoFrameTaken x0 x1 s).tun = s.tun ∧ (servoFrameTaken x0 x1 s).tar = s.tar ∧
    (servoFrameTaken x0 x1 s).dld = s.dld ∧ (servoFrameTaken x0 x1 s).clk = s.clk ∧
    (servoFrameTaken x0 x1 s).tsc = s.tsc ∧ (servoFrameTaken x0 x1 s).pwr = s.pwr ∧
    (servoFrameTaken x0 x1 s).fresh = s.fresh ∧ (servoFrameTaken x0 x1 s).pending = s.pending := by
  unfold servoFrameTaken; split <;> simp

@[simp] theorem ctuRestart_frame (s : State) :
    (ctuRestart s).mec = s.mec ∧ (ctuRestart s).srv = s.srv ∧ (ctuRestart s).tpe = s.tpe ∧
    (ctuRestart s).tun = s.tun ∧ (ctuRestart s).tar = s.tar ∧ (ctuRestart s).dld = s.dld ∧
    (ctuRestart s).clk = s.clk ∧ (ctuRestart s).tsc = s.tsc ∧ (ctuRestart s).pwr = s.pwr ∧
    (ctuRestart s).pins = s.pins ∧ (ctuRestart s).reports = s.reports ∧
    (ctuRestart s).fresh = s.fresh ∧ (ctuRestart s).pending = s.pending := by
  simp [ctuRestart]

@[simp] theorem srvRestart_frame (s : State) :
    (srvRestart s).mec = s.mec ∧ (srvRestart s).ctu = s.ctu ∧ (srvRestart s).tpe = s.tpe ∧
    (srvRestart s).tun = s.tun ∧ (srvRestart s).tar = s.tar ∧ (srvRestart s).dld = s.dld ∧
    (srvRestart s).clk = s.clk ∧ (srvRestart s).tsc = s.tsc ∧ (srvRestart s).pwr = s.pwr ∧
    (srvRestart s).lnk = s.lnk ∧ (srvRestart s).pins = s.pins ∧ (srvRestart s).reports = s.reports ∧
    (srvRestart s).fresh = s.fresh ∧ (srvRestart s).pending = s.pending := by
  simp [srvRestart]

@[simp] theorem ctuBackup_frame (x0 : Bool) (s : State) :
    (ctuBackup x0 s).mec = s.mec ∧ (ctuBackup x0 s).srv = s.srv ∧ (ctuBackup x0 s).tpe = s.tpe ∧
    (ctuBackup x0 s).tun = s.tun ∧ (ctuBackup x0 s).tar = s.tar ∧ (ctuBackup x0 s).dld = s.dld ∧
    (ctuBackup x0 s).clk = s.clk ∧ (ctuBackup x0 s).tsc = s.tsc ∧ (ctuBackup x0 s).pwr = s.pwr ∧
    (ctuBackup x0 s).pins = s.pins ∧ (ctuBackup x0 s).reports = s.reports ∧ (ctuBackup x0 s).fresh = s.fresh ∧
    (ctuBackup x0 s).pending = s.pending := by
  unfold ctuBackup; split <;> simp

/-! ### DataLines -/

@[simp] theorem captureEmpty_frame (s : State) :
    (captureEmpty s).mec = s.mec ∧ (captureEmpty s).srv = s.srv ∧ (captureEmpty s).ctu = s.ctu ∧
    (captureEmpty s).tpe = s.tpe ∧ (captureEmpty s).tun = s.tun ∧ (captureEmpty s).tar = s.tar ∧
    (captureEmpty s).clk = s.clk ∧ (captureEmpty s).tsc = s.tsc ∧ (captureEmpty s).pwr = s.pwr ∧
    (captureEmpty s).pins = s.pins ∧ (captureEmpty s).reports = s.reports ∧ (captureEmpty s).fresh = s.fresh ∧
    (captureEmpty s).pending = s.pending := by
  simp [captureEmpty]

@[simp] theorem assemblyRestart_frame (s : State) :
    (assemblyRestart s).mec = s.mec ∧ (assemblyRestart s).srv = s.srv ∧ (assemblyRestart s).ctu = s.ctu ∧
    (assemblyRestart s).tpe = s.tpe ∧ (assemblyRestart s).tun = s.tun ∧ (assemblyRestart s).tar = s.tar ∧
    (assemblyRestart s).clk = s.clk ∧ (assemblyRestart s).tsc = s.tsc ∧ (assemblyRestart s).pwr = s.pwr ∧
    (assemblyRestart s).lnk = s.lnk ∧ (assemblyRestart s).pins = s.pins ∧ (assemblyRestart s).reports = s.reports ∧
    (assemblyRestart s).fresh = s.fresh ∧ (assemblyRestart s).pending = s.pending := by
  simp [assemblyRestart]

@[simp] theorem retuned_frame (s : State) :
    (retuned s).mec = s.mec ∧ (retuned s).srv = s.srv ∧ (retuned s).ctu = s.ctu ∧ (retuned s).tpe = s.tpe ∧
    (retuned s).tun = s.tun ∧ (retuned s).tar = s.tar ∧ (retuned s).clk = s.clk ∧ (retuned s).tsc = s.tsc ∧
    (retuned s).pwr = s.pwr ∧ (retuned s).pins = s.pins ∧ (retuned s).reports = s.reports ∧
    (retuned s).fresh = s.fresh ∧ (retuned s).pending = s.pending := by
  simp [retuned]

@[simp] theorem countBad_frame (s : State) :
    (countBad s).mec = s.mec ∧ (countBad s).srv = s.srv ∧ (countBad s).ctu = s.ctu ∧ (countBad s).tpe = s.tpe ∧
    (countBad s).tun = s.tun ∧ (countBad s).tar = s.tar ∧ (countBad s).clk = s.clk ∧ (countBad s).tsc = s.tsc ∧
    (countBad s).pwr = s.pwr ∧ (countBad s).lnk = s.lnk ∧ (countBad s).pins = s.pins ∧
    (countBad s).reports = s.reports ∧ (countBad s).fresh = s.fresh ∧ (countBad s).pending = s.pending := by
  simp [countBad]

@[simp] theorem captureEnter_frame (x0 : Capture) (s : State) :
    (captureEnter x0 s).mec = s.mec ∧ (captureEnter x0 s).srv = s.srv ∧ (captureEnter x0 s).ctu = s.ctu ∧
    (captureEnter x0 s).tpe = s.tpe ∧ (captureEnter x0 s).tun = s.tun ∧ (captureEnter x0 s).tar = s.tar ∧
    (captureEnter x0 s).clk = s.clk ∧ (captureEnter x0 s).tsc = s.tsc ∧ (captureEnter x0 s).pwr = s.pwr ∧
    (captureEnter x0 s).pins = s.pins ∧ (captureEnter x0 s).reports = s.reports ∧
    (captureEnter x0 s).fresh = s.fresh ∧ (captureEnter x0 s).pending = s.pending := by
  unfold captureEnter; split <;> simp

@[simp] theorem captureOffer_frame (x0 : PacketType) (x1 : Nat) (x2 : List Byte) (s : State) :
    (captureOffer x0 x1 x2 s).mec = s.mec ∧ (captureOffer x0 x1 x2 s).srv = s.srv ∧
    (captureOffer x0 x1 x2 s).ctu = s.ctu ∧ (captureOffer x0 x1 x2 s).tpe = s.tpe ∧
    (captureOffer x0 x1 x2 s).tun = s.tun ∧ (captureOffer x0 x1 x2 s).tar = s.tar ∧
    (captureOffer x0 x1 x2 s).clk = s.clk ∧ (captureOffer x0 x1 x2 s).tsc = s.tsc ∧
    (captureOffer x0 x1 x2 s).pwr = s.pwr ∧ (captureOffer x0 x1 x2 s).pins = s.pins ∧
    (captureOffer x0 x1 x2 s).reports = s.reports ∧ (captureOffer x0 x1 x2 s).fresh = s.fresh ∧
    (captureOffer x0 x1 x2 s).pending = s.pending := by
  unfold captureOffer; split <;> simp

@[simp] theorem captureSent_frame (s : State) :
    (captureSent s).mec = s.mec ∧ (captureSent s).srv = s.srv ∧ (captureSent s).ctu = s.ctu ∧
    (captureSent s).tpe = s.tpe ∧ (captureSent s).tun = s.tun ∧ (captureSent s).tar = s.tar ∧
    (captureSent s).clk = s.clk ∧ (captureSent s).tsc = s.tsc ∧ (captureSent s).pwr = s.pwr ∧
    (captureSent s).pins = s.pins ∧ (captureSent s).reports = s.reports ∧ (captureSent s).fresh = s.fresh ∧
    (captureSent s).pending = s.pending := by
  simp [captureSent]

/-! ### Tuner -/

@[simp] theorem setPreset_frame (x0 : Nat) (x1 : Preset) (s : State) :
    (setPreset x0 x1 s).mec = s.mec ∧ (setPreset x0 x1 s).srv = s.srv ∧ (setPreset x0 x1 s).ctu = s.ctu ∧
    (setPreset x0 x1 s).tpe = s.tpe ∧ (setPreset x0 x1 s).tar = s.tar ∧ (setPreset x0 x1 s).dld = s.dld ∧
    (setPreset x0 x1 s).clk = s.clk ∧ (setPreset x0 x1 s).tsc = s.tsc ∧ (setPreset x0 x1 s).pwr = s.pwr ∧
    (setPreset x0 x1 s).lnk = s.lnk ∧ (setPreset x0 x1 s).pins = s.pins ∧ (setPreset x0 x1 s).reports = s.reports ∧
    (setPreset x0 x1 s).fresh = s.fresh ∧ (setPreset x0 x1 s).pending = s.pending := by
  unfold setPreset; split <;> simp

@[simp] theorem learnCode_frame (x0 : BitVec 12) (s : State) :
    (learnCode x0 s).mec = s.mec ∧ (learnCode x0 s).srv = s.srv ∧ (learnCode x0 s).ctu = s.ctu ∧
    (learnCode x0 s).tpe = s.tpe ∧ (learnCode x0 s).tar = s.tar ∧ (learnCode x0 s).dld = s.dld ∧
    (learnCode x0 s).clk = s.clk ∧ (learnCode x0 s).tsc = s.tsc ∧ (learnCode x0 s).pwr = s.pwr ∧
    (learnCode x0 s).pins = s.pins ∧ (learnCode x0 s).reports = s.reports ∧ (learnCode x0 s).fresh = s.fresh ∧
    (learnCode x0 s).pending = s.pending := by
  unfold learnCode; dsimp only; split <;> simp

@[simp] theorem learnName_frame (x0 : BitVec 12) (x1 : List Byte) (s : State) :
    (learnName x0 x1 s).mec = s.mec ∧ (learnName x0 x1 s).srv = s.srv ∧ (learnName x0 x1 s).ctu = s.ctu ∧
    (learnName x0 x1 s).tpe = s.tpe ∧ (learnName x0 x1 s).tar = s.tar ∧ (learnName x0 x1 s).dld = s.dld ∧
    (learnName x0 x1 s).clk = s.clk ∧ (learnName x0 x1 s).tsc = s.tsc ∧ (learnName x0 x1 s).pwr = s.pwr ∧
    (learnName x0 x1 s).pins = s.pins ∧ (learnName x0 x1 s).reports = s.reports ∧
    (learnName x0 x1 s).fresh = s.fresh ∧ (learnName x0 x1 s).pending = s.pending := by
  unfold learnName; dsimp only; split <;> simp

@[simp] theorem tuneTo_frame (x0 : Source) (x1 : Nat) (x2 : Nat) (x3 : Int) (x4 : TunedState) (x5 : Nat) (s : State) :
    (tuneTo x0 x1 x2 x3 x4 x5 s).mec = s.mec ∧ (tuneTo x0 x1 x2 x3 x4 x5 s).srv = s.srv ∧
    (tuneTo x0 x1 x2 x3 x4 x5 s).ctu = s.ctu ∧ (tuneTo x0 x1 x2 x3 x4 x5 s).tpe = s.tpe ∧
    (tuneTo x0 x1 x2 x3 x4 x5 s).tar = s.tar ∧ (tuneTo x0 x1 x2 x3 x4 x5 s).clk = s.clk ∧
    (tuneTo x0 x1 x2 x3 x4 x5 s).tsc = s.tsc ∧ (tuneTo x0 x1 x2 x3 x4 x5 s).pwr = s.pwr ∧
    (tuneTo x0 x1 x2 x3 x4 x5 s).pins = s.pins ∧ (tuneTo x0 x1 x2 x3 x4 x5 s).reports = s.reports ∧
    (tuneTo x0 x1 x2 x3 x4 x5 s).fresh = s.fresh ∧ (tuneTo x0 x1 x2 x3 x4 x5 s).pending = s.pending := by
  simp [tuneTo]

@[simp] theorem tunedState_frame (x0 : Bool) (s : State) :
    (tunedState x0 s).mec = s.mec ∧ (tunedState x0 s).srv = s.srv ∧ (tunedState x0 s).ctu = s.ctu ∧
    (tunedState x0 s).tpe = s.tpe ∧ (tunedState x0 s).tar = s.tar ∧ (tunedState x0 s).dld = s.dld ∧
    (tunedState x0 s).clk = s.clk ∧ (tunedState x0 s).tsc = s.tsc ∧ (tunedState x0 s).pwr = s.pwr ∧
    (tunedState x0 s).lnk = s.lnk ∧ (tunedState x0 s).pins = s.pins ∧ (tunedState x0 s).reports = s.reports ∧
    (tunedState x0 s).fresh = s.fresh ∧ (tunedState x0 s).pending = s.pending := by
  simp [tunedState]

@[simp] theorem setDetectors_frame (x0 : Bool) (x1 : Bool) (s : State) :
    (setDetectors x0 x1 s).mec = s.mec ∧ (setDetectors x0 x1 s).srv = s.srv ∧ (setDetectors x0 x1 s).ctu = s.ctu ∧
    (setDetectors x0 x1 s).tpe = s.tpe ∧ (setDetectors x0 x1 s).tun = s.tun ∧ (setDetectors x0 x1 s).tar = s.tar ∧
    (setDetectors x0 x1 s).dld = s.dld ∧ (setDetectors x0 x1 s).clk = s.clk ∧ (setDetectors x0 x1 s).tsc = s.tsc ∧
    (setDetectors x0 x1 s).pwr = s.pwr ∧ (setDetectors x0 x1 s).lnk = s.lnk ∧
    (setDetectors x0 x1 s).reports = s.reports ∧ (setDetectors x0 x1 s).fresh = s.fresh ∧
    (setDetectors x0 x1 s).pending = s.pending := by
  simp [setDetectors]

@[simp] theorem tuningCompletes_frame (s : State) :
    (tuningCompletes s).mec = s.mec ∧ (tuningCompletes s).srv = s.srv ∧ (tuningCompletes s).ctu = s.ctu ∧
    (tuningCompletes s).tpe = s.tpe ∧ (tuningCompletes s).tar = s.tar ∧ (tuningCompletes s).dld = s.dld ∧
    (tuningCompletes s).clk = s.clk ∧ (tuningCompletes s).tsc = s.tsc ∧ (tuningCompletes s).pwr = s.pwr ∧
    (tuningCompletes s).pins = s.pins ∧ (tuningCompletes s).fresh = s.fresh ∧
    (tuningCompletes s).pending = s.pending := by
  simp [tuningCompletes]

@[simp] theorem afcReading_frame (x0 : Disc) (s : State) :
    (afcReading x0 s).mec = s.mec ∧ (afcReading x0 s).srv = s.srv ∧ (afcReading x0 s).ctu = s.ctu ∧
    (afcReading x0 s).tpe = s.tpe ∧ (afcReading x0 s).tar = s.tar ∧ (afcReading x0 s).dld = s.dld ∧
    (afcReading x0 s).clk = s.clk ∧ (afcReading x0 s).tsc = s.tsc ∧ (afcReading x0 s).pwr = s.pwr ∧
    (afcReading x0 s).pins = s.pins ∧ (afcReading x0 s).reports = s.reports ∧ (afcReading x0 s).fresh = s.fresh ∧
    (afcReading x0 s).pending = s.pending := by
  simp [afcReading]

@[simp] theorem signalChanges_frame (x0 : Bool) (s : State) :
    (signalChanges x0 s).mec = s.mec ∧ (signalChanges x0 s).srv = s.srv ∧ (signalChanges x0 s).ctu = s.ctu ∧
    (signalChanges x0 s).tpe = s.tpe ∧ (signalChanges x0 s).tar = s.tar ∧ (signalChanges x0 s).dld = s.dld ∧
    (signalChanges x0 s).clk = s.clk ∧ (signalChanges x0 s).tsc = s.tsc ∧ (signalChanges x0 s).pwr = s.pwr ∧
    (signalChanges x0 s).pins = s.pins ∧ (signalChanges x0 s).fresh = s.fresh ∧
    (signalChanges x0 s).pending = s.pending := by
  simp [signalChanges]

@[simp] theorem detectorRead_frame (x0 : Disc) (s : State) :
    (detectorRead x0 s).mec = s.mec ∧ (detectorRead x0 s).srv = s.srv ∧ (detectorRead x0 s).ctu = s.ctu ∧
    (detectorRead x0 s).tpe = s.tpe ∧ (detectorRead x0 s).tar = s.tar ∧ (detectorRead x0 s).dld = s.dld ∧
    (detectorRead x0 s).clk = s.clk ∧ (detectorRead x0 s).tsc = s.tsc ∧ (detectorRead x0 s).pwr = s.pwr ∧
    (detectorRead x0 s).pins = s.pins ∧ (detectorRead x0 s).fresh = s.fresh ∧
    (detectorRead x0 s).pending = s.pending := by
  unfold detectorRead; dsimp only; (repeat' split) <;> simp

@[simp] theorem scanPosition_frame (x0 : Nat) (s : State) :
    (scanPosition x0 s).mec = s.mec ∧ (scanPosition x0 s).srv = s.srv ∧ (scanPosition x0 s).ctu = s.ctu ∧
    (scanPosition x0 s).tpe = s.tpe ∧ (scanPosition x0 s).tar = s.tar ∧ (scanPosition x0 s).clk = s.clk ∧
    (scanPosition x0 s).tsc = s.tsc ∧ (scanPosition x0 s).pwr = s.pwr ∧ (scanPosition x0 s).pins = s.pins ∧
    (scanPosition x0 s).reports = s.reports ∧ (scanPosition x0 s).fresh = s.fresh ∧
    (scanPosition x0 s).pending = s.pending := by
  simp [scanPosition]

@[simp] theorem scanEnd_frame (x0 : EndCause) (s : State) :
    (scanEnd x0 s).mec = s.mec ∧ (scanEnd x0 s).srv = s.srv ∧ (scanEnd x0 s).ctu = s.ctu ∧
    (scanEnd x0 s).tpe = s.tpe ∧ (scanEnd x0 s).tar = s.tar ∧ (scanEnd x0 s).dld = s.dld ∧
    (scanEnd x0 s).clk = s.clk ∧ (scanEnd x0 s).tsc = s.tsc ∧ (scanEnd x0 s).pwr = s.pwr ∧
    (scanEnd x0 s).pins = s.pins ∧ (scanEnd x0 s).reports = s.reports ∧ (scanEnd x0 s).fresh = s.fresh ∧
    (scanEnd x0 s).pending = s.pending := by
  simp [scanEnd]

@[simp] theorem scanDone_frame (s : State) :
    (scanDone s).mec = s.mec ∧ (scanDone s).srv = s.srv ∧ (scanDone s).ctu = s.ctu ∧ (scanDone s).tpe = s.tpe ∧
    (scanDone s).tar = s.tar ∧ (scanDone s).dld = s.dld ∧ (scanDone s).clk = s.clk ∧ (scanDone s).tsc = s.tsc ∧
    (scanDone s).pwr = s.pwr ∧ (scanDone s).pins = s.pins ∧ (scanDone s).fresh = s.fresh ∧
    (scanDone s).pending = s.pending := by
  simp [scanDone]

@[simp] theorem scanNext_frame (x0 : Nat) (s : State) :
    (scanNext x0 s).mec = s.mec ∧ (scanNext x0 s).srv = s.srv ∧ (scanNext x0 s).ctu = s.ctu ∧
    (scanNext x0 s).tpe = s.tpe ∧ (scanNext x0 s).tar = s.tar ∧ (scanNext x0 s).clk = s.clk ∧
    (scanNext x0 s).tsc = s.tsc ∧ (scanNext x0 s).pwr = s.pwr ∧ (scanNext x0 s).pins = s.pins ∧
    (scanNext x0 s).fresh = s.fresh ∧ (scanNext x0 s).pending = s.pending := by
  unfold scanNext; dsimp only; (repeat' split) <;> simp

@[simp] theorem scanBegin_frame (x0 : Nat) (x1 : Bool) (s : State) :
    (scanBegin x0 x1 s).mec = s.mec ∧ (scanBegin x0 x1 s).srv = s.srv ∧ (scanBegin x0 x1 s).ctu = s.ctu ∧
    (scanBegin x0 x1 s).tpe = s.tpe ∧ (scanBegin x0 x1 s).tar = s.tar ∧ (scanBegin x0 x1 s).clk = s.clk ∧
    (scanBegin x0 x1 s).tsc = s.tsc ∧ (scanBegin x0 x1 s).pwr = s.pwr ∧ (scanBegin x0 x1 s).pins = s.pins ∧
    (scanBegin x0 x1 s).reports = s.reports ∧ (scanBegin x0 x1 s).fresh = s.fresh ∧
    (scanBegin x0 x1 s).pending = s.pending := by
  simp [scanBegin]

@[simp] theorem scanMovesOn_frame (s : State) :
    (scanMovesOn s).mec = s.mec ∧ (scanMovesOn s).srv = s.srv ∧ (scanMovesOn s).ctu = s.ctu ∧
    (scanMovesOn s).tpe = s.tpe ∧ (scanMovesOn s).tar = s.tar ∧ (scanMovesOn s).clk = s.clk ∧
    (scanMovesOn s).tsc = s.tsc ∧ (scanMovesOn s).pwr = s.pwr ∧ (scanMovesOn s).pins = s.pins ∧
    (scanMovesOn s).fresh = s.fresh ∧ (scanMovesOn s).pending = s.pending := by
  simp [scanMovesOn]

@[simp] theorem fineStep_frame (x0 : Bool) (s : State) :
    (fineStep x0 s).mec = s.mec ∧ (fineStep x0 s).srv = s.srv ∧ (fineStep x0 s).ctu = s.ctu ∧
    (fineStep x0 s).tpe = s.tpe ∧ (fineStep x0 s).tar = s.tar ∧ (fineStep x0 s).clk = s.clk ∧
    (fineStep x0 s).tsc = s.tsc ∧ (fineStep x0 s).pwr = s.pwr ∧ (fineStep x0 s).pins = s.pins ∧
    (fineStep x0 s).fresh = s.fresh ∧ (fineStep x0 s).pending = s.pending := by
  unfold fineStep; dsimp only; (repeat' split) <;> simp

@[simp] theorem fineHold_frame (s : State) :
    (fineHold s).mec = s.mec ∧ (fineHold s).srv = s.srv ∧ (fineHold s).ctu = s.ctu ∧ (fineHold s).tpe = s.tpe ∧
    (fineHold s).tar = s.tar ∧ (fineHold s).dld = s.dld ∧ (fineHold s).clk = s.clk ∧ (fineHold s).tsc = s.tsc ∧
    (fineHold s).pwr = s.pwr ∧ (fineHold s).lnk = s.lnk ∧ (fineHold s).pins = s.pins ∧
    (fineHold s).reports = s.reports ∧ (fineHold s).fresh = s.fresh ∧ (fineHold s).pending = s.pending := by
  simp [fineHold]

@[simp] theorem fineReading_frame (x0 : Disc) (s : State) :
    (fineReading x0 s).mec = s.mec ∧ (fineReading x0 s).srv = s.srv ∧ (fineReading x0 s).ctu = s.ctu ∧
    (fineReading x0 s).tpe = s.tpe ∧ (fineReading x0 s).tar = s.tar ∧ (fineReading x0 s).clk = s.clk ∧
    (fineReading x0 s).tsc = s.tsc ∧ (fineReading x0 s).pwr = s.pwr ∧ (fineReading x0 s).pins = s.pins ∧
    (fineReading x0 s).fresh = s.fresh ∧ (fineReading x0 s).pending = s.pending := by
  unfold fineReading; (repeat' split) <;> simp

@[simp] theorem scanDwellRead_frame (x0 : Disc) (s : State) :
    (scanDwellRead x0 s).mec = s.mec ∧ (scanDwellRead x0 s).srv = s.srv ∧ (scanDwellRead x0 s).ctu = s.ctu ∧
    (scanDwellRead x0 s).tpe = s.tpe ∧ (scanDwellRead x0 s).tar = s.tar ∧ (scanDwellRead x0 s).clk = s.clk ∧
    (scanDwellRead x0 s).tsc = s.tsc ∧ (scanDwellRead x0 s).pwr = s.pwr ∧ (scanDwellRead x0 s).pins = s.pins ∧
    (scanDwellRead x0 s).fresh = s.fresh ∧ (scanDwellRead x0 s).pending = s.pending := by
  unfold scanDwellRead; split <;> simp

@[simp] theorem scanFineRead_frame (x0 : Disc) (s : State) :
    (scanFineRead x0 s).mec = s.mec ∧ (scanFineRead x0 s).srv = s.srv ∧ (scanFineRead x0 s).ctu = s.ctu ∧
    (scanFineRead x0 s).tpe = s.tpe ∧ (scanFineRead x0 s).tar = s.tar ∧ (scanFineRead x0 s).clk = s.clk ∧
    (scanFineRead x0 s).tsc = s.tsc ∧ (scanFineRead x0 s).pwr = s.pwr ∧ (scanFineRead x0 s).pins = s.pins ∧
    (scanFineRead x0 s).fresh = s.fresh ∧ (scanFineRead x0 s).pending = s.pending := by
  unfold scanFineRead; split <;> simp

@[simp] theorem scanStore_frame (x0 : Nat) (s : State) :
    (scanStore x0 s).mec = s.mec ∧ (scanStore x0 s).srv = s.srv ∧ (scanStore x0 s).ctu = s.ctu ∧
    (scanStore x0 s).tpe = s.tpe ∧ (scanStore x0 s).tar = s.tar ∧ (scanStore x0 s).clk = s.clk ∧
    (scanStore x0 s).tsc = s.tsc ∧ (scanStore x0 s).pwr = s.pwr ∧ (scanStore x0 s).pins = s.pins ∧
    (scanStore x0 s).fresh = s.fresh ∧ (scanStore x0 s).pending = s.pending := by
  simp only [scanStore, when, withActive, hostRequest, tableChange, sweepUp]; (repeat' split) <;> simp

@[simp] theorem scanPause_frame (s : State) :
    (scanPause s).mec = s.mec ∧ (scanPause s).srv = s.srv ∧ (scanPause s).ctu = s.ctu ∧ (scanPause s).tpe = s.tpe ∧
    (scanPause s).tar = s.tar ∧ (scanPause s).dld = s.dld ∧ (scanPause s).clk = s.clk ∧ (scanPause s).tsc = s.tsc ∧
    (scanPause s).pwr = s.pwr ∧ (scanPause s).pins = s.pins ∧ (scanPause s).reports = s.reports ∧
    (scanPause s).fresh = s.fresh ∧ (scanPause s).pending = s.pending := by
  simp [scanPause]

@[simp] theorem scanHoldRead_frame (s : State) :
    (scanHoldRead s).mec = s.mec ∧ (scanHoldRead s).srv = s.srv ∧ (scanHoldRead s).ctu = s.ctu ∧
    (scanHoldRead s).tpe = s.tpe ∧ (scanHoldRead s).tar = s.tar ∧ (scanHoldRead s).clk = s.clk ∧
    (scanHoldRead s).tsc = s.tsc ∧ (scanHoldRead s).pwr = s.pwr ∧ (scanHoldRead s).pins = s.pins ∧
    (scanHoldRead s).fresh = s.fresh ∧ (scanHoldRead s).pending = s.pending := by
  unfold scanHoldRead; dsimp only; (repeat' split) <;> simp

@[simp] theorem scanResume_frame (s : State) :
    (scanResume s).mec = s.mec ∧ (scanResume s).srv = s.srv ∧ (scanResume s).ctu = s.ctu ∧
    (scanResume s).tpe = s.tpe ∧ (scanResume s).tar = s.tar ∧ (scanResume s).clk = s.clk ∧
    (scanResume s).tsc = s.tsc ∧ (scanResume s).pwr = s.pwr ∧ (scanResume s).pins = s.pins ∧
    (scanResume s).fresh = s.fresh ∧ (scanResume s).pending = s.pending := by
  simp [scanResume]

@[simp] theorem tunerPowerDown_frame (s : State) :
    (tunerPowerDown s).mec = s.mec ∧ (tunerPowerDown s).srv = s.srv ∧ (tunerPowerDown s).ctu = s.ctu ∧
    (tunerPowerDown s).tpe = s.tpe ∧ (tunerPowerDown s).tar = s.tar ∧ (tunerPowerDown s).clk = s.clk ∧
    (tunerPowerDown s).tsc = s.tsc ∧ (tunerPowerDown s).pwr = s.pwr ∧ (tunerPowerDown s).pins = s.pins ∧
    (tunerPowerDown s).reports = s.reports ∧ (tunerPowerDown s).fresh = s.fresh ∧
    (tunerPowerDown s).pending = s.pending := by
  unfold tunerPowerDown; split <;> simp

/-! ### Arbiter -/

@[simp] theorem deckPowerUp_frame (s : State) :
    (deckPowerUp s).tun = s.tun ∧ (deckPowerUp s).tar = s.tar ∧ (deckPowerUp s).dld = s.dld ∧
    (deckPowerUp s).clk = s.clk ∧ (deckPowerUp s).tsc = s.tsc ∧ (deckPowerUp s).fresh = s.fresh ∧
    (deckPowerUp s).pending = s.pending := by
  unfold deckPowerUp; dsimp only; split <;> simp

@[simp] theorem setHolder_frame (x0 : Holder) (s : State) :
    (setHolder x0 s).mec = s.mec ∧ (setHolder x0 s).srv = s.srv ∧ (setHolder x0 s).ctu = s.ctu ∧
    (setHolder x0 s).tpe = s.tpe ∧ (setHolder x0 s).tun = s.tun ∧ (setHolder x0 s).dld = s.dld ∧
    (setHolder x0 s).clk = s.clk ∧ (setHolder x0 s).tsc = s.tsc ∧ (setHolder x0 s).pwr = s.pwr ∧
    (setHolder x0 s).pins = s.pins ∧ (setHolder x0 s).reports = s.reports ∧ (setHolder x0 s).fresh = s.fresh ∧
    (setHolder x0 s).pending = s.pending := by
  simp [setHolder]

@[simp] theorem completionPassed_frame (x0 : Bool) (s : State) :
    (completionPassed x0 s).mec = s.mec ∧ (completionPassed x0 s).srv = s.srv ∧
    (completionPassed x0 s).ctu = s.ctu ∧ (completionPassed x0 s).tpe = s.tpe ∧
    (completionPassed x0 s).tun = s.tun ∧ (completionPassed x0 s).tar = s.tar ∧
    (completionPassed x0 s).dld = s.dld ∧ (completionPassed x0 s).clk = s.clk ∧
    (completionPassed x0 s).tsc = s.tsc ∧ (completionPassed x0 s).pwr = s.pwr ∧
    (completionPassed x0 s).lnk = s.lnk ∧ (completionPassed x0 s).pins = s.pins ∧
    (completionPassed x0 s).fresh = s.fresh ∧ (completionPassed x0 s).pending = s.pending := by
  simp [completionPassed]

@[simp] theorem tuneOrder_frame (o : Order) (s : State) :
    (tuneOrder o s).2.mec = s.mec ∧ (tuneOrder o s).2.srv = s.srv ∧ (tuneOrder o s).2.ctu = s.ctu ∧
    (tuneOrder o s).2.tpe = s.tpe ∧ (tuneOrder o s).2.tar = s.tar ∧ (tuneOrder o s).2.clk = s.clk ∧
    (tuneOrder o s).2.tsc = s.tsc ∧ (tuneOrder o s).2.pwr = s.pwr ∧ (tuneOrder o s).2.pins = s.pins ∧
    (tuneOrder o s).2.reports = s.reports ∧ (tuneOrder o s).2.fresh = s.fresh ∧
    (tuneOrder o s).2.pending = s.pending := by
  unfold tuneOrder; (try dsimp only); (repeat' split) <;> simp

@[simp] theorem orderFor_frame (h : Holder) (o : Order) (s : State) :
    (orderFor h o s).2.mec = s.mec ∧
    (orderFor h o s).2.srv = s.srv ∧
    (orderFor h o s).2.ctu = s.ctu ∧
    (orderFor h o s).2.tpe = s.tpe ∧
    (orderFor h o s).2.clk = s.clk ∧
    (orderFor h o s).2.tsc = s.tsc ∧
    (orderFor h o s).2.pwr = s.pwr ∧
    (orderFor h o s).2.pins = s.pins ∧
    (orderFor h o s).2.fresh = s.fresh ∧
    (orderFor h o s).2.pending = s.pending := by
  unfold orderFor; dsimp only; split <;> simp [orderIs]

@[simp] theorem answerPassed_frame (x0 : TuneAnswer) (s : State) :
    (answerPassed x0 s).mec = s.mec ∧
    (answerPassed x0 s).srv = s.srv ∧
    (answerPassed x0 s).ctu = s.ctu ∧
    (answerPassed x0 s).tpe = s.tpe ∧
    (answerPassed x0 s).clk = s.clk ∧
    (answerPassed x0 s).tsc = s.tsc ∧
    (answerPassed x0 s).pwr = s.pwr ∧
    (answerPassed x0 s).pins = s.pins ∧
    (answerPassed x0 s).fresh = s.fresh ∧
    (answerPassed x0 s).pending = s.pending := by
  unfold answerPassed; split <;> simp

@[simp] theorem recordAnswer_frame (x0 : TuneAnswer) (s : State) :
    (recordAnswer x0 s).mec = s.mec ∧
    (recordAnswer x0 s).srv = s.srv ∧
    (recordAnswer x0 s).ctu = s.ctu ∧
    (recordAnswer x0 s).tpe = s.tpe ∧
    (recordAnswer x0 s).clk = s.clk ∧
    (recordAnswer x0 s).tsc = s.tsc ∧
    (recordAnswer x0 s).pwr = s.pwr ∧
    (recordAnswer x0 s).pins = s.pins ∧
    (recordAnswer x0 s).fresh = s.fresh ∧
    (recordAnswer x0 s).pending = s.pending := by
  simp [recordAnswer]

@[simp] theorem giveOrder_frame (h : Holder) (o : Order) (s : State) :
    (giveOrder h o s).2.mec = s.mec ∧ (giveOrder h o s).2.srv = s.srv ∧ (giveOrder h o s).2.ctu = s.ctu ∧
    (giveOrder h o s).2.tpe = s.tpe ∧ (giveOrder h o s).2.clk = s.clk ∧ (giveOrder h o s).2.tsc = s.tsc ∧
    (giveOrder h o s).2.pwr = s.pwr ∧ (giveOrder h o s).2.pins = s.pins ∧ (giveOrder h o s).2.fresh = s.fresh ∧
    (giveOrder h o s).2.pending = s.pending := by
  simp [giveOrder]

@[simp] theorem recordOrder_frame (x0 : Order) (s : State) :
    (recordOrder x0 s).mec = s.mec ∧ (recordOrder x0 s).srv = s.srv ∧ (recordOrder x0 s).ctu = s.ctu ∧
    (recordOrder x0 s).tpe = s.tpe ∧ (recordOrder x0 s).clk = s.clk ∧ (recordOrder x0 s).tsc = s.tsc ∧
    (recordOrder x0 s).pwr = s.pwr ∧ (recordOrder x0 s).pins = s.pins ∧ (recordOrder x0 s).fresh = s.fresh ∧
    (recordOrder x0 s).pending = s.pending := by
  simp [recordOrder]

@[simp] theorem grantView_frame (x0 : Channel) (s : State) :
    (grantView x0 s).mec = s.mec ∧ (grantView x0 s).srv = s.srv ∧ (grantView x0 s).ctu = s.ctu ∧
    (grantView x0 s).tpe = s.tpe ∧ (grantView x0 s).clk = s.clk ∧ (grantView x0 s).tsc = s.tsc ∧
    (grantView x0 s).pwr = s.pwr ∧ (grantView x0 s).pins = s.pins ∧ (grantView x0 s).fresh = s.fresh ∧
    (grantView x0 s).pending = s.pending := by
  simp [grantView]

@[simp] theorem grantScan_frame (x0 : Nat) (x1 : Bool) (s : State) :
    (grantScan x0 x1 s).mec = s.mec ∧ (grantScan x0 x1 s).srv = s.srv ∧ (grantScan x0 x1 s).ctu = s.ctu ∧
    (grantScan x0 x1 s).tpe = s.tpe ∧ (grantScan x0 x1 s).clk = s.clk ∧ (grantScan x0 x1 s).tsc = s.tsc ∧
    (grantScan x0 x1 s).pwr = s.pwr ∧ (grantScan x0 x1 s).pins = s.pins ∧ (grantScan x0 x1 s).reports = s.reports ∧
    (grantScan x0 x1 s).fresh = s.fresh ∧ (grantScan x0 x1 s).pending = s.pending := by
  simp [grantScan]

@[simp] theorem grantHostWait_frame (s : State) :
    (grantHostWait s).mec = s.mec ∧ (grantHostWait s).srv = s.srv ∧ (grantHostWait s).ctu = s.ctu ∧
    (grantHostWait s).tpe = s.tpe ∧ (grantHostWait s).clk = s.clk ∧ (grantHostWait s).tsc = s.tsc ∧
    (grantHostWait s).pwr = s.pwr ∧ (grantHostWait s).pins = s.pins ∧ (grantHostWait s).fresh = s.fresh ∧
    (grantHostWait s).pending = s.pending := by
  unfold grantHostWait; split <;> simp

@[simp] theorem refuseHostWait_frame (s : State) :
    (refuseHostWait s).mec = s.mec ∧ (refuseHostWait s).srv = s.srv ∧ (refuseHostWait s).ctu = s.ctu ∧
    (refuseHostWait s).tpe = s.tpe ∧ (refuseHostWait s).tun = s.tun ∧ (refuseHostWait s).dld = s.dld ∧
    (refuseHostWait s).clk = s.clk ∧ (refuseHostWait s).tsc = s.tsc ∧ (refuseHostWait s).pwr = s.pwr ∧
    (refuseHostWait s).pins = s.pins ∧ (refuseHostWait s).reports = s.reports ∧
    (refuseHostWait s).fresh = s.fresh ∧ (refuseHostWait s).pending = s.pending := by
  unfold refuseHostWait; split <;> simp

@[simp] theorem syncEnds_frame (x0 : SyncResult) (s : State) :
    (syncEnds x0 s).mec = s.mec ∧ (syncEnds x0 s).srv = s.srv ∧ (syncEnds x0 s).ctu = s.ctu ∧
    (syncEnds x0 s).tpe = s.tpe ∧ (syncEnds x0 s).tun = s.tun ∧ (syncEnds x0 s).dld = s.dld ∧
    (syncEnds x0 s).clk = s.clk ∧ (syncEnds x0 s).tsc = s.tsc ∧ (syncEnds x0 s).pwr = s.pwr ∧
    (syncEnds x0 s).lnk = s.lnk ∧ (syncEnds x0 s).pins = s.pins ∧ (syncEnds x0 s).fresh = s.fresh ∧
    (syncEnds x0 s).pending = s.pending := by
  simp [syncEnds]

@[simp] theorem tarEndsScan_frame (x0 : EndCause) (s : State) :
    (tarEndsScan x0 s).mec = s.mec ∧ (tarEndsScan x0 s).srv = s.srv ∧ (tarEndsScan x0 s).ctu = s.ctu ∧
    (tarEndsScan x0 s).tpe = s.tpe ∧ (tarEndsScan x0 s).tar = s.tar ∧ (tarEndsScan x0 s).dld = s.dld ∧
    (tarEndsScan x0 s).clk = s.clk ∧ (tarEndsScan x0 s).tsc = s.tsc ∧ (tarEndsScan x0 s).pwr = s.pwr ∧
    (tarEndsScan x0 s).pins = s.pins ∧ (tarEndsScan x0 s).reports = s.reports ∧
    (tarEndsScan x0 s).fresh = s.fresh ∧ (tarEndsScan x0 s).pending = s.pending := by
  unfold tarEndsScan; split <;> simp

@[simp] theorem recordTakes_frame (s : State) :
    (recordTakes s).mec = s.mec ∧ (recordTakes s).srv = s.srv ∧ (recordTakes s).ctu = s.ctu ∧
    (recordTakes s).tpe = s.tpe ∧ (recordTakes s).dld = s.dld ∧ (recordTakes s).clk = s.clk ∧
    (recordTakes s).tsc = s.tsc ∧ (recordTakes s).pwr = s.pwr ∧ (recordTakes s).pins = s.pins ∧
    (recordTakes s).fresh = s.fresh ∧ (recordTakes s).pending = s.pending := by
  unfold recordTakes; split <;> simp

@[simp] theorem viewRequest_frame (x0 : Channel) (s : State) :
    (viewRequest x0 s).mec = s.mec ∧ (viewRequest x0 s).srv = s.srv ∧ (viewRequest x0 s).ctu = s.ctu ∧
    (viewRequest x0 s).tpe = s.tpe ∧ (viewRequest x0 s).clk = s.clk ∧ (viewRequest x0 s).tsc = s.tsc ∧
    (viewRequest x0 s).pwr = s.pwr ∧ (viewRequest x0 s).pins = s.pins ∧ (viewRequest x0 s).fresh = s.fresh ∧
    (viewRequest x0 s).pending = s.pending := by
  simp only [viewRequest, hostRequest]; (repeat' split) <;> simp

@[simp] theorem scanRequest_frame (x0 : Nat) (x1 : Bool) (s : State) :
    (scanRequest x0 x1 s).mec = s.mec ∧ (scanRequest x0 x1 s).srv = s.srv ∧ (scanRequest x0 x1 s).ctu = s.ctu ∧
    (scanRequest x0 x1 s).tpe = s.tpe ∧ (scanRequest x0 x1 s).clk = s.clk ∧ (scanRequest x0 x1 s).tsc = s.tsc ∧
    (scanRequest x0 x1 s).pwr = s.pwr ∧ (scanRequest x0 x1 s).pins = s.pins ∧
    (scanRequest x0 x1 s).fresh = s.fresh ∧ (scanRequest x0 x1 s).pending = s.pending := by
  simp only [scanRequest, hostRequest]; (repeat' split) <;> simp

@[simp] theorem dropSync_frame (x0 : SyncResult) (s : State) :
    (dropSync x0 s).mec = s.mec ∧ (dropSync x0 s).srv = s.srv ∧ (dropSync x0 s).ctu = s.ctu ∧
    (dropSync x0 s).tpe = s.tpe ∧ (dropSync x0 s).clk = s.clk ∧ (dropSync x0 s).tsc = s.tsc ∧
    (dropSync x0 s).pwr = s.pwr ∧ (dropSync x0 s).pins = s.pins ∧ (dropSync x0 s).fresh = s.fresh ∧
    (dropSync x0 s).pending = s.pending := by
  unfold dropSync; (repeat' split) <;> simp

@[simp] theorem waitLimitReached_frame (s : State) :
    (waitLimitReached s).mec = s.mec ∧ (waitLimitReached s).srv = s.srv ∧ (waitLimitReached s).ctu = s.ctu ∧
    (waitLimitReached s).tpe = s.tpe ∧ (waitLimitReached s).tun = s.tun ∧ (waitLimitReached s).dld = s.dld ∧
    (waitLimitReached s).clk = s.clk ∧ (waitLimitReached s).tsc = s.tsc ∧ (waitLimitReached s).pwr = s.pwr ∧
    (waitLimitReached s).lnk = s.lnk ∧ (waitLimitReached s).pins = s.pins ∧ (waitLimitReached s).fresh = s.fresh ∧
    (waitLimitReached s).pending = s.pending := by
  unfold waitLimitReached when; (repeat' split) <;> simp

@[simp] theorem minimumHoldOver_frame (s : State) :
    (minimumHoldOver s).mec = s.mec ∧ (minimumHoldOver s).srv = s.srv ∧ (minimumHoldOver s).ctu = s.ctu ∧
    (minimumHoldOver s).tpe = s.tpe ∧ (minimumHoldOver s).clk = s.clk ∧ (minimumHoldOver s).tsc = s.tsc ∧
    (minimumHoldOver s).pwr = s.pwr ∧ (minimumHoldOver s).pins = s.pins ∧ (minimumHoldOver s).fresh = s.fresh ∧
    (minimumHoldOver s).pending = s.pending := by
  simp only [minimumHoldOver, when, withActive]; (repeat' split) <;> simp

@[simp] theorem abandonSync_frame (s : State) :
    (abandonSync s).mec = s.mec ∧ (abandonSync s).srv = s.srv ∧ (abandonSync s).ctu = s.ctu ∧
    (abandonSync s).tpe = s.tpe ∧ (abandonSync s).tun = s.tun ∧ (abandonSync s).dld = s.dld ∧
    (abandonSync s).clk = s.clk ∧ (abandonSync s).tsc = s.tsc ∧ (abandonSync s).pwr = s.pwr ∧
    (abandonSync s).lnk = s.lnk ∧ (abandonSync s).pins = s.pins ∧ (abandonSync s).fresh = s.fresh ∧
    (abandonSync s).pending = s.pending := by
  unfold abandonSync; split <;> simp

@[simp] theorem tarClear_frame (s : State) :
    (tarClear s).mec = s.mec ∧ (tarClear s).srv = s.srv ∧ (tarClear s).ctu = s.ctu ∧ (tarClear s).tpe = s.tpe ∧
    (tarClear s).tun = s.tun ∧ (tarClear s).dld = s.dld ∧ (tarClear s).clk = s.clk ∧ (tarClear s).tsc = s.tsc ∧
    (tarClear s).pwr = s.pwr ∧ (tarClear s).pins = s.pins ∧ (tarClear s).reports = s.reports ∧
    (tarClear s).fresh = s.fresh ∧ (tarClear s).pending = s.pending := by
  simp [tarClear]

@[simp] theorem tarRestart_frame (s : State) :
    (tarRestart s).mec = s.mec ∧ (tarRestart s).srv = s.srv ∧ (tarRestart s).ctu = s.ctu ∧
    (tarRestart s).tpe = s.tpe ∧ (tarRestart s).dld = s.dld ∧ (tarRestart s).clk = s.clk ∧
    (tarRestart s).tsc = s.tsc ∧ (tarRestart s).pwr = s.pwr ∧ (tarRestart s).pins = s.pins ∧
    (tarRestart s).fresh = s.fresh ∧ (tarRestart s).pending = s.pending := by
  simp [tarRestart]

@[simp] theorem tarBackup_frame (s : State) :
    (tarBackup s).mec = s.mec ∧ (tarBackup s).srv = s.srv ∧ (tarBackup s).ctu = s.ctu ∧ (tarBackup s).tpe = s.tpe ∧
    (tarBackup s).tun = s.tun ∧ (tarBackup s).dld = s.dld ∧ (tarBackup s).clk = s.clk ∧ (tarBackup s).tsc = s.tsc ∧
    (tarBackup s).pwr = s.pwr ∧ (tarBackup s).pins = s.pins ∧ (tarBackup s).fresh = s.fresh ∧
    (tarBackup s).pending = s.pending := by
  simp [tarBackup]

/-! ### Packets -/

@[simp] theorem takeTime_frame (x0 : List Nat) (s : State) :
    (takeTime x0 s).mec = s.mec ∧ (takeTime x0 s).srv = s.srv ∧ (takeTime x0 s).ctu = s.ctu ∧
    (takeTime x0 s).tpe = s.tpe ∧ (takeTime x0 s).tun = s.tun ∧ (takeTime x0 s).tar = s.tar ∧
    (takeTime x0 s).clk = s.clk ∧ (takeTime x0 s).tsc = s.tsc ∧ (takeTime x0 s).pwr = s.pwr ∧
    (takeTime x0 s).pins = s.pins ∧ (takeTime x0 s).fresh = s.fresh ∧ (takeTime x0 s).pending = s.pending := by
  unfold takeTime; dsimp only; (repeat' split) <;> simp

@[simp] theorem takeLabel_frame (x0 : List Nat) (s : State) :
    (takeLabel x0 s).mec = s.mec ∧ (takeLabel x0 s).srv = s.srv ∧ (takeLabel x0 s).ctu = s.ctu ∧
    (takeLabel x0 s).tpe = s.tpe ∧ (takeLabel x0 s).tar = s.tar ∧ (takeLabel x0 s).clk = s.clk ∧
    (takeLabel x0 s).tsc = s.tsc ∧ (takeLabel x0 s).pwr = s.pwr ∧ (takeLabel x0 s).pins = s.pins ∧
    (takeLabel x0 s).fresh = s.fresh ∧ (takeLabel x0 s).pending = s.pending := by
  simp [takeLabel]

@[simp] theorem takeName_frame (x0 : List Nat) (s : State) :
    (takeName x0 s).mec = s.mec ∧ (takeName x0 s).srv = s.srv ∧ (takeName x0 s).ctu = s.ctu ∧
    (takeName x0 s).tpe = s.tpe ∧ (takeName x0 s).tar = s.tar ∧ (takeName x0 s).clk = s.clk ∧
    (takeName x0 s).tsc = s.tsc ∧ (takeName x0 s).pwr = s.pwr ∧ (takeName x0 s).pins = s.pins ∧
    (takeName x0 s).reports = s.reports ∧ (takeName x0 s).fresh = s.fresh ∧ (takeName x0 s).pending = s.pending := by
  unfold takeName; dsimp only; split <;> simp

@[simp] theorem takePacket_frame (x0 : List Byte) (s : State) :
    (takePacket x0 s).mec = s.mec ∧ (takePacket x0 s).srv = s.srv ∧ (takePacket x0 s).ctu = s.ctu ∧
    (takePacket x0 s).tpe = s.tpe ∧ (takePacket x0 s).tar = s.tar ∧ (takePacket x0 s).clk = s.clk ∧
    (takePacket x0 s).tsc = s.tsc ∧ (takePacket x0 s).pwr = s.pwr ∧ (takePacket x0 s).pins = s.pins ∧
    (takePacket x0 s).fresh = s.fresh ∧ (takePacket x0 s).pending = s.pending := by
  unfold takePacket; dsimp only; (repeat' split) <;> simp

@[simp] theorem packetArrives_frame (x0 : List Byte) (s : State) :
    (packetArrives x0 s).mec = s.mec ∧ (packetArrives x0 s).srv = s.srv ∧ (packetArrives x0 s).ctu = s.ctu ∧
    (packetArrives x0 s).tpe = s.tpe ∧ (packetArrives x0 s).tar = s.tar ∧ (packetArrives x0 s).clk = s.clk ∧
    (packetArrives x0 s).tsc = s.tsc ∧ (packetArrives x0 s).pwr = s.pwr ∧ (packetArrives x0 s).pins = s.pins ∧
    (packetArrives x0 s).fresh = s.fresh ∧ (packetArrives x0 s).pending = s.pending := by
  unfold packetArrives when; (repeat' split) <;> simp

/-! ### Clock -/

@[simp] theorem clockChanged_frame (s : State) :
    (clockChanged s).mec = s.mec ∧ (clockChanged s).srv = s.srv ∧ (clockChanged s).ctu = s.ctu ∧
    (clockChanged s).tpe = s.tpe ∧ (clockChanged s).tun = s.tun ∧ (clockChanged s).tar = s.tar ∧
    (clockChanged s).dld = s.dld ∧ (clockChanged s).tsc = s.tsc ∧ (clockChanged s).pwr = s.pwr ∧
    (clockChanged s).lnk = s.lnk ∧ (clockChanged s).pins = s.pins ∧ (clockChanged s).reports = s.reports ∧
    (clockChanged s).fresh = s.fresh ∧ (clockChanged s).pending = s.pending := by
  simp [clockChanged]

@[simp] theorem clockReport_frame (x0 : ClockKind) (x1 : ClockState) (x2 : Int) (s : State) :
    (clockReport x0 x1 x2 s).mec = s.mec ∧ (clockReport x0 x1 x2 s).srv = s.srv ∧
    (clockReport x0 x1 x2 s).ctu = s.ctu ∧ (clockReport x0 x1 x2 s).tpe = s.tpe ∧
    (clockReport x0 x1 x2 s).tun = s.tun ∧ (clockReport x0 x1 x2 s).tar = s.tar ∧
    (clockReport x0 x1 x2 s).dld = s.dld ∧ (clockReport x0 x1 x2 s).tsc = s.tsc ∧ (clockReport x0 x1 x2 s).pwr = s.pwr ∧
    (clockReport x0 x1 x2 s).pins = s.pins ∧ (clockReport x0 x1 x2 s).fresh = s.fresh ∧
    (clockReport x0 x1 x2 s).pending = s.pending := by
  unfold clockReport; split <;> simp

/-- A clock report changes no field of the clock, but in BACKUP it is recorded that a change occurred (R129, R141). -/
@[simp] theorem clockReport_clk (x0 : ClockKind) (x1 : ClockState) (x2 : Int) (s : State) :
    (clockReport x0 x1 x2 s).clk =
      if s.pwr.mode = .backup then { s.clk with changed := true } else s.clk := by
  unfold clockReport; split <;> simp [clockChanged]

@[simp] theorem stateMoved_frame (x0 : ClockState) (s : State) :
    (stateMoved x0 s).mec = s.mec ∧ (stateMoved x0 s).srv = s.srv ∧ (stateMoved x0 s).ctu = s.ctu ∧
    (stateMoved x0 s).tpe = s.tpe ∧ (stateMoved x0 s).tun = s.tun ∧ (stateMoved x0 s).tar = s.tar ∧
    (stateMoved x0 s).dld = s.dld ∧ (stateMoved x0 s).clk = s.clk ∧ (stateMoved x0 s).tsc = s.tsc ∧
    (stateMoved x0 s).pwr = s.pwr ∧ (stateMoved x0 s).lnk = s.lnk ∧ (stateMoved x0 s).pins = s.pins ∧
    (stateMoved x0 s).fresh = s.fresh ∧ (stateMoved x0 s).pending = s.pending := by
  simp [stateMoved]

@[simp] theorem syncGranted_frame (s : State) :
    (syncGranted s).mec = s.mec ∧ (syncGranted s).srv = s.srv ∧ (syncGranted s).ctu = s.ctu ∧
    (syncGranted s).tpe = s.tpe ∧ (syncGranted s).tun = s.tun ∧ (syncGranted s).tar = s.tar ∧
    (syncGranted s).dld = s.dld ∧ (syncGranted s).tsc = s.tsc ∧ (syncGranted s).pwr = s.pwr ∧
    (syncGranted s).lnk = s.lnk ∧ (syncGranted s).pins = s.pins ∧ (syncGranted s).reports = s.reports ∧
    (syncGranted s).fresh = s.fresh ∧ (syncGranted s).pending = s.pending := by
  unfold syncGranted; split <;> simp

@[simp] theorem requestOver_frame (x0 : SyncResult) (s : State) :
    (requestOver x0 s).mec = s.mec ∧ (requestOver x0 s).srv = s.srv ∧ (requestOver x0 s).ctu = s.ctu ∧
    (requestOver x0 s).tpe = s.tpe ∧ (requestOver x0 s).tun = s.tun ∧ (requestOver x0 s).tar = s.tar ∧
    (requestOver x0 s).dld = s.dld ∧ (requestOver x0 s).tsc = s.tsc ∧ (requestOver x0 s).pwr = s.pwr ∧
    (requestOver x0 s).pins = s.pins ∧ (requestOver x0 s).reports = s.reports ∧
    (requestOver x0 s).fresh = s.fresh ∧ (requestOver x0 s).pending = s.pending := by
  simp [requestOver]

@[simp] theorem syncFailed_frame (x0 : SyncResult) (s : State) :
    (syncFailed x0 s).mec = s.mec ∧ (syncFailed x0 s).srv = s.srv ∧ (syncFailed x0 s).ctu = s.ctu ∧
    (syncFailed x0 s).tpe = s.tpe ∧ (syncFailed x0 s).tun = s.tun ∧ (syncFailed x0 s).tar = s.tar ∧
    (syncFailed x0 s).dld = s.dld ∧ (syncFailed x0 s).tsc = s.tsc ∧ (syncFailed x0 s).pwr = s.pwr ∧
    (syncFailed x0 s).pins = s.pins ∧ (syncFailed x0 s).reports = s.reports ∧ (syncFailed x0 s).fresh = s.fresh ∧
    (syncFailed x0 s).pending = s.pending := by
  simp [syncFailed]

@[simp] theorem withdrawRequest_frame (s : State) :
    (withdrawRequest s).mec = s.mec ∧ (withdrawRequest s).srv = s.srv ∧ (withdrawRequest s).ctu = s.ctu ∧
    (withdrawRequest s).tpe = s.tpe ∧ (withdrawRequest s).tsc = s.tsc ∧ (withdrawRequest s).pwr = s.pwr ∧
    (withdrawRequest s).pins = s.pins ∧ (withdrawRequest s).fresh = s.fresh ∧
    (withdrawRequest s).pending = s.pending := by
  unfold withdrawRequest; split <;> simp

@[simp] theorem setSummer_frame (x0 : Summer) (x1 : Int) (s : State) :
    (setSummer x0 x1 s).mec = s.mec ∧ (setSummer x0 x1 s).srv = s.srv ∧ (setSummer x0 x1 s).ctu = s.ctu ∧
    (setSummer x0 x1 s).tpe = s.tpe ∧ (setSummer x0 x1 s).tun = s.tun ∧ (setSummer x0 x1 s).tar = s.tar ∧
    (setSummer x0 x1 s).dld = s.dld ∧ (setSummer x0 x1 s).tsc = s.tsc ∧ (setSummer x0 x1 s).pwr = s.pwr ∧
    (setSummer x0 x1 s).pins = s.pins ∧ (setSummer x0 x1 s).reports = s.reports ∧
    (setSummer x0 x1 s).fresh = s.fresh ∧ (setSummer x0 x1 s).pending = s.pending := by
  unfold setSummer; dsimp only; split <;> simp

@[simp] theorem evaluateReading_frame (s : State) :
    (evaluateReading s).mec = s.mec ∧ (evaluateReading s).srv = s.srv ∧ (evaluateReading s).ctu = s.ctu ∧
    (evaluateReading s).tpe = s.tpe ∧ (evaluateReading s).tun = s.tun ∧ (evaluateReading s).tar = s.tar ∧
    (evaluateReading s).dld = s.dld ∧ (evaluateReading s).tsc = s.tsc ∧ (evaluateReading s).pwr = s.pwr ∧
    (evaluateReading s).pins = s.pins ∧ (evaluateReading s).reports = s.reports ∧
    (evaluateReading s).fresh = s.fresh ∧ (evaluateReading s).pending = s.pending := by
  unfold evaluateReading; split <;> simp

@[simp] theorem remainingSecond_frame (s : State) :
    (remainingSecond s).mec = s.mec ∧ (remainingSecond s).srv = s.srv ∧ (remainingSecond s).ctu = s.ctu ∧
    (remainingSecond s).tpe = s.tpe ∧ (remainingSecond s).tun = s.tun ∧ (remainingSecond s).tar = s.tar ∧
    (remainingSecond s).dld = s.dld ∧ (remainingSecond s).clk = s.clk ∧ (remainingSecond s).pwr = s.pwr ∧
    (remainingSecond s).lnk = s.lnk ∧ (remainingSecond s).pins = s.pins ∧ (remainingSecond s).reports = s.reports ∧
    (remainingSecond s).fresh = s.fresh ∧ (remainingSecond s).pending = s.pending := by
  unfold remainingSecond; split <;> simp

@[simp] theorem clockWraps_frame (s : State) :
    (clockWraps s).mec = s.mec ∧ (clockWraps s).srv = s.srv ∧ (clockWraps s).ctu = s.ctu ∧
    (clockWraps s).tpe = s.tpe ∧ (clockWraps s).tun = s.tun ∧ (clockWraps s).tar = s.tar ∧
    (clockWraps s).dld = s.dld ∧ (clockWraps s).tsc = s.tsc ∧ (clockWraps s).pwr = s.pwr ∧
    (clockWraps s).pins = s.pins ∧ (clockWraps s).fresh = s.fresh ∧ (clockWraps s).pending = s.pending := by
  simp [clockWraps]

@[simp] theorem setReading_frame (x0 : Nat) (s : State) :
    (setReading x0 s).mec = s.mec ∧ (setReading x0 s).srv = s.srv ∧ (setReading x0 s).ctu = s.ctu ∧
    (setReading x0 s).tpe = s.tpe ∧ (setReading x0 s).tun = s.tun ∧ (setReading x0 s).tar = s.tar ∧
    (setReading x0 s).dld = s.dld ∧ (setReading x0 s).tsc = s.tsc ∧ (setReading x0 s).pwr = s.pwr ∧
    (setReading x0 s).lnk = s.lnk ∧ (setReading x0 s).pins = s.pins ∧ (setReading x0 s).reports = s.reports ∧
    (setReading x0 s).fresh = s.fresh ∧ (setReading x0 s).pending = s.pending := by
  simp [setReading]

@[simp] theorem summerMoves_frame (x0 : Summer) (x1 : Int) (s : State) :
    (summerMoves x0 x1 s).mec = s.mec ∧ (summerMoves x0 x1 s).srv = s.srv ∧ (summerMoves x0 x1 s).ctu = s.ctu ∧
    (summerMoves x0 x1 s).tpe = s.tpe ∧ (summerMoves x0 x1 s).tun = s.tun ∧ (summerMoves x0 x1 s).tar = s.tar ∧
    (summerMoves x0 x1 s).dld = s.dld ∧ (summerMoves x0 x1 s).tsc = s.tsc ∧ (summerMoves x0 x1 s).pwr = s.pwr ∧
    (summerMoves x0 x1 s).pins = s.pins ∧ (summerMoves x0 x1 s).reports = s.reports ∧
    (summerMoves x0 x1 s).fresh = s.fresh ∧ (summerMoves x0 x1 s).pending = s.pending := by
  simp [summerMoves]

@[simp] theorem advanceSecond_frame (s : State) :
    (advanceSecond s).mec = s.mec ∧ (advanceSecond s).srv = s.srv ∧ (advanceSecond s).ctu = s.ctu ∧
    (advanceSecond s).tpe = s.tpe ∧ (advanceSecond s).tun = s.tun ∧ (advanceSecond s).tar = s.tar ∧
    (advanceSecond s).dld = s.dld ∧ (advanceSecond s).pwr = s.pwr ∧ (advanceSecond s).pins = s.pins ∧
    (advanceSecond s).fresh = s.fresh ∧ (advanceSecond s).pending = s.pending := by
  unfold advanceSecond; dsimp only; (repeat' split) <;> simp

@[simp] theorem visitMinute_frame (s : State) :
    (visitMinute s).mec = s.mec ∧ (visitMinute s).srv = s.srv ∧ (visitMinute s).ctu = s.ctu ∧
    (visitMinute s).tpe = s.tpe ∧ (visitMinute s).tun = s.tun ∧ (visitMinute s).tar = s.tar ∧
    (visitMinute s).dld = s.dld ∧ (visitMinute s).tsc = s.tsc ∧ (visitMinute s).pwr = s.pwr ∧
    (visitMinute s).lnk = s.lnk ∧ (visitMinute s).pins = s.pins ∧ (visitMinute s).fresh = s.fresh ∧
    (visitMinute s).pending = s.pending := by
  unfold visitMinute; split <;> simp

@[simp] theorem agesPass_frame (x0 : Nat) (s : State) :
    (agesPass x0 s).mec = s.mec ∧ (agesPass x0 s).srv = s.srv ∧ (agesPass x0 s).ctu = s.ctu ∧
    (agesPass x0 s).tpe = s.tpe ∧ (agesPass x0 s).tun = s.tun ∧ (agesPass x0 s).tar = s.tar ∧
    (agesPass x0 s).dld = s.dld ∧ (agesPass x0 s).tsc = s.tsc ∧ (agesPass x0 s).pwr = s.pwr ∧
    (agesPass x0 s).lnk = s.lnk ∧ (agesPass x0 s).pins = s.pins ∧ (agesPass x0 s).fresh = s.fresh ∧
    (agesPass x0 s).pending = s.pending := by
  unfold agesPass; dsimp only; (repeat' split) <;> simp

@[simp] theorem clockTicks_frame (s : State) :
    (clockTicks s).mec = s.mec ∧ (clockTicks s).srv = s.srv ∧ (clockTicks s).ctu = s.ctu ∧
    (clockTicks s).tpe = s.tpe ∧ (clockTicks s).tun = s.tun ∧ (clockTicks s).tar = s.tar ∧
    (clockTicks s).dld = s.dld ∧ (clockTicks s).pwr = s.pwr ∧ (clockTicks s).pins = s.pins ∧
    (clockTicks s).fresh = s.fresh ∧ (clockTicks s).pending = s.pending := by
  unfold clockTicks; dsimp only; split <;> simp

@[simp] theorem clockSecond_frame (s : State) :
    (clockSecond s).mec = s.mec ∧ (clockSecond s).srv = s.srv ∧ (clockSecond s).ctu = s.ctu ∧
    (clockSecond s).tpe = s.tpe ∧ (clockSecond s).tun = s.tun ∧ (clockSecond s).tar = s.tar ∧
    (clockSecond s).dld = s.dld ∧ (clockSecond s).pwr = s.pwr ∧ (clockSecond s).pins = s.pins ∧
    (clockSecond s).fresh = s.fresh ∧ (clockSecond s).pending = s.pending := by
  simp [clockSecond]

@[simp] theorem setTime_frame (x0 : DateTime) (s : State) :
    (setTime x0 s).mec = s.mec ∧ (setTime x0 s).srv = s.srv ∧ (setTime x0 s).ctu = s.ctu ∧
    (setTime x0 s).tpe = s.tpe ∧ (setTime x0 s).tun = s.tun ∧ (setTime x0 s).tar = s.tar ∧
    (setTime x0 s).dld = s.dld ∧ (setTime x0 s).tsc = s.tsc ∧ (setTime x0 s).pwr = s.pwr ∧
    (setTime x0 s).pins = s.pins ∧ (setTime x0 s).fresh = s.fresh ∧ (setTime x0 s).pending = s.pending := by
  simp [setTime]

@[simp] theorem zoneMoves_frame (x0 : Int) (s : State) :
    (zoneMoves x0 s).mec = s.mec ∧ (zoneMoves x0 s).srv = s.srv ∧ (zoneMoves x0 s).ctu = s.ctu ∧
    (zoneMoves x0 s).tpe = s.tpe ∧ (zoneMoves x0 s).tun = s.tun ∧ (zoneMoves x0 s).tar = s.tar ∧
    (zoneMoves x0 s).dld = s.dld ∧ (zoneMoves x0 s).tsc = s.tsc ∧ (zoneMoves x0 s).pwr = s.pwr ∧
    (zoneMoves x0 s).pins = s.pins ∧ (zoneMoves x0 s).fresh = s.fresh ∧ (zoneMoves x0 s).pending = s.pending := by
  unfold zoneMoves; dsimp only; (repeat' split) <;> simp

@[simp] theorem setZone_frame (x0 : Int) (x1 : OffsetSource) (x2 : Option SummerRule) (s : State) :
    (setZone x0 x1 x2 s).mec = s.mec ∧ (setZone x0 x1 x2 s).srv = s.srv ∧ (setZone x0 x1 x2 s).ctu = s.ctu ∧
    (setZone x0 x1 x2 s).tpe = s.tpe ∧ (setZone x0 x1 x2 s).tun = s.tun ∧ (setZone x0 x1 x2 s).tar = s.tar ∧
    (setZone x0 x1 x2 s).dld = s.dld ∧ (setZone x0 x1 x2 s).tsc = s.tsc ∧ (setZone x0 x1 x2 s).pwr = s.pwr ∧
    (setZone x0 x1 x2 s).pins = s.pins ∧ (setZone x0 x1 x2 s).fresh = s.fresh ∧
    (setZone x0 x1 x2 s).pending = s.pending := by
  unfold setZone; dsimp only; split <;> simp

@[simp] theorem visitConcluded_frame (s : State) :
    (visitConcluded s).mec = s.mec ∧ (visitConcluded s).srv = s.srv ∧ (visitConcluded s).ctu = s.ctu ∧
    (visitConcluded s).tpe = s.tpe ∧ (visitConcluded s).tsc = s.tsc ∧ (visitConcluded s).pwr = s.pwr ∧
    (visitConcluded s).pins = s.pins ∧ (visitConcluded s).fresh = s.fresh ∧ (visitConcluded s).pending = s.pending := by
  unfold visitConcluded; dsimp only; split <;> simp

@[simp] theorem syncDisagrees_frame (s : State) :
    (syncDisagrees s).mec = s.mec ∧ (syncDisagrees s).srv = s.srv ∧ (syncDisagrees s).ctu = s.ctu ∧
    (syncDisagrees s).tpe = s.tpe ∧ (syncDisagrees s).tsc = s.tsc ∧ (syncDisagrees s).pwr = s.pwr ∧
    (syncDisagrees s).pins = s.pins ∧ (syncDisagrees s).fresh = s.fresh ∧ (syncDisagrees s).pending = s.pending := by
  simp [syncDisagrees]

@[simp] theorem applyReading_frame (x0 : Nat) (x1 : Summer) (x2 : Int) (s : State) :
    (applyReading x0 x1 x2 s).mec = s.mec ∧ (applyReading x0 x1 x2 s).srv = s.srv ∧
    (applyReading x0 x1 x2 s).ctu = s.ctu ∧ (applyReading x0 x1 x2 s).tpe = s.tpe ∧
    (applyReading x0 x1 x2 s).tsc = s.tsc ∧ (applyReading x0 x1 x2 s).pwr = s.pwr ∧
    (applyReading x0 x1 x2 s).pins = s.pins ∧ (applyReading x0 x1 x2 s).fresh = s.fresh ∧
    (applyReading x0 x1 x2 s).pending = s.pending := by
  unfold applyReading; dsimp only; (repeat' split) <;> simp

@[simp] theorem validated_frame (x0 : Nat) (x1 : Int) (x2 : Bool) (s : State) :
    (validated x0 x1 x2 s).mec = s.mec ∧ (validated x0 x1 x2 s).srv = s.srv ∧ (validated x0 x1 x2 s).ctu = s.ctu ∧
    (validated x0 x1 x2 s).tpe = s.tpe ∧ (validated x0 x1 x2 s).tsc = s.tsc ∧ (validated x0 x1 x2 s).pwr = s.pwr ∧
    (validated x0 x1 x2 s).pins = s.pins ∧ (validated x0 x1 x2 s).fresh = s.fresh ∧
    (validated x0 x1 x2 s).pending = s.pending := by
  unfold validated; dsimp only; (repeat' split) <;> simp

@[simp] theorem timePacketTaken_frame (x0 : Nat) (x1 : Int) (x2 : Bool) (x3 : Bool) (s : State) :
    (timePacketTaken x0 x1 x2 x3 s).mec = s.mec ∧ (timePacketTaken x0 x1 x2 x3 s).srv = s.srv ∧
    (timePacketTaken x0 x1 x2 x3 s).ctu = s.ctu ∧ (timePacketTaken x0 x1 x2 x3 s).tpe = s.tpe ∧
    (timePacketTaken x0 x1 x2 x3 s).tsc = s.tsc ∧ (timePacketTaken x0 x1 x2 x3 s).pwr = s.pwr ∧
    (timePacketTaken x0 x1 x2 x3 s).pins = s.pins ∧ (timePacketTaken x0 x1 x2 x3 s).fresh = s.fresh ∧
    (timePacketTaken x0 x1 x2 x3 s).pending = s.pending := by
  unfold timePacketTaken; (repeat' split) <;> simp

@[simp] theorem candidateExpires_frame (s : State) :
    (candidateExpires s).mec = s.mec ∧ (candidateExpires s).srv = s.srv ∧ (candidateExpires s).ctu = s.ctu ∧
    (candidateExpires s).tpe = s.tpe ∧ (candidateExpires s).tun = s.tun ∧ (candidateExpires s).tar = s.tar ∧
    (candidateExpires s).dld = s.dld ∧ (candidateExpires s).tsc = s.tsc ∧ (candidateExpires s).pwr = s.pwr ∧
    (candidateExpires s).lnk = s.lnk ∧ (candidateExpires s).pins = s.pins ∧
    (candidateExpires s).reports = s.reports ∧ (candidateExpires s).fresh = s.fresh ∧
    (candidateExpires s).pending = s.pending := by
  simp [candidateExpires]

@[simp] theorem visitAgeReached_frame (s : State) :
    (visitAgeReached s).mec = s.mec ∧ (visitAgeReached s).srv = s.srv ∧ (visitAgeReached s).ctu = s.ctu ∧
    (visitAgeReached s).tpe = s.tpe ∧ (visitAgeReached s).tun = s.tun ∧ (visitAgeReached s).tar = s.tar ∧
    (visitAgeReached s).dld = s.dld ∧ (visitAgeReached s).tsc = s.tsc ∧ (visitAgeReached s).pwr = s.pwr ∧
    (visitAgeReached s).lnk = s.lnk ∧ (visitAgeReached s).pins = s.pins ∧ (visitAgeReached s).fresh = s.fresh ∧
    (visitAgeReached s).pending = s.pending := by
  unfold visitAgeReached; (repeat' split) <;> simp

@[simp] theorem retryExpires_frame (s : State) :
    (retryExpires s).mec = s.mec ∧ (retryExpires s).srv = s.srv ∧ (retryExpires s).ctu = s.ctu ∧
    (retryExpires s).tpe = s.tpe ∧ (retryExpires s).tun = s.tun ∧ (retryExpires s).tar = s.tar ∧
    (retryExpires s).dld = s.dld ∧ (retryExpires s).tsc = s.tsc ∧ (retryExpires s).pwr = s.pwr ∧
    (retryExpires s).lnk = s.lnk ∧ (retryExpires s).pins = s.pins ∧ (retryExpires s).fresh = s.fresh ∧
    (retryExpires s).pending = s.pending := by
  unfold retryExpires when; (repeat' split) <;> simp

@[simp] theorem clkDropCandidate_frame (s : State) :
    (clkDropCandidate s).mec = s.mec ∧ (clkDropCandidate s).srv = s.srv ∧ (clkDropCandidate s).ctu = s.ctu ∧
    (clkDropCandidate s).tpe = s.tpe ∧ (clkDropCandidate s).tun = s.tun ∧ (clkDropCandidate s).tar = s.tar ∧
    (clkDropCandidate s).dld = s.dld ∧ (clkDropCandidate s).tsc = s.tsc ∧ (clkDropCandidate s).pwr = s.pwr ∧
    (clkDropCandidate s).lnk = s.lnk ∧ (clkDropCandidate s).pins = s.pins ∧
    (clkDropCandidate s).reports = s.reports ∧ (clkDropCandidate s).fresh = s.fresh ∧
    (clkDropCandidate s).pending = s.pending := by
  simp [clkDropCandidate]

@[simp] theorem clkResume_frame (s : State) :
    (clkResume s).mec = s.mec ∧ (clkResume s).srv = s.srv ∧ (clkResume s).ctu = s.ctu ∧ (clkResume s).tpe = s.tpe ∧
    (clkResume s).tun = s.tun ∧ (clkResume s).tar = s.tar ∧ (clkResume s).dld = s.dld ∧
    (clkResume s).tsc = s.tsc ∧ (clkResume s).pwr = s.pwr ∧ (clkResume s).pins = s.pins ∧
    (clkResume s).fresh = s.fresh ∧ (clkResume s).pending = s.pending := by
  simp [clkResume]

/-! ### Plan -/

@[simp] theorem mapSlot_frame (x0 : Nat) (x1 : Slot → Slot) (s : State) :
    (mapSlot x0 x1 s).mec = s.mec ∧ (mapSlot x0 x1 s).srv = s.srv ∧ (mapSlot x0 x1 s).ctu = s.ctu ∧
    (mapSlot x0 x1 s).tpe = s.tpe ∧ (mapSlot x0 x1 s).tun = s.tun ∧ (mapSlot x0 x1 s).tar = s.tar ∧
    (mapSlot x0 x1 s).dld = s.dld ∧ (mapSlot x0 x1 s).clk = s.clk ∧ (mapSlot x0 x1 s).pwr = s.pwr ∧
    (mapSlot x0 x1 s).lnk = s.lnk ∧ (mapSlot x0 x1 s).pins = s.pins ∧ (mapSlot x0 x1 s).reports = s.reports ∧
    (mapSlot x0 x1 s).fresh = s.fresh ∧ (mapSlot x0 x1 s).pending = s.pending := by
  simp [mapSlot]

@[simp] theorem mapEntry_frame (x0 : Nat) (x1 : Nat) (x2 : PlanEntry → PlanEntry) (s : State) :
    (mapEntry x0 x1 x2 s).mec = s.mec ∧ (mapEntry x0 x1 x2 s).srv = s.srv ∧ (mapEntry x0 x1 x2 s).ctu = s.ctu ∧
    (mapEntry x0 x1 x2 s).tpe = s.tpe ∧ (mapEntry x0 x1 x2 s).tun = s.tun ∧ (mapEntry x0 x1 x2 s).tar = s.tar ∧
    (mapEntry x0 x1 x2 s).dld = s.dld ∧ (mapEntry x0 x1 x2 s).clk = s.clk ∧ (mapEntry x0 x1 x2 s).pwr = s.pwr ∧
    (mapEntry x0 x1 x2 s).lnk = s.lnk ∧ (mapEntry x0 x1 x2 s).pins = s.pins ∧
    (mapEntry x0 x1 x2 s).reports = s.reports ∧ (mapEntry x0 x1 x2 s).fresh = s.fresh ∧
    (mapEntry x0 x1 x2 s).pending = s.pending := by
  simp [mapEntry]

/-! ### Occurrence -/

@[simp] theorem startReturn_frame (s : State) :
    (startReturn s).mec = s.mec ∧ (startReturn s).srv = s.srv ∧ (startReturn s).ctu = s.ctu ∧
    (startReturn s).tpe = s.tpe ∧ (startReturn s).tun = s.tun ∧ (startReturn s).tar = s.tar ∧
    (startReturn s).dld = s.dld ∧ (startReturn s).clk = s.clk ∧ (startReturn s).tsc = s.tsc ∧
    (startReturn s).lnk = s.lnk ∧ (startReturn s).pins = s.pins ∧ (startReturn s).reports = s.reports ∧
    (startReturn s).fresh = s.fresh ∧ (startReturn s).pending = s.pending := by
  unfold startReturn; split <;> simp

@[simp] theorem writeResult_frame (x0 : Nat) (x1 : Result) (s : State) :
    (writeResult x0 x1 s).mec = s.mec ∧ (writeResult x0 x1 s).srv = s.srv ∧ (writeResult x0 x1 s).ctu = s.ctu ∧
    (writeResult x0 x1 s).tpe = s.tpe ∧ (writeResult x0 x1 s).tun = s.tun ∧ (writeResult x0 x1 s).tar = s.tar ∧
    (writeResult x0 x1 s).dld = s.dld ∧ (writeResult x0 x1 s).clk = s.clk ∧ (writeResult x0 x1 s).pwr = s.pwr ∧
    (writeResult x0 x1 s).pins = s.pins ∧ (writeResult x0 x1 s).reports = s.reports ∧
    (writeResult x0 x1 s).fresh = s.fresh ∧ (writeResult x0 x1 s).pending = s.pending := by
  unfold writeResult; (repeat' split) <;> simp

@[simp] theorem mapActive_frame (x0 : Active → Active) (s : State) :
    (mapActive x0 s).mec = s.mec ∧ (mapActive x0 s).srv = s.srv ∧ (mapActive x0 s).ctu = s.ctu ∧
    (mapActive x0 s).tpe = s.tpe ∧ (mapActive x0 s).tun = s.tun ∧ (mapActive x0 s).tar = s.tar ∧
    (mapActive x0 s).dld = s.dld ∧ (mapActive x0 s).clk = s.clk ∧ (mapActive x0 s).pwr = s.pwr ∧
    (mapActive x0 s).lnk = s.lnk ∧ (mapActive x0 s).pins = s.pins ∧ (mapActive x0 s).reports = s.reports ∧
    (mapActive x0 s).fresh = s.fresh ∧ (mapActive x0 s).pending = s.pending := by
  simp [mapActive]

@[simp] theorem setOccState_frame (x0 : OccState) (s : State) :
    (setOccState x0 s).mec = s.mec ∧ (setOccState x0 s).srv = s.srv ∧ (setOccState x0 s).ctu = s.ctu ∧
    (setOccState x0 s).tpe = s.tpe ∧ (setOccState x0 s).tun = s.tun ∧ (setOccState x0 s).tar = s.tar ∧
    (setOccState x0 s).dld = s.dld ∧ (setOccState x0 s).clk = s.clk ∧ (setOccState x0 s).pwr = s.pwr ∧
    (setOccState x0 s).pins = s.pins ∧ (setOccState x0 s).reports = s.reports ∧
    (setOccState x0 s).fresh = s.fresh ∧ (setOccState x0 s).pending = s.pending := by
  unfold setOccState; split <;> simp

@[simp] theorem preempt_frame (s : State) :
    (preempt s).mec = s.mec ∧ (preempt s).srv = s.srv ∧ (preempt s).ctu = s.ctu ∧ (preempt s).tpe = s.tpe ∧
    (preempt s).tun = s.tun ∧ (preempt s).tar = s.tar ∧ (preempt s).dld = s.dld ∧ (preempt s).clk = s.clk ∧
    (preempt s).pwr = s.pwr ∧ (preempt s).lnk = s.lnk ∧ (preempt s).pins = s.pins ∧
    (preempt s).reports = s.reports ∧ (preempt s).fresh = s.fresh ∧ (preempt s).pending = s.pending := by
  simp [preempt]

@[simp] theorem trimTaken_frame (s : State) :
    (trimTaken s).mec = s.mec ∧ (trimTaken s).srv = s.srv ∧ (trimTaken s).ctu = s.ctu ∧ (trimTaken s).tpe = s.tpe ∧
    (trimTaken s).tun = s.tun ∧ (trimTaken s).tar = s.tar ∧ (trimTaken s).dld = s.dld ∧ (trimTaken s).clk = s.clk ∧
    (trimTaken s).pwr = s.pwr ∧ (trimTaken s).lnk = s.lnk ∧ (trimTaken s).pins = s.pins ∧
    (trimTaken s).fresh = s.fresh ∧ (trimTaken s).pending = s.pending := by
  unfold trimTaken; dsimp only; (repeat' split) <;> simp

@[simp] theorem closeActive_frame (x0 : Active) (x1 : OccOutcome) (s : State) :
    (closeActive x0 x1 s).mec = s.mec ∧ (closeActive x0 x1 s).srv = s.srv ∧ (closeActive x0 x1 s).ctu = s.ctu ∧
    (closeActive x0 x1 s).tpe = s.tpe ∧ (closeActive x0 x1 s).tun = s.tun ∧ (closeActive x0 x1 s).tar = s.tar ∧
    (closeActive x0 x1 s).dld = s.dld ∧ (closeActive x0 x1 s).clk = s.clk ∧ (closeActive x0 x1 s).pwr = s.pwr ∧
    (closeActive x0 x1 s).pins = s.pins ∧ (closeActive x0 x1 s).reports = s.reports ∧
    (closeActive x0 x1 s).fresh = s.fresh ∧ (closeActive x0 x1 s).pending = s.pending := by
  simp [closeActive]

@[simp] theorem preRollTest_frame (s : State) :
    (preRollTest s).mec = s.mec ∧ (preRollTest s).srv = s.srv ∧ (preRollTest s).ctu = s.ctu ∧
    (preRollTest s).tpe = s.tpe ∧ (preRollTest s).tun = s.tun ∧ (preRollTest s).tar = s.tar ∧
    (preRollTest s).dld = s.dld ∧ (preRollTest s).clk = s.clk ∧ (preRollTest s).pwr = s.pwr ∧
    (preRollTest s).pins = s.pins ∧ (preRollTest s).reports = s.reports ∧ (preRollTest s).fresh = s.fresh ∧
    (preRollTest s).pending = s.pending := by
  simp only [preRollTest, when, withActive]; (repeat' split) <;> simp

@[simp] theorem pauseReached_frame (s : State) :
    (pauseReached s).mec = s.mec ∧ (pauseReached s).srv = s.srv ∧ (pauseReached s).ctu = s.ctu ∧
    (pauseReached s).tpe = s.tpe ∧ (pauseReached s).tun = s.tun ∧ (pauseReached s).tar = s.tar ∧
    (pauseReached s).dld = s.dld ∧ (pauseReached s).clk = s.clk ∧ (pauseReached s).pwr = s.pwr ∧
    (pauseReached s).pins = s.pins ∧ (pauseReached s).reports = s.reports ∧ (pauseReached s).fresh = s.fresh ∧
    (pauseReached s).pending = s.pending := by
  unfold pauseReached; split <;> simp

@[simp] theorem tuningPassed_frame (x0 : Bool) (s : State) :
    (tuningPassed x0 s).mec = s.mec ∧ (tuningPassed x0 s).srv = s.srv ∧ (tuningPassed x0 s).ctu = s.ctu ∧
    (tuningPassed x0 s).tpe = s.tpe ∧ (tuningPassed x0 s).tun = s.tun ∧ (tuningPassed x0 s).tar = s.tar ∧
    (tuningPassed x0 s).dld = s.dld ∧ (tuningPassed x0 s).clk = s.clk ∧ (tuningPassed x0 s).pwr = s.pwr ∧
    (tuningPassed x0 s).pins = s.pins ∧ (tuningPassed x0 s).reports = s.reports ∧
    (tuningPassed x0 s).fresh = s.fresh ∧ (tuningPassed x0 s).pending = s.pending := by
  simp [tuningPassed]

@[simp] theorem signalChanged_frame (x0 : Bool) (s : State) :
    (signalChanged x0 s).mec = s.mec ∧ (signalChanged x0 s).srv = s.srv ∧ (signalChanged x0 s).ctu = s.ctu ∧
    (signalChanged x0 s).tpe = s.tpe ∧ (signalChanged x0 s).tun = s.tun ∧ (signalChanged x0 s).tar = s.tar ∧
    (signalChanged x0 s).dld = s.dld ∧ (signalChanged x0 s).clk = s.clk ∧ (signalChanged x0 s).pwr = s.pwr ∧
    (signalChanged x0 s).lnk = s.lnk ∧ (signalChanged x0 s).pins = s.pins ∧
    (signalChanged x0 s).reports = s.reports ∧ (signalChanged x0 s).fresh = s.fresh ∧
    (signalChanged x0 s).pending = s.pending := by
  simp [signalChanged]

@[simp] theorem markDoubtful_frame (s : State) :
    (markDoubtful s).mec = s.mec ∧ (markDoubtful s).srv = s.srv ∧ (markDoubtful s).ctu = s.ctu ∧
    (markDoubtful s).tpe = s.tpe ∧ (markDoubtful s).tun = s.tun ∧ (markDoubtful s).tar = s.tar ∧
    (markDoubtful s).dld = s.dld ∧ (markDoubtful s).clk = s.clk ∧ (markDoubtful s).pwr = s.pwr ∧
    (markDoubtful s).lnk = s.lnk ∧ (markDoubtful s).pins = s.pins ∧ (markDoubtful s).reports = s.reports ∧
    (markDoubtful s).fresh = s.fresh ∧ (markDoubtful s).pending = s.pending := by
  simp [markDoubtful]

@[simp] theorem requestMark_frame (code : Nat) (o : Owner) (s : State) :
    (requestMark code o s).2.mec = s.mec ∧ (requestMark code o s).2.srv = s.srv ∧ (requestMark code o s).2.tpe = s.tpe ∧
    (requestMark code o s).2.tun = s.tun ∧ (requestMark code o s).2.tar = s.tar ∧ (requestMark code o s).2.dld = s.dld ∧
    (requestMark code o s).2.clk = s.clk ∧ (requestMark code o s).2.tsc = s.tsc ∧ (requestMark code o s).2.pwr = s.pwr ∧
    (requestMark code o s).2.lnk = s.lnk ∧ (requestMark code o s).2.pins = s.pins ∧
    (requestMark code o s).2.reports = s.reports ∧ (requestMark code o s).2.fresh = s.fresh ∧
    (requestMark code o s).2.pending = s.pending := by
  unfold requestMark; split <;> simp

@[simp] theorem recordEntered_frame (s : State) :
    (recordEntered s).mec = s.mec ∧ (recordEntered s).srv = s.srv ∧ (recordEntered s).tpe = s.tpe ∧
    (recordEntered s).tun = s.tun ∧ (recordEntered s).tar = s.tar ∧ (recordEntered s).dld = s.dld ∧
    (recordEntered s).clk = s.clk ∧ (recordEntered s).pwr = s.pwr ∧ (recordEntered s).pins = s.pins ∧
    (recordEntered s).reports = s.reports ∧ (recordEntered s).fresh = s.fresh ∧
    (recordEntered s).pending = s.pending := by
  simp only [recordEntered, when, withActive]; (repeat' split) <;> simp

@[simp] theorem recordLeft_frame (s : State) :
    (recordLeft s).mec = s.mec ∧ (recordLeft s).srv = s.srv ∧ (recordLeft s).ctu = s.ctu ∧
    (recordLeft s).tpe = s.tpe ∧ (recordLeft s).tun = s.tun ∧ (recordLeft s).tar = s.tar ∧
    (recordLeft s).dld = s.dld ∧ (recordLeft s).clk = s.clk ∧ (recordLeft s).pwr = s.pwr ∧
    (recordLeft s).lnk = s.lnk ∧ (recordLeft s).pins = s.pins ∧ (recordLeft s).reports = s.reports ∧
    (recordLeft s).fresh = s.fresh ∧ (recordLeft s).pending = s.pending := by
  simp [recordLeft]

@[simp] theorem timedStart_frame (s : State) :
    (timedStart s).tun = s.tun ∧ (timedStart s).tar = s.tar ∧ (timedStart s).dld = s.dld ∧
    (timedStart s).clk = s.clk ∧ (timedStart s).tsc = s.tsc ∧ (timedStart s).pwr = s.pwr ∧
    (timedStart s).fresh = s.fresh ∧ (timedStart s).pending = s.pending := by
  simp only [timedStart, when, withActive]; (repeat' split) <;> simp

@[simp] theorem fallbackTest_frame (s : State) :
    (fallbackTest s).mec = s.mec ∧ (fallbackTest s).srv = s.srv ∧ (fallbackTest s).ctu = s.ctu ∧
    (fallbackTest s).tpe = s.tpe ∧ (fallbackTest s).tun = s.tun ∧ (fallbackTest s).tar = s.tar ∧
    (fallbackTest s).dld = s.dld ∧ (fallbackTest s).clk = s.clk ∧ (fallbackTest s).pwr = s.pwr ∧
    (fallbackTest s).lnk = s.lnk ∧ (fallbackTest s).pins = s.pins ∧ (fallbackTest s).reports = s.reports ∧
    (fallbackTest s).fresh = s.fresh ∧ (fallbackTest s).pending = s.pending := by
  simp only [fallbackTest, when, withActive]; (repeat' split) <;> simp

@[simp] theorem stopMoves_frame (x0 : Int) (s : State) :
    (stopMoves x0 s).mec = s.mec ∧ (stopMoves x0 s).srv = s.srv ∧ (stopMoves x0 s).ctu = s.ctu ∧
    (stopMoves x0 s).tpe = s.tpe ∧ (stopMoves x0 s).tun = s.tun ∧ (stopMoves x0 s).tar = s.tar ∧
    (stopMoves x0 s).dld = s.dld ∧ (stopMoves x0 s).clk = s.clk ∧ (stopMoves x0 s).pwr = s.pwr ∧
    (stopMoves x0 s).lnk = s.lnk ∧ (stopMoves x0 s).pins = s.pins ∧ (stopMoves x0 s).reports = s.reports ∧
    (stopMoves x0 s).fresh = s.fresh ∧ (stopMoves x0 s).pending = s.pending := by
  unfold stopMoves withActive; (repeat' split) <;> simp

/-! ### Power -/

@[simp] theorem setPower_frame (x0 : Pwr → Pwr) (s : State) :
    (setPower x0 s).mec = s.mec ∧ (setPower x0 s).srv = s.srv ∧ (setPower x0 s).ctu = s.ctu ∧
    (setPower x0 s).tpe = s.tpe ∧ (setPower x0 s).tun = s.tun ∧ (setPower x0 s).tar = s.tar ∧
    (setPower x0 s).dld = s.dld ∧ (setPower x0 s).clk = s.clk ∧ (setPower x0 s).tsc = s.tsc ∧
    (setPower x0 s).pins = s.pins ∧ (setPower x0 s).reports = s.reports ∧ (setPower x0 s).fresh = s.fresh ∧
    (setPower x0 s).pending = s.pending := by
  simp [setPower]

@[simp] theorem rxReset_frame (s : State) :
    (rxReset s).mec = s.mec ∧ (rxReset s).srv = s.srv ∧ (rxReset s).ctu = s.ctu ∧ (rxReset s).tpe = s.tpe ∧
    (rxReset s).tun = s.tun ∧ (rxReset s).tar = s.tar ∧ (rxReset s).dld = s.dld ∧ (rxReset s).clk = s.clk ∧
    (rxReset s).tsc = s.tsc ∧ (rxReset s).pwr = s.pwr ∧ (rxReset s).pins = s.pins ∧
    (rxReset s).reports = s.reports ∧ (rxReset s).fresh = s.fresh ∧ (rxReset s).pending = s.pending := by
  simp [rxReset]

@[simp] theorem deckPowerDown_frame (s : State) :
    (deckPowerDown s).srv = s.srv ∧ (deckPowerDown s).ctu = s.ctu ∧ (deckPowerDown s).tpe = s.tpe ∧
    (deckPowerDown s).tar = s.tar ∧ (deckPowerDown s).clk = s.clk ∧ (deckPowerDown s).tsc = s.tsc ∧
    (deckPowerDown s).pins = s.pins ∧ (deckPowerDown s).reports = s.reports ∧ (deckPowerDown s).fresh = s.fresh ∧
    (deckPowerDown s).pending = s.pending := by
  simp [deckPowerDown]

@[simp] theorem testPowerDown_frame (s : State) :
    (testPowerDown s).srv = s.srv ∧ (testPowerDown s).ctu = s.ctu ∧ (testPowerDown s).tpe = s.tpe ∧
    (testPowerDown s).tar = s.tar ∧ (testPowerDown s).clk = s.clk ∧ (testPowerDown s).tsc = s.tsc ∧
    (testPowerDown s).pins = s.pins ∧ (testPowerDown s).reports = s.reports ∧ (testPowerDown s).fresh = s.fresh ∧
    (testPowerDown s).pending = s.pending := by
  unfold testPowerDown; (repeat' split) <;> simp

@[simp] theorem downTest_frame (s : State) :
    (downTest s).srv = s.srv ∧ (downTest s).ctu = s.ctu ∧ (downTest s).tpe = s.tpe ∧ (downTest s).tar = s.tar ∧
    (downTest s).clk = s.clk ∧ (downTest s).tsc = s.tsc ∧ (downTest s).pins = s.pins ∧
    (downTest s).reports = s.reports ∧ (downTest s).fresh = s.fresh ∧ (downTest s).pending = s.pending := by
  unfold downTest; split <;> simp

@[simp] theorem returnTimerExpires_frame (s : State) :
    (returnTimerExpires s).srv = s.srv ∧ (returnTimerExpires s).ctu = s.ctu ∧ (returnTimerExpires s).tpe = s.tpe ∧
    (returnTimerExpires s).tar = s.tar ∧ (returnTimerExpires s).clk = s.clk ∧ (returnTimerExpires s).tsc = s.tsc ∧
    (returnTimerExpires s).pins = s.pins ∧ (returnTimerExpires s).reports = s.reports ∧
    (returnTimerExpires s).fresh = s.fresh ∧ (returnTimerExpires s).pending = s.pending := by
  unfold returnTimerExpires when; (repeat' split) <;> simp

@[simp] theorem enterOn_frame (x0 : PowerCause) (s : State) :
    (enterOn x0 s).tun = s.tun ∧ (enterOn x0 s).tar = s.tar ∧ (enterOn x0 s).dld = s.dld ∧
    (enterOn x0 s).clk = s.clk ∧ (enterOn x0 s).tsc = s.tsc ∧ (enterOn x0 s).fresh = s.fresh ∧
    (enterOn x0 s).pending = s.pending := by
  simp [enterOn]

@[simp] theorem wakes_frame (x0 : WakeSignal) (s : State) :
    (wakes x0 s).tun = s.tun ∧ (wakes x0 s).tar = s.tar ∧ (wakes x0 s).dld = s.dld ∧ (wakes x0 s).clk = s.clk ∧
    (wakes x0 s).tsc = s.tsc ∧ (wakes x0 s).fresh = s.fresh ∧ (wakes x0 s).pending = s.pending := by
  simp only [wakes, when, withActive]; (repeat' split) <;> simp

@[simp] theorem lineIdle_frame (s : State) :
    (lineIdle s).mec = s.mec ∧ (lineIdle s).srv = s.srv ∧ (lineIdle s).ctu = s.ctu ∧ (lineIdle s).tpe = s.tpe ∧
    (lineIdle s).tun = s.tun ∧ (lineIdle s).tar = s.tar ∧ (lineIdle s).dld = s.dld ∧ (lineIdle s).clk = s.clk ∧
    (lineIdle s).tsc = s.tsc ∧ (lineIdle s).pins = s.pins ∧ (lineIdle s).reports = s.reports ∧
    (lineIdle s).fresh = s.fresh ∧ (lineIdle s).pending = s.pending := by
  unfold lineIdle when; (repeat' split) <;> simp

@[simp] theorem cassetteArrives_frame (x0 : Bool) (s : State) :
    (cassetteArrives x0 s).tun = s.tun ∧ (cassetteArrives x0 s).tar = s.tar ∧ (cassetteArrives x0 s).dld = s.dld ∧
    (cassetteArrives x0 s).clk = s.clk ∧ (cassetteArrives x0 s).tsc = s.tsc ∧
    (cassetteArrives x0 s).fresh = s.fresh ∧ (cassetteArrives x0 s).pending = s.pending := by
  simp only [cassetteArrives, when, withActive]; (repeat' split) <;> simp

@[simp] theorem cassetteGoes_frame (s : State) :
    (cassetteGoes s).tun = s.tun ∧ (cassetteGoes s).tar = s.tar ∧ (cassetteGoes s).dld = s.dld ∧
    (cassetteGoes s).clk = s.clk ∧ (cassetteGoes s).tsc = s.tsc ∧ (cassetteGoes s).pwr = s.pwr ∧
    (cassetteGoes s).fresh = s.fresh ∧ (cassetteGoes s).pending = s.pending := by
  simp only [cassetteGoes, when, withActive]; (repeat' split) <;> simp

@[simp] theorem tscBackup_frame (s : State) :
    (tscBackup s).mec = s.mec ∧ (tscBackup s).srv = s.srv ∧ (tscBackup s).ctu = s.ctu ∧ (tscBackup s).tpe = s.tpe ∧
    (tscBackup s).tun = s.tun ∧ (tscBackup s).tar = s.tar ∧ (tscBackup s).dld = s.dld ∧ (tscBackup s).clk = s.clk ∧
    (tscBackup s).pwr = s.pwr ∧ (tscBackup s).pins = s.pins ∧ (tscBackup s).reports = s.reports ∧
    (tscBackup s).fresh = s.fresh ∧ (tscBackup s).pending = s.pending := by
  unfold tscBackup; split <;> simp

@[simp] theorem clkBackup_frame (x0 : Bool) (s : State) :
    (clkBackup x0 s).mec = s.mec ∧ (clkBackup x0 s).srv = s.srv ∧ (clkBackup x0 s).ctu = s.ctu ∧
    (clkBackup x0 s).tpe = s.tpe ∧ (clkBackup x0 s).tun = s.tun ∧ (clkBackup x0 s).tar = s.tar ∧
    (clkBackup x0 s).dld = s.dld ∧ (clkBackup x0 s).tsc = s.tsc ∧ (clkBackup x0 s).pwr = s.pwr ∧
    (clkBackup x0 s).pins = s.pins ∧ (clkBackup x0 s).reports = s.reports ∧ (clkBackup x0 s).fresh = s.fresh ∧
    (clkBackup x0 s).pending = s.pending := by
  unfold clkBackup; split <;> simp

@[simp] theorem lnkBackup_frame (s : State) :
    (lnkBackup s).mec = s.mec ∧ (lnkBackup s).srv = s.srv ∧ (lnkBackup s).ctu = s.ctu ∧ (lnkBackup s).tpe = s.tpe ∧
    (lnkBackup s).tun = s.tun ∧ (lnkBackup s).tar = s.tar ∧ (lnkBackup s).dld = s.dld ∧ (lnkBackup s).clk = s.clk ∧
    (lnkBackup s).tsc = s.tsc ∧ (lnkBackup s).pwr = s.pwr ∧ (lnkBackup s).pins = s.pins ∧
    (lnkBackup s).reports = s.reports ∧ (lnkBackup s).fresh = s.fresh ∧ (lnkBackup s).pending = s.pending := by
  simp [lnkBackup]

@[simp] theorem supplyAppears_frame (s : State) :
    (supplyAppears s).mec = s.mec ∧ (supplyAppears s).srv = s.srv ∧ (supplyAppears s).ctu = s.ctu ∧
    (supplyAppears s).tpe = s.tpe ∧ (supplyAppears s).tun = s.tun ∧ (supplyAppears s).tar = s.tar ∧
    (supplyAppears s).dld = s.dld ∧ (supplyAppears s).clk = s.clk ∧ (supplyAppears s).tsc = s.tsc ∧
    (supplyAppears s).lnk = s.lnk ∧ (supplyAppears s).pins = s.pins ∧ (supplyAppears s).reports = s.reports ∧
    (supplyAppears s).fresh = s.fresh ∧ (supplyAppears s).pending = s.pending := by
  unfold supplyAppears when; (repeat' split) <;> simp

@[simp] theorem supplyFails_frame (s : State) :
    (supplyFails s).mec = s.mec ∧ (supplyFails s).srv = s.srv ∧ (supplyFails s).ctu = s.ctu ∧
    (supplyFails s).tpe = s.tpe ∧ (supplyFails s).tun = s.tun ∧ (supplyFails s).tar = s.tar ∧
    (supplyFails s).dld = s.dld ∧ (supplyFails s).clk = s.clk ∧ (supplyFails s).tsc = s.tsc ∧
    (supplyFails s).lnk = s.lnk ∧ (supplyFails s).pins = s.pins ∧ (supplyFails s).reports = s.reports ∧
    (supplyFails s).fresh = s.fresh ∧ (supplyFails s).pending = s.pending := by
  unfold supplyFails when; (repeat' split) <;> simp

@[simp] theorem supplyReturns_frame (s : State) :
    (supplyReturns s).tun = s.tun ∧ (supplyReturns s).tar = s.tar ∧ (supplyReturns s).dld = s.dld ∧
    (supplyReturns s).tsc = s.tsc ∧ (supplyReturns s).fresh = s.fresh ∧
    (supplyReturns s).pending = s.pending := by
  unfold supplyReturns when; (repeat' split) <;> simp

end Sys2Proof.Machine
end

