-- ==== Sys2Proof/Laws/Occurrence.lean ====
section
/-! SUPPORT. The active occurrence's remaining seconds (R158, R168, R169, R171): what entering RECORD makes of the record, and
that each operation that changes them keeps their range. -/

namespace Sys2Proof.Machine

/-- What a RECORD entry sets lies in R158's range, wherever the effective stop stands. -/
theorem remainingUntil_le (s : State) (stop : Nat) : s.remainingUntil stop ≤ 86400 := by
  unfold State.remainingUntil
  dsimp only
  split
  · assumption
  · have := (Config.longRemaining s.fresh (stop - s.clk.reading)).isLt
    omega

/-- A stop no more than a day ahead is as many seconds away (R168). -/
theorem remainingUntil_eq {s : State} {stop : Nat} (h : stop - s.clk.reading ≤ 86400) :
    s.remainingUntil stop = stop - s.clk.reading := by
  simp [State.remainingUntil, h]

/-- What PLAN_GET shows lies in R158's range, meaningful or not. -/
theorem remainingShown_le (s : State) (a : Active) (h : a.remaining ≤ 86400) : s.remainingShown a ≤ 86400 := by
  unfold State.remainingShown
  split
  · exact h
  · have := (Config.idleRemaining s.fresh).isLt
    omega

theorem mapActive_active (f : Active → Active) (s : State) : (mapActive f s).tsc.active = s.tsc.active.map f := rfl

theorem setOccState_active (st : OccState) (s : State) :
    (setOccState st s).tsc.active = s.tsc.active.map fun a => { a with state := st } := by
  unfold setOccState
  split <;> rename_i h
  · simp [h]
  · simp [mapEntry, mapActive]

/-- The record of an active occurrence for which MEC enters RECORD (R168, R171). -/
theorem recordEntered_active {s : State} {a : Active} (h : s.tsc.active = some a) :
    (recordEntered s).tsc.active = some
      { a with
        state := .recording, recorded := true,
        run := some (match a.run with
          | none => { start := s.clk.reading, stop := none, counter := s.ctu.value, grade := s.mec.grade }
          | some r => { r with grade := s.mec.grade }),
        remaining := match a.control with
          | .time => s.remainingUntil (((s.entry a.slot a.date).map PlanEntry.eStop).getD s.clk.reading)
          | .label => a.remaining,
        noSignal := a.noSignal || s.tun.tuned.state == .noSignal } := by
  unfold recordEntered withActive
  simp only [h]
  cases hc : a.control <;> cases hr : a.run <;> split <;> simp [setOccState_active, mapActive_active, h, hc, hr]

/-- A change of the record that keeps the range of its remaining seconds. -/
theorem mapActive_remaining {f : Active → Active} {s : State} (hf : ∀ a, a.remaining ≤ 86400 → (f a).remaining ≤ 86400)
    (h : RemainingInv s) : RemainingInv (mapActive f s) := by
  intro b hb
  rw [mapActive_active, Option.map_eq_some_iff] at hb
  obtain ⟨a, ha, rfl⟩ := hb
  exact hf a (h a ha)

/-- A RECORD entry keeps the range of the remaining seconds. -/
theorem recordEntered_remaining {s : State} (h : RemainingInv s) : RemainingInv (recordEntered s) := by
  intro b hb
  cases ha : s.tsc.active with
  | none => simp [recordEntered, withActive, ha] at hb
  | some a =>
    rw [recordEntered_active ha] at hb
    cases hb
    cases hc : a.control
    · simpa [hc] using remainingUntil_le s _
    · simpa [hc] using h a ha

/-- A steady second keeps the range of the remaining seconds (R169). -/
theorem remainingSecond_remaining {s : State} (h : RemainingInv s) : RemainingInv (remainingSecond s) := by
  unfold remainingSecond
  split
  · exact h
  · refine mapActive_remaining (fun a ha => ?_) h
    split
    · exact le_trans (Nat.sub_le _ _) ha
    · exact ha

/-- A trim keeps the range of the remaining seconds (R169). -/
theorem trimTaken_remaining {s : State} (h : RemainingInv s) : RemainingInv (trimTaken s) := by
  unfold trimTaken
  split
  · rename_i a e ha he
    split
    · have hk : RemainingInv (mapActive (fun x => { x with remaining := min a.remaining (e.eStop - s.clk.reading) }) s) :=
        mapActive_remaining (fun _ _ => le_trans (min_le_left _ _) (h a ha)) h
      dsimp only
      split
      · exact hk
      · exact hk
    · exact h
  · exact h

end Sys2Proof.Machine
end

