-- ==== Sys2Proof/Laws/PerInstr.lean ====
section
/-! SUPPORT. A property of every command, one lemma for each constructor: the request it spells fits in a frame. -/

namespace Sys2Proof.Laws

/-- The BODY of a well-formed request has at most 63 bytes, so that its frame's LEN, which counts KIND
too, is at most 64 (11.1). -/
def FrameFits.Statement (i : Instr) : Prop :=
  ∀ (kind : Byte) (body : List Byte), encodeRequest i = some (kind, body) → i.wellFormed = true → body.length ≤ 63

/-- A request whose body is given and short. -/
theorem fits_of_body {i : Instr} {k : Byte} {b : List Byte} (h : encodeRequest i = some (k, b)) (hb : b.length ≤ 63) :
    FrameFits.Statement i := by
  intro kind body e _
  rw [h] at e
  cases e
  exact hb

/-- A command that is no request. -/
theorem fits_of_none {i : Instr} (h : encodeRequest i = none) : FrameFits.Statement i := by
  intro kind body e
  rw [h] at e
  cases e

theorem FrameFits.statusGet : FrameFits.Statement .statusGet := fits_of_body rfl (by decide)
theorem FrameFits.statusClear (sticky reported : Byte) :
    FrameFits.Statement (.statusClear sticky reported) :=
  fits_of_body rfl (Nat.le_of_ble_eq_true rfl)
theorem FrameFits.noticeMask (mask : BitVec 16) :
    FrameFits.Statement (.noticeMask mask) :=
  fits_of_body rfl (Nat.le_of_ble_eq_true rfl)
theorem FrameFits.restart : FrameFits.Statement .restart := fits_of_body rfl (by decide)
theorem FrameFits.standbyEnter : FrameFits.Statement .standbyEnter := fits_of_body rfl (by decide)
theorem FrameFits.standbyCancel : FrameFits.Statement .standbyCancel := fits_of_body rfl (by decide)
theorem FrameFits.wakeSet (filter : Byte) :
    FrameFits.Statement (.wakeSet filter) :=
  fits_of_body rfl (Nat.le_of_ble_eq_true rfl)
theorem FrameFits.deckGo (target multiplier grade tracking : Byte) (offset : Byte) (endAction : Byte) :
    FrameFits.Statement (.deckGo target multiplier grade tracking offset endAction) :=
  fits_of_body rfl (Nat.le_of_ble_eq_true rfl)
theorem FrameFits.deckGoStop (multiplier grade tracking : Byte) (offset : Byte) (endAction : Byte) :
    FrameFits.Statement (.deckGoStop multiplier grade tracking offset endAction) :=
  fits_of_body rfl (Nat.le_of_ble_eq_true rfl)
theorem FrameFits.deckGet : FrameFits.Statement .deckGet := fits_of_body rfl (by decide)
theorem FrameFits.counterSet (mode : Byte) (value : BitVec 32) :
    FrameFits.Statement (.counterSet mode value) :=
  fits_of_body rfl (Nat.le_of_ble_eq_true rfl)
theorem FrameFits.matchSet (action : Byte) (value : BitVec 32) :
    FrameFits.Statement (.matchSet action value) :=
  fits_of_body rfl (Nat.le_of_ble_eq_true rfl)
theorem FrameFits.matchSetDisarm : FrameFits.Statement .matchSetDisarm := fits_of_body rfl (by decide)
theorem FrameFits.cueSeek (direction limit endMode kindP kind slotP slot dayP day rangeP : Byte) (low high : BitVec
    16) :
    FrameFits.Statement
      (.cueSeek direction limit endMode kindP kind slotP slot dayP day rangeP low high) :=
    fits_of_body rfl (Nat.le_of_ble_eq_true rfl)
theorem FrameFits.cueWrite (code : BitVec 16) :
    FrameFits.Statement (.cueWrite code) :=
  fits_of_body rfl (Nat.le_of_ble_eq_true rfl)
theorem FrameFits.tapeGet : FrameFits.Statement .tapeGet := fits_of_body rfl (by decide)
theorem FrameFits.tune (mode number : Byte) (freq : BitVec 16) (fine : Byte) :
    FrameFits.Statement (.tune mode number freq fine) :=
  fits_of_body rfl (Nat.le_of_ble_eq_true rfl)
theorem FrameFits.presetPutWrite (number : Byte) (freq : BitVec 16) (fine skip timeSource : Byte) (name : List Byte) :
    FrameFits.Statement (.presetPutWrite number freq fine skip timeSource name) := by
  intro kind body e w
  cases e
  simp only [Instr.wellFormed, decide_eq_true_eq] at w
  simp [bytes16]
  omega
theorem FrameFits.presetPutStoreFine (number : Byte) :
    FrameFits.Statement (.presetPutStoreFine number) :=
  fits_of_body rfl (Nat.le_of_ble_eq_true rfl)
theorem FrameFits.presetPutErase (number : Byte) :
    FrameFits.Statement (.presetPutErase number) :=
  fits_of_body rfl (Nat.le_of_ble_eq_true rfl)
theorem FrameFits.presetGet (number : Byte) :
    FrameFits.Statement (.presetGet number) :=
  fits_of_body rfl (Nat.le_of_ble_eq_true rfl)
theorem FrameFits.scanStart (freq : BitVec 16) (autoStore : Byte) :
    FrameFits.Statement (.scanStart freq autoStore) :=
  fits_of_body rfl (Nat.le_of_ble_eq_true rfl)
theorem FrameFits.scanContinue : FrameFits.Statement .scanContinue := fits_of_body rfl (by decide)
theorem FrameFits.scanStop : FrameFits.Statement .scanStop := fits_of_body rfl (by decide)
theorem FrameFits.viewEnd : FrameFits.Statement .viewEnd := fits_of_body rfl (by decide)
theorem FrameFits.captureSet (selection action : Byte) :
    FrameFits.Statement (.captureSet selection action) :=
  fits_of_body rfl (Nat.le_of_ble_eq_true rfl)
theorem FrameFits.clockPutSetTime (year month day hours minutes seconds : Byte) :
    FrameFits.Statement (.clockPutSetTime year month day hours minutes seconds) :=
  fits_of_body rfl (Nat.le_of_ble_eq_true rfl)
theorem FrameFits.clockPutSetTrim (trim : Byte) :
    FrameFits.Statement (.clockPutSetTrim trim) :=
  fits_of_body rfl (Nat.le_of_ble_eq_true rfl)
theorem FrameFits.clockGet : FrameFits.Statement .clockGet := fits_of_body rfl (by decide)
theorem FrameFits.zonePut (zone source ruleP startMonth startWeek startHour endMonth endWeek endHour : Byte) :
    FrameFits.Statement (.zonePut zone source ruleP startMonth startWeek startHour endMonth endWeek endHour) :=
  fits_of_body rfl (Nat.le_of_ble_eq_true rfl)
theorem FrameFits.syncPut (setting : Byte) :
    FrameFits.Statement (.syncPut setting) :=
  fits_of_body rfl (Nat.le_of_ble_eq_true rfl)
theorem FrameFits.eventPut (slot recurrence year month day days startH startM stopH stopM preset grade priority
    preempt cue labelP : Byte) (key mask : BitVec 24) (overrunP : Byte) (overrun : Byte) :
    FrameFits.Statement
      (.eventPut slot recurrence year month day days startH startM stopH stopM preset grade priority preempt cue
        labelP key mask overrunP overrun) :=
    fits_of_body rfl (Nat.le_of_ble_eq_true rfl)
theorem FrameFits.eventGet (slot : Byte) :
    FrameFits.Statement (.eventGet slot) :=
  fits_of_body rfl (Nat.le_of_ble_eq_true rfl)
theorem FrameFits.eventStateArm (slot : Byte) :
    FrameFits.Statement (.eventStateArm slot) :=
  fits_of_body rfl (Nat.le_of_ble_eq_true rfl)
theorem FrameFits.eventStateHold (slot : Byte) :
    FrameFits.Statement (.eventStateHold slot) :=
  fits_of_body rfl (Nat.le_of_ble_eq_true rfl)
theorem FrameFits.eventStateErase (slot : Byte) :
    FrameFits.Statement (.eventStateErase slot) :=
  fits_of_body rfl (Nat.le_of_ble_eq_true rfl)
theorem FrameFits.planGet : FrameFits.Statement .planGet := fits_of_body rfl (by decide)
theorem FrameFits.cancel (slot year month day : Byte) :
    FrameFits.Statement (.cancel slot year month day) :=
  fits_of_body rfl (Nat.le_of_ble_eq_true rfl)
theorem FrameFits.resultGet (slot : Byte) :
    FrameFits.Statement (.resultGet slot) :=
  fits_of_body rfl (Nat.le_of_ble_eq_true rfl)
theorem FrameFits.frameComplete (bytes : List Byte) : FrameFits.Statement (.frameComplete bytes) := fits_of_none rfl
theorem FrameFits.framingError (len : Byte) : FrameFits.Statement (.framingError len) := fits_of_none rfl
theorem FrameFits.interByteTimeout : FrameFits.Statement .interByteTimeout := fits_of_none rfl
theorem FrameFits.lineError : FrameFits.Statement .lineError := fits_of_none rfl
theorem FrameFits.transmitFrameEnd : FrameFits.Statement .transmitFrameEnd := fits_of_none rfl
theorem FrameFits.wakeEvent (signal : WakeSignal) : FrameFits.Statement (.wakeEvent signal) := fits_of_none rfl
theorem FrameFits.wakingByteDiscard (byte : Byte) : FrameFits.Statement (.wakingByteDiscard byte) := fits_of_none rfl
theorem FrameFits.linkIdleAwake : FrameFits.Statement .linkIdleAwake := fits_of_none rfl
theorem FrameFits.cassetteInserted (tab : Bool) : FrameFits.Statement (.cassetteInserted tab) := fits_of_none rfl
theorem FrameFits.cassetteRemoved : FrameFits.Statement .cassetteRemoved := fits_of_none rfl
theorem FrameFits.motionComplete (position : ModePos) :
    FrameFits.Statement (.motionComplete position) :=
  fits_of_none rfl
theorem FrameFits.motionTimeout : FrameFits.Statement .motionTimeout := fits_of_none rfl
theorem FrameFits.spinUpTimeout : FrameFits.Statement .spinUpTimeout := fits_of_none rfl
theorem FrameFits.idleTimeout : FrameFits.Statement .idleTimeout := fits_of_none rfl
theorem FrameFits.endSensorLit : FrameFits.Statement .endSensorLit := fits_of_none rfl
theorem FrameFits.beginSensorLit : FrameFits.Statement .beginSensorLit := fits_of_none rfl
theorem FrameFits.reelStall : FrameFits.Statement .reelStall := fits_of_none rfl
theorem FrameFits.servoFrame (drumPhase : Int) (capstanPhase : CapstanPhase) :
    FrameFits.Statement (.servoFrame drumPhase capstanPhase) :=
  fits_of_none rfl
theorem FrameFits.trackingReading (levels : List Byte) :
    FrameFits.Statement (.trackingReading levels) :=
  fits_of_none rfl
theorem FrameFits.controlPulseRead (duty : Nat) : FrameFits.Statement (.controlPulseRead duty) := fits_of_none rfl
theorem FrameFits.blankDetected : FrameFits.Statement .blankDetected := fits_of_none rfl
theorem FrameFits.framesUnreadLimit : FrameFits.Statement .framesUnreadLimit := fits_of_none rfl
theorem FrameFits.capstanStep : FrameFits.Statement .capstanStep := fits_of_none rfl
theorem FrameFits.controlPulseWrite : FrameFits.Statement .controlPulseWrite := fits_of_none rfl
theorem FrameFits.reelTachoEdge (reel : Reel) (elapsed : Nat) :
    FrameFits.Statement (.reelTachoEdge reel elapsed) :=
  fits_of_none rfl
theorem FrameFits.windRevolutionOverflow (reel : Reel) :
    FrameFits.Statement (.windRevolutionOverflow reel) :=
  fits_of_none rfl
theorem FrameFits.tuningComplete (carrier sync : Bool) :
    FrameFits.Statement (.tuningComplete carrier sync) :=
  fits_of_none rfl
theorem FrameFits.detectorReading (carrier sync : Bool) (disc : Disc) :
    FrameFits.Statement (.detectorReading carrier sync disc) :=
  fits_of_none rfl
theorem FrameFits.scanDwellEnd (carrier sync : Bool) (disc : Disc) :
    FrameFits.Statement (.scanDwellEnd carrier sync disc) :=
  fits_of_none rfl
theorem FrameFits.scanFineStepEnd (carrier sync : Bool) (disc : Disc) :
    FrameFits.Statement (.scanFineStepEnd carrier sync disc) :=
  fits_of_none rfl
theorem FrameFits.scanFinalHoldEnd (carrier sync : Bool) :
    FrameFits.Statement (.scanFinalHoldEnd carrier sync) :=
  fits_of_none rfl
theorem FrameFits.syncWaitLimit : FrameFits.Statement .syncWaitLimit := fits_of_none rfl
theorem FrameFits.minimumHoldExpiry : FrameFits.Statement .minimumHoldExpiry := fits_of_none rfl
theorem FrameFits.holdLimitExpiry : FrameFits.Statement .holdLimitExpiry := fits_of_none rfl
theorem FrameFits.packetArrival (bytes : List Byte) : FrameFits.Statement (.packetArrival bytes) := fits_of_none rfl
theorem FrameFits.clockSecondAdvance : FrameFits.Statement .clockSecondAdvance := fits_of_none rfl
theorem FrameFits.candidateExpiry : FrameFits.Statement .candidateExpiry := fits_of_none rfl
theorem FrameFits.visitAgeLimit : FrameFits.Statement .visitAgeLimit := fits_of_none rfl
theorem FrameFits.syncRetryExpiry : FrameFits.Statement .syncRetryExpiry := fits_of_none rfl
theorem FrameFits.armingMoment : FrameFits.Statement .armingMoment := fits_of_none rfl
theorem FrameFits.timedRecordStart : FrameFits.Statement .timedRecordStart := fits_of_none rfl
theorem FrameFits.signalTimeout : FrameFits.Statement .signalTimeout := fits_of_none rfl
theorem FrameFits.recordingTimeUp : FrameFits.Statement .recordingTimeUp := fits_of_none rfl
theorem FrameFits.labelFallbackTest : FrameFits.Statement .labelFallbackTest := fits_of_none rfl
theorem FrameFits.windowEnd : FrameFits.Statement .windowEnd := fits_of_none rfl
theorem FrameFits.labelTrimmedStop : FrameFits.Statement .labelTrimmedStop := fits_of_none rfl
theorem FrameFits.returnTimerExpiry : FrameFits.Statement .returnTimerExpiry := fits_of_none rfl
theorem FrameFits.supplyLost : FrameFits.Statement .supplyLost := fits_of_none rfl
theorem FrameFits.supplyPresent : FrameFits.Statement .supplyPresent := fits_of_none rfl
theorem FrameFits.supplyAbsentReturning : FrameFits.Statement .supplyAbsentReturning := fits_of_none rfl
theorem FrameFits.supplyReturn : FrameFits.Statement .supplyReturn := fits_of_none rfl
theorem FrameFits.powerOnReset (cassette tab : Bool) (position : ModePos) (endLit beginLit : Bool) :
    FrameFits.Statement (.powerOnReset cassette tab position endLit beginLit) :=
  fits_of_none rfl
theorem FrameFits.clockTick : FrameFits.Statement .clockTick := fits_of_none rfl
theorem FrameFits.endOrBeginSensorDark (sensor : LeaderSensor) :
    FrameFits.Statement (.endOrBeginSensorDark sensor) :=
  fits_of_none rfl

end Sys2Proof.Laws
end

