-- ==== Sys2Proof/Laws/Transport.lean ====
section
/-! SUPPORT. What entering a transport state does to MEC's record and which reports it makes: every change of transport
state goes through `enter`. -/

namespace Sys2Proof.Machine

/-- MEC's record as `enter` makes it, before the two timers that follow the state. -/
def Mec.entered (n : TState) (keepDrum : Bool) (m : Mec) : Mec :=
  { m with state := n, move := .none, drum := n.drumTurns || (keepDrum && m.drum) }

/-- What entering a state makes of MEC's record. -/
theorem enter_mec (n : TState) (k : Bool) (s : State) :
    (enter n k s).mec =
      { s.mec.entered n k with
        idle := (s.mec.entered n k).idleSituation,
        stall := (s.mec.entered n k).reelDriven.isSome && !s.pins.endLit && !s.pins.beginLit } := by
  unfold enter Mec.entered
  by_cases h : s.mec.state = n <;> cases hd : n.drumTurns <;> cases k <;>
    simp [h, hd, stallFollow, idleFollow, drumStop, Mec.idleSituation, Mec.reelDriven, Mec.reelDrive]

/-- The reports of leaving a state for another. -/
def leaveReports (o n : TState) (owner : Owner) : List Report :=
  (if o == .record && owner == .timer then [.leftRecord] else []) ++
    (if o.recordPair && !n.recordPair && owner == .host then [.hostRecEnd] else [])

/-- The reports of arriving in a state from another. -/
def arriveReports (o n : TState) (s : State) : List Report :=
  (if n.recordPair && !o.recordPair && s.mec.owner == .host then [.hostRecStart] else []) ++
  (if n == .record && s.mec.owner == .timer then [.enteredRecord] else []) ++
  (if n == .recordPause && s.mec.owner == .timer then [.paused] else []) ++
  (if n == .record && s.srv.quality == .unstable && s.mec.owner == .timer then [.unstable] else []) ++
  (if n == .record && s.srv.quality == .lost then [.servoLost] else []) ++
  (if n.forward && s.pins.endLit then [.endStop] else []) ++
  (if n.reverse && s.pins.beginLit then [.beginStop] else []) ++
  (if n == .empty || n == .unthreaded || n == .fault then [.rest] else [])

theorem leaveState_reports (o n : TState) (s : State) :
    (leaveState o n s).reports = s.reports ++ leaveReports o n s.mec.owner := by
  unfold leaveState leaveReports
  cases o <;> cases n <;>
    simp [TState.recordPair, TState.measures, TState.isWind, TState.reverse, TState.readsPulses, reportIf_eq]

theorem srvEnterRecord_reports (s : State) :
    (srvEnterRecord s).reports = s.reports ++
      (if s.srv.quality == .unstable && s.mec.owner == .timer then [.unstable] else []) ++
      (if s.srv.quality == .lost then [.servoLost] else []) := by
  have h : (setDetected s.mec.grade s).srv.quality = s.srv.quality := by simp [setDetected, raiseIf_eq]
  unfold srvEnterRecord
  dsimp only
  rw [h]
  cases s.srv.quality <;> simp [reportIf_eq, report_eq]

theorem arriveState_reports (o n : TState) (s : State) :
    (arriveState o n s).reports = s.reports ++ arriveReports o n s := by
  unfold arriveState arriveReports
  cases n <;>
    simp [TState.recordPair, TState.forward, TState.reverse, TState.isWind, TState.readsPulses, reportIf_eq,
      srvEnterRecord_reports]

/-- The reports of entering a state: none where it is the present one. -/
theorem enter_reports (n : TState) (k : Bool) (s : State) :
    (enter n k s).reports = s.reports ++
      if s.mec.state = n then [] else leaveReports s.mec.state n s.mec.owner ++ arriveReports s.mec.state n s := by
  by_cases h : s.mec.state = n
  · unfold enter
    cases hd : n.drumTurns <;> cases k <;> simp [h, hd, stallFollow, idleFollow]
  · unfold enter
    cases hd : n.drumTurns <;> cases k <;>
      simp [h, hd, stallFollow, idleFollow, arriveState_reports, leaveState_reports, arriveReports, drumStop, raiseIf_eq] <;>
      cases n <;> simp_all [TState.drumTurns]

end Sys2Proof.Machine
end

