-- ==== Sys2Proof/Tests/Slice0.lean ====
section
/-! SUPPORT. Tests: an ill-formed term for each check of WellFormed, values that the spec's worked sequences give, and for
each statement with hypotheses concrete states that meet them. -/

namespace Sys2Proof.Tests

open Sys2Proof.Machine

/-! ## WellFormed: each check refuses a term -/

theorem test_wf_deckGo_target : (Instr.deckGo 0 0 0 0 0 0).wellFormed = false := by decide
theorem test_wf_matchSet_action : (Instr.matchSet 3 0).wellFormed = false := by decide
theorem test_wf_presetPutWrite_name :
    (Instr.presetPutWrite 1 900 0 0 0 (List.replicate 56 0x41)).wellFormed = false := by decide
theorem test_wf_trackingReading_levels : (Instr.trackingReading [1, 2, 3]).wellFormed = false := by decide
theorem test_wf_controlPulseRead_duty : (Instr.controlPulseRead 10001).wellFormed = false := by decide
theorem test_wf_packetArrival_bytes : (Instr.packetArrival []).wellFormed = false := by decide
theorem test_wf_framingError_len : (Instr.framingError 64).wellFormed = false := by decide
theorem test_wf_good : (Instr.framingError 65).wellFormed = true ∧ (Instr.deckGo 1 0 0 0 0 0).wellFormed = true := by decide

/-! ## States -/

/-- The state an outcome gives, or the one given with it. -/
def after (o : Host.Outcome State Fault Refusal) (s : State) : State :=
  match o with
  | .next t => t
  | _ => s

/-- ON with the link AWAKE, a cassette in UNTHREADED with its tab. -/
def awake : State :=
  { State.reset with
    mec := { Mec.reset with state := .unthreaded, tab := .present, move := .none },
    pwr := { Pwr.reset with mode := .on, link := .awake },
    pins := { Pins.reset with cassette := true, tab := true, mode := .inn } }

/-- `awake` in a transport state. -/
def inState (st : TState) : State := awake.mapMec fun m => { m with state := st, drum := st.drumTurns }

/-- A frame is on the line. -/
def busy (s : State) : State := s.mapLnk fun l => { l with line := some [] }

/-- A USED preset. -/
def channel (f : Nat) : Preset := { Preset.empty with used := true, freq := f }

/-- `awake` with a tuned record in a state. -/
def tunedAt (st : TunedState) (fine : Int) : State :=
  awake.mapTun fun t =>
    { t with
      tuned := { t.tuned with source := .preset, preset := 7, freq := 4050, fine := fine, band := some .mid, state := st,
                              settle := if st = .settling then some 20 else none },
      reading := true }

/-- A scan that runs, in a phase, at a position. -/
def scanAt (ph : ScanPhase) (pos fine steps : Nat) : State :=
  (tunedAt .scanning 0).mapTun fun t =>
    { t with scan := { t.scan with state := .running, phase := ph, pos := pos, finePos := fine, steps := steps } }

/-- Friday 2024-05-10 19:59:00. -/
def evening : DateTime := { year := 24, month := 5, day := 10, hour := 19, minute := 59, second := 0 }

/-- A ONCE programme from 20:00 to 21:00 that evening on preset 7, in a state. -/
def programme (st : SlotState) : Slot :=
  { Slot.reset with state := st, recurrence := .once, once := evening.date, start := 1200, stop := 1260, preset := 7 }

/-- A clock that was set, showing a time. -/
def clockAt (d : DateTime) (s : State) : State := s.mapClk fun c => { c with state := .manual, now := d }

/-- The programme stands in slot 2 and is planned. -/
def planned : State :=
  drawPlan (clockAt evening (setPreset 7 (channel 5000) (mapSlot 2 (fun _ => programme .armed) awake)))

/-- The plan entry of the programme. -/
def entry : PlanEntry := { occurrenceOf planned.clk 2 (programme .armed) evening.date with grade := .half }

/-- The programme is armed and the pre-roll complete but for the signal. -/
def prerolled (control : Control) (seen : Bool) : State :=
  let s := planned.mapMec fun m => { m with state := .recordPause, owner := .timer, drum := true }
  let s := s.mapTar fun t => { t with holder := .record, orderOf := .record, origin := .timer }
  let s := mapSlot 2 (fun l => l.armed evening.date) s
  s.mapTsc fun t =>
    { t with
      active := some { Active.start entry with control := control, transportReady := true, tuned := true, signalSeen := seen },
      plan := [{ entry with state := .arming, control := control }] }

/-- The occurrence is being recorded. -/
def recording (control : Control) (verdict : Conflict) (remaining : Nat) : State :=
  let s := (prerolled control true).mapMec fun m => { m with state := .record }
  s.mapTsc fun t =>
    { t with
      active := t.active.map fun a =>
        { a with state := .recording, recorded := true, remaining := remaining,
                 run := some { start := entry.eStart, stop := none, counter := 0, grade := .half } },
      plan := t.plan.map fun e => { e with state := .recording, conflict := verdict } }

/-- RECORD or RECORD_PAUSE of the host, which holds the tuner. -/
def hostHolds (st : TState) : State :=
  (inState st).mapTar fun t => { t with holder := .record, orderOf := .record, origin := .host }

/-- A host's recording with a mark in writing, holding the tuner. -/
def hostRecords : State :=
  (hostHolds .record).mapCtu fun c => { c with writing := some { code := 9, origin := .host, pos := 5 } }

/-- A transport state with a target of the host pending, and a spin-up or none. -/
def toward (st : TState) (t : Target) (spin : Bool) : State :=
  (inState st).mapMec fun m =>
    { m with spin := spin, drum := m.drum || spin, tab := .present, motionTimer := if st.inMotion then some 3600 else none,
             pending := some { target := t, speed := .x7, grade := .half, origin := .host } }

/-- An armed match one frame above the counter, in a state. -/
def matchNear (st : TState) (a : MatchAction) : State :=
  busy ((inState st).mapCtu fun c => { c with value := 9, mValue := 10, mArmed := true, mSide := .below, mAction := a })

/-- All but the last class of host code 12's mark, as a tape in forward or reverse travel gives them (R42), under a seek. -/
def markNear (st : TState) (seek : Seek) : State :=
  let mark : List PulseClass :=
    List.replicate 4 .long ++ List.replicate 12 .short ++ [.long, .long, .short, .short] ++ List.replicate 4 .short
  busy ((inState st).mapCtu fun c =>
    { c with window := (if st = .searchRev then mark.reverse else mark).take 23, seek := seek })

/-- A seek that runs forward for a range of host codes, ending at its third mark that is not in it. -/
def seeking (low high : Nat) : Seek :=
  { Seek.reset with state := .running, kind := some .host, range := some (low, high), limit := 3, passed := 1 }

/-- A supply revolution about to close in PLAY, beside a take-up reel, under a profile. -/
def closing (p : Profile) (k count : Nat) (takeup : Option Nat) : State :=
  (inState .play).mapTpe fun t =>
    { t with
      profile := p, k := k, lt := if p = .calibrated then some 4293728 else none, mismatch := 2,
      supply := { t.supply with rev := some { edges := 3, count := count, spoiled := false } },
      takeup := { t.takeup with c := takeup, fresh := takeup.isSome } }

/-- The worked case of the ratio method (3.4), in a wind. -/
def ratioNear : State :=
  let s := (inState .windFwd).mapTpe fun t =>
    { t with
      profile := .calibrated, k := 26922500, lt := some 4293728, ls := some 2700000,
      supply := { t.supply with rev := some { edges := 3, count := 700, spoiled := false } },
      takeup := { t.takeup with t := some 500 } }
  s.mapCtu fun c => { c with windRef := some 2700000 }

/-- The clock at 21:00 that evening. -/
def nine : DateTime := { evening with hour := 21, minute := 0 }

/-- A label control that asks for a key. -/
def keyed : LabelControl := { key := 0x4182#20, mask := 0xFFFFF#20, overrun := 60 }

/-- The tuner receives preset 7, whose network code is known, and slot 2 is under label control. -/
def labelled (s : State) : State :=
  let s := mapSlot 2 (fun l => { l with label := some keyed }) s
  let s := setPreset 7 { channel 5000 with network := some 0x2A1#12 } s
  s.mapTun fun t =>
    { t with tuned := { t.tuned with source := .preset, preset := 7, freq := 5000, band := some .mid, state := .signal } }

/-- The recording of slot 2 is over, and an occurrence of slot 3 waits for the deck. -/
def chain : State :=
  let s := mapSlot 3 (fun _ => { programme .armed with start := 1260, stop := 1320 }) (clockAt nine (recording .time .clear 0))
  let f : PlanEntry :=
    { entry with slot := 3, pStart := entry.pStop, pStop := entry.pStop + 3600, windowEnd := entry.pStop + 3600,
                 eStart := entry.pStop, eStop := entry.pStop + 3600, state := .next, chained := true }
  s.mapTsc fun t => { t with plan := t.plan ++ [f] }

/-- 19:00 that evening: slot 2's programme, and one of slot 3 from its own start to its stop, of a priority. -/
def twoSlots (start stop priority : Nat) : State :=
  let s := clockAt { evening with hour := 19, minute := 0 } (mapSlot 2 (fun _ => programme .held) awake)
  mapSlot 3 (fun _ => { programme .armed with start := start, stop := stop, priority := priority }) s

/-! ## Values of the spec's worked sequences and tables -/

/-- 11.1: CUE_WRITE of host code 12; the bytes sum to 0x24 before CHECK. -/
theorem test_frame_cueWrite : frameOf 0x15 [0x0C, 0x00] = [0xC3, 0x03, 0x15, 0x0C, 0x00, 0xDC] := by decide
/-- 3.4: the worked case of the direct method and of the sample. -/
theorem test_direct_length : lengthOfSquare (4840 ^ 2) = 4129212 := by decide
theorem test_direct_total : totalLength 26922500 = 4293728 := by decide
theorem test_ratio_square : ratioSquare 26922500 800 500 = 19360000 := by decide
/-- 4.4: preset 12 at 9610 in band HIGH, N 10370; preset 7 at 4050 with offset -2, N 4808. -/
theorem test_divider : dividerOf 9610 0 = 10370 ∧ bandOf 9610 = .high ∧ dividerOf 4050 (-2) = 4808 ∧ bandOf 4050 = .mid := by
  decide
/-- 2.8: the timed code of slot 5 on the 17th is 33105. -/
theorem test_timed_code : timedCode 5 17 = 33105 := by decide
/-- 2024-06-14 was a Friday, 2024-11-04 a Monday, 2024-10-27 a Sunday (the worked sequences of 7 and 8). -/
theorem test_day_of_week :
    dayOfWeek (dateOf 24 6 14) = 5 ∧ dayOfWeek (dateOf 24 11 4) = 1 ∧ dayOfWeek (dateOf 24 10 27) = 0 := by decide

/-- The rule of 7's worked sequences: LAST Sunday of month 3 at 2 to LAST Sunday of month 10 at 3. -/
def summer24 : SummerRule :=
  { startMonth := 3, startWeek := 5, startHour := 2, endMonth := 10, endWeek := 5, endHour := 3 }

/-- 7: the night of 2024-10-27. -/
def summerNight (m : Summer) (offset : Int) : State :=
  awake.mapClk fun c =>
    { c with state := .unset, source := .rule, rule := some summer24, zone := 4, summer := m, offset := offset, sub := 63,
             now := { year := 24, month := 10, day := 27, hour := 2, minute := 59, second := 59 } }

theorem test_summer_ends_once :
    let t := after (exec .clockTick (summerNight .summer 8)) awake
    t.clk.now = { year := 24, month := 10, day := 27, hour := 2, minute := 0, second := 0 } ∧ t.clk.summer = .repeated ∧
      t.clk.offset = 4 := by decide
theorem test_summer_ends_twice :
    let t := after (exec .clockTick (summerNight .repeated 4)) awake
    t.clk.now = { year := 24, month := 10, day := 27, hour := 3, minute := 0, second := 0 } ∧ t.clk.summer = .standard ∧
      t.clk.offset = 4 := by decide

/-- 7: UTC 19:15:39 against a candidate of 19:15:38 with age 64 ticks gives 21:15:39 in BROADCAST. -/
theorem test_visit_corrects :
    let d : DateTime := { year := 24, month := 6, day := 14, hour := 20, minute := 15, second := 17 }
    let utc := instantOf (dateOf 24 6 14) (19 * 3600 + 15 * 60)
    let s := awake.mapClk fun c =>
      { c with state := .manual, now := d, zone := 4, rule := some summer24, summer := .summer, offset := 8,
               candidate := some { utc := utc + 38, offset := 0, summer := false, age := 64 } }
    let t := timePacketTaken (utc + 39) 0 false true s
    t.clk.now = { d with hour := 21, second := 39 } ∧ t.clk.state = .broadcast ∧ t.clk.visitAge = some 0 := by decide

/-- 8: the second CANCEL drops the oldest pair of a full list. -/
theorem test_skip_full :
    addSkip (12, 6) [(2, 5), (2, 6), (4, 4), (7, 9), (7, 10), (9, 5), (11, 7), (3, 5)] =
      [(2, 6), (4, 4), (7, 9), (7, 10), (9, 5), (11, 7), (3, 5), (12, 6)] := by decide
/-- 8: at the midnight into the 5th the pair of the 4th stays, at the midnight into the 6th it goes. -/
theorem test_skip_expires :
    expireSkip 5 [(2, 6), (4, 4), (9, 5)] = [(2, 6), (4, 4), (9, 5)] ∧ expireSkip 6 [(2, 6), (4, 4), (9, 5)] = [(2, 6), (9, 5)] := by
  decide

/-- 1: DECK_GO SEARCH_FWD with multiplier 10 during LOADING is pending at x7, and the reply is ACCEPTED (its code 1). -/
theorem test_search_during_loading :
    let t := after (exec (.deckGo 3 10 0 0 0 0) (busy (inState .loading))) awake
    t.mec.pending = some { target := .searchFwd, speed := .x7, grade := .full, origin := .host } ∧ t.mec.state = .loading := by
  decide
/-- 1: the mode switch at IN then begins THREADING. -/
theorem test_loading_goes_on :
    let s := (inState .loading).mapMec fun m =>
      { m with motionTimer := some 6000, pending := some { target := .searchFwd, speed := .x7, grade := .full, origin := .host } }
    let t := after (exec (.motionComplete .inn) s) awake
    t.mec.state = .threading ∧ t.mec.motionTimer = some 3600 ∧ t.mec.tab = .present := by decide
/-- 1: a host recording meets the end with end action REWIND. -/
theorem test_record_end_rewinds :
    let s := (inState .record).mapMec fun m => { m with endAction := .rewind }
    let t := after (exec .endSensorLit s) awake
    t.mec.state = .unthreading ∧ t.mec.reportCause = .tapeEnd ∧
      t.mec.pending.map PendingTarget.target = some .windRev ∧ t.mec.idle = false := by decide
/-- 4: a discriminator reading LOW moves the offset from -2 to -1 and N to 4809, in TRACKING. -/
theorem test_afc_low :
    let t := after (exec (.detectorReading true true .low) (tunedAt .signal (-2))) awake
    t.tun.tuned.fine = -1 ∧ t.tun.tuned.divider = 4809 ∧ t.tun.afc = .tracking := by decide
/-- 9: a due occurrence takes the deck, and its tuner is tuned to its preset. -/
theorem test_arming :
    let t := after (exec .armingMoment planned) awake
    t.mec.state = .threading ∧ t.mec.owner = .timer ∧ t.tar.holder = .record ∧ t.tun.tuned.preset = 7 ∧
      (t.slot 2).guard = some evening.date := by decide
/-- A power-on reset with no cassette and the switch at OUT settles in EMPTY (R24). -/
theorem test_power_on_empty :
    (after (exec (.powerOnReset false false .out false false) awake) awake).mec.state = .empty := by decide
/-- R193: a frame is tested at its CHECK byte, so a bad LEN that follows STATUS_CLEAR is flagged after the clearing. -/
theorem test_frame_tested_at_check :
    (after (exec (.frameComplete (frameOf 0x02 [0xFF, 0xFF] ++ [0xC3, 0x00])) (busy awake)) awake).lnk.sticky = 4 := by decide
/-- R162: in REPEATED without a rule in force, an entry that starts at the reading is CLEAR. -/
theorem test_clamp_without_rule :
    ((entry.clamp { (clockAt { evening with hour := 20, minute := 0 } awake).clk with summer := .repeated }).conflict = .clear) := by
  decide
/-- The table gives no bits: no word spells a command (log 42). -/
theorem test_no_words : Sys2Proof.decodeTableWord 8 0 = none := by decide

/-! ## States that meet the hypotheses of the statements, clause by clause -/

theorem witness_StepRunsFrontCommand :
    ({ awake with pending := [.statusGet] }).pending = .statusGet :: [] ∧ awake.pending = [] := by decide

theorem witness_RequestDecodesToItself :
    encodeRequest (.presetPutWrite 99 17240 0 1 1 (List.replicate 55 0x41)) ≠ none ∧
      (Instr.presetPutWrite 99 17240 0 1 1 (List.replicate 55 0x41)).wellFormed = true := by decide

theorem witness_FrameChecks :
    (List.replicate 63 (0 : Byte)).length ≤ 63 ∧ (busy awake).linkAwake = true ∧ (busy awake).lnk.rx = Rx.reset ∧
      (busy awake).reports = [] ∧ (busy awake).lnk.line.isSome ∧
      (1 : Byte) ≠ checkByte (BitVec.ofNat 8 64) (0x15 :: List.replicate 63 0) := by decide +kernel

theorem witness_FrameRunsItsRequest :
    encodeRequest (.cueWrite 12) = some (0x15, [12, 0]) ∧ (Instr.cueWrite 12).wellFormed = true ∧ awake.linkAwake = true ∧
      awake.lnk.rx = Rx.reset ∧ awake.reports = [] := by decide

theorem witness_RequestsThatAreNotHeld :
    (let s := busy (awake.mapLnk fun l => { l with buffer := some 1, errors := 255 })
     encodeRequest .statusGet = some (0x01, []) ∧ s.linkAwake = true ∧ s.lnk.buffer.isSome ∧ s.lnk.line.isSome ∧
       s.reports = []) ∧
    State.reset.linkAwake = false ∧ State.reset.reports = [] := by decide

theorem witness_LineErrorsAreCounted :
    let s := busy awake
    let t := s.mapLnk fun l => { l with rx := { state := .length, len := 0, held := [] } }
    (s.linkAwake = true ∧ s.lnk.line.isSome ∧ s.reports = [] ∧ s.lnk.rx.state = .hunt ∧ (0x00 : Byte) ≠ 0xC3) ∧
      t.linkAwake = true ∧ t.lnk.line.isSome ∧ t.reports = [] ∧ t.lnk.rx.state = .length ∧ t.lnk.rx.state ≠ .hunt ∧
      64 < (65 : Byte).toNat := by decide

theorem witness_TransmitArbiter :
    let s (r : Reply) := awake.mapLnk fun l => { l with buffer := some 0x16, reply := some r, notices := 0xFFF }
    let n := awake.mapLnk fun l => { l with notices := 0x800 }
    (busy awake).lnk.line.isSome ∧
    (∀ r ∈ [Reply.ok .tape, .ok .deckGet, .ok .status],
      (s r).lnk.line = none ∧ (s r).linkAwake = true ∧ (s r).lnk.parts = [] ∧ (s r).lnk.reply = some r ∧ r ≠ .ok .plan) ∧
    (n.lnk.line = none ∧ n.linkAwake = true ∧ n.lnk.parts = [] ∧ n.lnk.reply = none ∧ n.pendingNotice .link = true ∧
      ∀ m ∈ notices, m.bit < Notice.link.bit → n.pendingNotice m = false) := by decide

theorem witness_listens : awake.Listens ∧ awake.reports = [] := by unfold State.Listens; decide

/-- The notice mask that disables PACKET, and the last mask in range. -/
theorem witness_NoticeMaskStoresAndWithdraws :
    (awake.lnk.mask.getLsbD 6 && !(0x0FBF#16).getLsbD 6) = true ∧ ¬4096 ≤ (0x0FFF#16).toNat ∧ 4096 ≤ (0x1000#16).toNat := by
  decide

theorem witness_PowerRequests :
    let r := inState .record
    let w := awake.mapPwr fun p => { p with entry := .waitRest }
    let o := prerolled .time false
    (r.Listens ∧ r.reports = [] ∧ r.mec.state = .record ∧ r.mec.owner = .host) ∧
    (w.Listens ∧ w.reports = [] ∧ ¬((w.mec.state = .record ∨ w.mec.state = .recordPause) ∧ w.mec.owner = .host) ∧
      w.pwr.entry ≠ .none) ∧
    (o.Listens ∧ o.reports = [] ∧ ¬((o.mec.state = .record ∨ o.mec.state = .recordPause) ∧ o.mec.owner = .host) ∧
      o.pwr.entry = .none ∧ o.tsc.active.isSome) ∧
    (∀ st ∈ [TState.threaded, .play, .searchRev, .loading, .ejecting, .windFwd, .windRev],
      let s := busy (inState st)
      s.Listens ∧ s.reports = [] ∧ s.mec.owner = .host ∧ s.mec.spin = false ∧ s.pwr.entry = .none ∧ s.tsc.active = none ∧
        s.mec.state = st ∧ s.mec.pending = none ∧ s.pwr.deckUp = true ∧ s.clk.syncOn = false ∧ s.tar.syncWait = false ∧
        s.lnk.line.isSome) := by unfold State.Listens; decide

theorem witness_CounterAndMatchSet :
    1 < (2 : Byte).toNat ∧ (1 : Byte).toNat ≤ 1 ∧ 3 < (4 : Byte).toNat ∧ (2 : Byte).toNat < 3 := by decide

theorem witness_DeckGoRefusals :
    (11 ≤ (11 : Byte).toNat ∧ (10 : Byte).toNat < 11 ∧ 3 ≤ (3 : Byte).toNat ∧ (2 : Byte).toNat < 3 ∧ 2 ≤ (2 : Byte).toNat ∧
      (1 : Byte).toNat < 2 ∧ 3 ≤ (3 : Byte).toNat) ∧
    (∀ st ∈ [TState.fault, .record, .recordPause, .empty, .unthreaded],
      (inState st).Listens ∧ (inState st).reports = []) ∧
    ((inState .fault).mec.state = .fault ∧ (1 : Byte) ≠ 10) ∧ (inState .record).mec.state = .record ∧
    ((prerolled .time false).mec.owner = .timer ∧ (prerolled .time false).mec.state = .recordPause) ∧
    (inState .empty).mec.owner = .host ∧
    ((inState .unthreaded).mapMec fun m => { m with tab := .absent }).mec.tab = .absent := by
  unfold State.Listens; decide

theorem witness_DeckGoPlayThreadsFirst :
    ((2 : Byte).toNat < 3 ∧ (1 : Byte).toNat < 2) ∧
    (∀ st ∈ [TState.empty, .unthreaded, .threaded, .play, .still, .searchFwd, .searchRev, .record, .recordPause, .windFwd,
        .windRev, .loading, .threading, .unthreading, .ejecting, .recovery, .fault],
      let s := inState st
      s.Listens ∧ s.reports = [] ∧ s.mec.owner = .host ∧ s.mec.spin = false ∧ s.ctu.seek.state = .idle ∧
        s.tsc.active = none ∧ s.pins.endLit = false ∧ s.pins.beginLit = false ∧ s.mec.state = st ∧ s.mec.tab ≠ .absent ∧
        s.pwr.entry = .none) ∧
    ∀ st ∈ [TState.record, .recordPause], (hostHolds st).Listens ∧ (hostHolds st).reports = [] ∧
      (hostHolds st).mec.owner = .host ∧ (hostHolds st).mec.spin = false ∧ (hostHolds st).ctu.seek.state = .idle ∧
      (hostHolds st).tsc.active = none ∧ (hostHolds st).pins.endLit = false ∧ (hostHolds st).pins.beginLit = false ∧
      (hostHolds st).mec.state = st ∧ (hostHolds st).tar.holder = .record ∧ (hostHolds st).tar.origin = .host ∧
      (hostHolds st).tar.remembered = false ∧ (hostHolds st).tar.syncWait = false := by
  unfold State.Listens; decide

/-- A spin-up toward each recording target, and the change from RECORD_PAUSE to RECORD. -/
theorem witness_DeckGoPlayThreadsFirst_spin :
    ∀ x ∈ [(TState.threaded, Target.record), (.threaded, .recordPause), (.recordPause, .record)],
      let s := busy ((toward x.1 x.2 true).mapTar fun t =>
        if x.1 = .recordPause then { t with holder := .record, origin := .host } else t)
      s.Listens ∧ s.reports = [] ∧ s.mec.owner = .host ∧ s.mec.spin = true ∧
        s.mec.pending.map PendingTarget.target = some x.2 ∧ s.ctu.seek.state = .idle ∧ s.tsc.active = none ∧
        s.pins.endLit = false ∧ s.pins.beginLit = false ∧ s.mec.tab ≠ .absent ∧ s.mec.state = x.1 ∧ s.lnk.line.isSome ∧
        (x.1 = .recordPause → s.tar.holder = .record ∧ s.tar.origin = .host ∧ s.tar.remembered = false ∧
          s.tar.syncWait = false) := by unfold State.Listens; decide

theorem witness_DeckGoStopRests :
    (∀ st ∈ [TState.play, .still, .searchFwd, .searchRev, .windFwd, .windRev, .empty, .unthreaded, .threaded, .loading,
        .threading, .unthreading, .ejecting],
      (inState st).Listens ∧ (inState st).reports = [] ∧ (inState st).mec.owner = .host ∧
        (inState st).ctu.seek.state = .idle ∧ (inState st).mec.state = st ∧ (inState st).pwr.entry = .none ∧
        (inState st).mec.spin = false ∧ (inState st).mec.pending = none) ∧
    (let s := toward .threaded .record true
     s.Listens ∧ s.reports = [] ∧ s.mec.owner = .host ∧ s.ctu.seek.state = .idle ∧ s.mec.state = .threaded ∧
       s.mec.spin = true) ∧
    (∀ st ∈ [TState.record, .recordPause],
      let s := hostHolds st
      s.Listens ∧ s.reports = [] ∧ s.mec.owner = .host ∧ s.ctu.seek.state = .idle ∧ s.mec.state = st ∧
        s.tar.holder = .record ∧ s.tar.origin = .host ∧ s.tar.remembered = false ∧ s.tar.syncWait = false) ∧
    ∀ x ∈ [(recording .time .clear 1, TState.record, OccState.recording), (prerolled .time false, .recordPause, .arming),
        (prerolled .label true, .recordPause, .labelWait), (prerolled .label true, .recordPause, .labelBreak)],
      let s := x.1.mapTsc fun t => { t with active := t.active.map fun a => { a with state := x.2.2 } }
      s.Listens ∧ s.reports = [] ∧ s.ctu.seek.state = .idle ∧ s.mec.owner = .timer ∧
        s.tsc.active.map (fun a => (a.state, a.slot, a.date)) = some (x.2.2, 2, evening.date) ∧
        s.tsc.plan.map (fun e => (e.slot, e.date)) = [(2, evening.date)] ∧ s.pwr.deckUp = true ∧ s.pwr.entry = .none ∧
        s.tar.holder = .record ∧ s.tar.remembered = false ∧ s.tar.syncWait = false ∧ s.mec.state = x.2.1 ∧
        ∀ n ∈ List.range 16, drawSlot s n = [] := by unfold State.Listens; decide

theorem witness_CueWriteTakesOneAndHoldsOne :
    let r := inState .record
    let w := r.mapCtu fun c => { c with writing := some { code := 1, origin := .host, pos := 1 } }
    let f := w.mapCtu fun c => { c with waiting := some (2, .host) }
    32768 ≤ (0x8000#16).toNat ∧ (0x7FFF#16).toNat < 32768 ∧
    ((inState .empty).Listens ∧ (inState .empty).mec.state = .empty) ∧
    (awake.mec.state ≠ .empty ∧ awake.mec.state ≠ .ejecting ∧ awake.mec.state ≠ .record) ∧
    (r.Listens ∧ r.reports = [] ∧ r.mec.state = .record ∧ r.ctu.writing = none) ∧
    (w.Listens ∧ w.reports = [] ∧ w.mec.state = .record ∧ w.ctu.writing.isSome ∧ w.ctu.waiting = none) ∧
    (f.Listens ∧ f.reports = [] ∧ f.mec.state = .record ∧ f.ctu.writing.isSome ∧ f.ctu.waiting.isSome) := by
  unfold State.Listens; decide

theorem witness_CueSeekSearches :
    (1 < (2 : Byte).toNat ∧ ¬1 < (1 : Byte).toNat ∧ 15 < (16 : Byte).toNat ∧ ¬15 < (15 : Byte).toNat ∧ (0 : Byte).toNat = 0 ∧
      31 < (32 : Byte).toNat ∧ ¬31 < (31 : Byte).toNat ∧ (4#16).toNat < (5#16).toNat ∧ 32767 < (32768#16).toNat ∧
      ¬32767 < (32767#16).toNat) ∧
    (∀ st ∈ [TState.fault, .empty, .ejecting, .threaded, .play, .still, .searchFwd, .searchRev, .unthreaded, .windFwd, .windRev,
        .loading, .threading, .unthreading, .recovery],
      ∀ k ∈ [SeekState.idle, .running],
        let s := (inState st).mapCtu fun c => { c with seek := { c.seek with state := k } }
        s.Listens ∧ s.reports = [] ∧ s.mec.owner = .host ∧ s.mec.spin = false ∧ s.pins.endLit = false ∧
          s.pins.beginLit = false ∧ s.mec.state = st ∧ s.ctu.seek.state = k) ∧
    (∀ st ∈ [TState.record, .recordPause],
      let s := hostHolds st
      s.Listens ∧ s.reports = [] ∧ s.mec.owner = .host ∧ s.mec.spin = false ∧ s.pins.endLit = false ∧
        s.pins.beginLit = false ∧ s.mec.state = st ∧ s.tar.holder = .record ∧ s.tar.origin = .host ∧
        s.tar.remembered = false ∧ s.tar.syncWait = false) ∧
    (prerolled .time false).Listens ∧ (prerolled .time false).reports = [] ∧ (prerolled .time false).mec.state ≠ .fault ∧
    (prerolled .time false).mec.owner = .timer := by unfold State.Listens; decide

/-- Deck power is UP in ON with nothing reported, nothing pending and no occurrence, in every transport state. -/
theorem witness_states :
    ∀ st ∈ [TState.loading, .threading, .unthreading, .ejecting, .recovery, .play, .still, .searchFwd, .searchRev, .record,
        .recordPause, .threaded, .windFwd, .windRev],
      (inState st).reports = [] ∧ (inState st).pwr.mode = .on ∧ (inState st).pwr.deckUp = true ∧
        (inState st).pwr.entry = .none ∧ (inState st).mec.pending = none ∧ (inState st).tsc.active = none ∧
        (inState st).mec.owner = .host ∧ (inState st).mec.state = st ∧ (inState st).pins.endLit = false ∧
        (inState st).pins.beginLit = false ∧ (inState st).mec.motionTimer = none ∧ (inState st).mec.stall = false ∧
        (inState st).mec.endAction = .stop ∧ (inState st).mec.spin = false := by decide

theorem witness_CassetteSwitchMovesTheTransport :
    let e := (inState .empty).mapPins fun p => { p with cassette := false }
    e.reports = [] ∧ e.pwr.mode = .on ∧ e.pwr.deckUp = true ∧ e.pins.cassette = false ∧ e.mec.state = .empty := by decide

theorem witness_MotionsComplete :
    (∀ st ∈ [TState.threading, .unthreading, .loading, .ejecting, .recovery],
      let s := (inState st).mapMec fun m => { m with move := .toIn }
      s.reports = [] ∧ s.pwr.mode = .on ∧ s.pwr.deckUp = true ∧ s.pwr.entry = .none ∧ s.mec.pending = none ∧
        s.mec.state = st ∧ s.mec.move = .toIn ∧ s.pins.cassette = true ∧ s.tsc.active = none ∧ s.clk.state = .unset) ∧
    ((inState .recovery).mapMec fun m => { m with move := .toOut }).mec.move = .toOut ∧
    ModePos.between ≠ .thread ∧ ModePos.between ≠ .inn ∧ ModePos.between ≠ .out ∧
    (∀ st ∈ [TState.threading, .unthreading, .loading, .ejecting],
      ∀ t ∈ [Target.play, .record, .recordPause, .unthread, .eject, .windFwd],
        let s := toward st t false
        s.reports = [] ∧ s.pwr.mode = .on ∧ s.pwr.deckUp = true ∧ s.pwr.entry = .none ∧ s.mec.pending.isSome ∧
          s.mec.pending.map PendingTarget.target = some t ∧ s.mec.pending.map PendingTarget.origin = some .host ∧
          s.mec.owner = .host ∧ s.mec.spin = false ∧ s.pins.endLit = false ∧ s.mec.state = st ∧ s.mec.tab ≠ .absent) ∧
    ((toward .threading .record false).mapMec fun m => { m with tab := .absent }).mec.tab = .absent ∧
    ((toward .loading .record false).mapPins fun p => { p with tab := false }).pins.tab = false := by decide

theorem witness_TimersOfTheMechanismFail :
    (∀ st ∈ [TState.loading, .threading, .unthreading, .ejecting, .recovery],
      let s := (inState st).mapMec fun m => { m with motionTimer := some 3600 }
      s.reports = [] ∧ s.pwr.mode = .on ∧ s.pwr.deckUp = true ∧ s.pwr.entry = .none ∧ s.tsc.active = none ∧ s.mec.state = st ∧
        s.mec.motionTimer.isSome) ∧
    (∀ st ∈ [TState.threaded, .recordPause],
      let p : PendingTarget := { target := .record, speed := .x3, grade := .full, origin := .host }
      let s := (inState st).mapMec fun m => { m with spin := true, pending := some p }
      s.reports = [] ∧ s.pwr.mode = .on ∧ s.pwr.deckUp = true ∧ s.mec.spin = true ∧ s.mec.pending = some p ∧
        p.origin = .host ∧ s.mec.state = st) := by decide

theorem witness_IdleTimeoutRests :
    (∀ st ∈ [TState.still, .threaded],
      let s := (inState st).mapMec fun m => { m with idle := true }
      s.reports = [] ∧ s.pwr.mode = .on ∧ s.pwr.deckUp = true ∧ s.mec.idle = true ∧ s.mec.state = st) ∧
    (let s := (hostHolds .recordPause).mapMec fun m => { m with idle := true }
     s.reports = [] ∧ s.pwr.mode = .on ∧ s.pwr.deckUp = true ∧ s.mec.idle = true ∧ s.mec.state = .recordPause ∧
       s.mec.owner = .host ∧ s.tar.holder = .record ∧ s.tar.origin = .host ∧ s.tar.remembered = false ∧
       s.tar.syncWait = false) := by decide

theorem witness_SensorsStopTheTape :
    (∀ st ∈ [TState.play, .searchFwd, .windFwd, .windRev, .searchRev], ∀ a ∈ [EndAction.stop, .rewind],
      let s := (inState st).mapMec fun m => { m with endAction := a }
      s.reports = [] ∧ s.pwr.mode = .on ∧ s.pwr.deckUp = true ∧ s.pins.endLit = false ∧ s.pins.beginLit = false ∧
        s.mec.state = st ∧ s.mec.owner = .host ∧ s.mec.endAction = a ∧ s.pwr.entry = .none) ∧
    (∀ a ∈ [EndAction.stop, .rewind],
      let s := hostRecords.mapMec fun m => { m with endAction := a }
      s.reports = [] ∧ s.pwr.mode = .on ∧ s.pwr.deckUp = true ∧ s.pins.endLit = false ∧ s.mec.state = .record ∧
        s.mec.owner = .host ∧ s.ctu.seek.state = .idle ∧ s.tar.holder = .record ∧ s.tar.origin = .host ∧
        s.tar.remembered = false ∧ s.tar.syncWait = false ∧ s.mec.endAction = a ∧ s.ctu.writing.isSome) ∧
    (let s := awake.mapPins fun p => { p with endLit := true, beginLit := true }
     s.pins.endLit = true ∧ s.pins.beginLit = true ∧ s.pwr.mode = .on ∧ s.pwr.deckUp = true) := by decide

theorem witness_ReelStallUnthreadsOrFaults :
    (∀ st ∈ [TState.play, .searchFwd, .searchRev, .windFwd, .windRev, .unthreading, .recovery],
      let s := (inState st).mapMec fun m => { m with stall := true }
      s.reports = [] ∧ s.pwr.mode = .on ∧ s.pwr.deckUp = true ∧ s.mec.stall = true ∧ s.mec.state = st ∧
        s.tsc.active = none ∧ s.pwr.entry = .none) ∧
    (let s := hostRecords.mapMec fun m => { m with stall := true }
     s.reports = [] ∧ s.pwr.mode = .on ∧ s.pwr.deckUp = true ∧ s.mec.stall = true ∧ s.mec.state = .record ∧
       s.mec.owner = .host ∧ s.tar.holder = .record ∧ s.tar.origin = .host ∧ s.tar.remembered = false ∧
       s.tar.syncWait = false) := by decide

theorem witness_ServoFrameJudgesLock :
    let s (q : Quality) (run err : Nat) := (inState .play).mapSrv fun v => { v with quality := q, run := run, err := err }
    (∀ x ∈ [(Quality.locked, 0, 0), (.unstable, 0, 254), (.lost, 126, 255), (.lost, 127, 255)],
      (s x.1 x.2.1 x.2.2).reports = [] ∧ (s x.1 x.2.1 x.2.2).pwr.mode = .on ∧ (s x.1 x.2.1 x.2.2).pwr.deckUp = true ∧
        (s x.1 x.2.1 x.2.2).mec.state = .play ∧ (s x.1 x.2.1 x.2.2).mec.drum = true ∧
        (s x.1 x.2.1 x.2.2).mec.spin = false ∧ (s x.1 x.2.1 x.2.2).ctu.unread < 59 ∧
        (s x.1 x.2.1 x.2.2).srv.quality = x.1 ∧ (s x.1 x.2.1 x.2.2).srv.run = x.2.1) ∧
    ((-200 : Int) ≤ -200 ∧ (200 : Int) ≤ 200 ∧ ¬((-200 : Int) ≤ -201)) ∧
    (∀ x ∈ [(TState.threaded, Target.record), (.threaded, .recordPause), (.recordPause, .record)],
      let u := (toward x.1 x.2 true).mapSrv fun v => { v with err := 95 }
      u.reports = [] ∧ u.pwr.mode = .on ∧ u.pwr.deckUp = true ∧ u.mec.drum = true ∧ u.mec.spin = true ∧
        u.mec.pending.map PendingTarget.target = some x.2 ∧ u.mec.owner = .host ∧ u.srv.quality = .locked ∧
        u.srv.err ≤ 95 ∧ u.pins.endLit = false ∧ u.mec.state = x.1 ∧ u.tar.holder = .none) ∧
    (let u := hostRecords.mapSrv fun v => { v with quality := .unstable, err := 247 }
     u.reports = [] ∧ u.pwr.mode = .on ∧ u.pwr.deckUp = true ∧ u.mec.drum = true ∧ u.mec.state = .record ∧
       u.mec.spin = false ∧ u.mec.owner = .host ∧ u.srv.quality ≠ .lost ∧ 247 ≤ u.srv.err ∧ u.tar.holder = .record ∧
       u.tar.origin = .host ∧ u.tar.remembered = false ∧ u.tar.syncWait = false) := by decide

/-- The pre-roll is complete and RECORD is the target, under a control, with the effective stop some seconds ahead. -/
def recordNear (control : Control) (ahead : Nat) : State :=
  let s := (prerolled control true).mapMec fun m =>
    { m with spin := true, pending := some { target := .record, speed := .x3, grade := .half, origin := .timer } }
  let s := mapSlot 2 (fun l => { l with cue := true }) s
  s.mapTsc fun t =>
    { t with active := t.active.map fun a => { a with remaining := 9 },
             plan := t.plan.map fun e => { e with eStop := s.clk.reading + ahead } }

/-- The timer's entry to RECORD, at and past the range of the remaining seconds, under each control. -/
theorem witness_ServoFrameJudgesLock_timer :
    ∀ x ∈ [(Control.time, 0), (.time, 86400), (.time, 86401), (.label, 86401)],
      let s := recordNear x.1 x.2
      s.reports = [] ∧ s.pwr.mode = .on ∧ s.pwr.deckUp = true ∧ s.mec.drum = true ∧ s.mec.spin = true ∧
        s.mec.pending.map PendingTarget.target = some .record ∧ s.mec.state = .recordPause ∧ s.mec.owner = .timer ∧
        s.srv.quality = .locked ∧ s.srv.err ≤ 95 ∧ s.pins.endLit = false ∧ s.ctu.writing = none ∧
        s.tsc.active.map (fun a => (a.slot, a.date, a.control)) = some (2, evening.date, x.1) ∧
        s.tsc.plan.map (fun e => (e.slot, e.date, e.eStop - s.clk.reading)) = [(2, evening.date, x.2)] := by decide

/-- R158, R168 and R171: a RECORD entry sets the remaining seconds under time control, and leaves them under label control; the
timed mark of slot 2 on the 10th has code 32768 + 2 × 64 + 10 (R42). -/
theorem test_recordEntry_remaining :
    ∀ x ∈ [(Control.time, 86400, 86400), (.time, 2700, 2700), (.label, 86401, 9)],
      let t := after (exec (.servoFrame 0 ⟨0, 0⟩) (busy (recordNear x.1 x.2.1))) awake
      t.mec.state = .record ∧ t.tsc.active.map (fun a => (a.state, a.remaining)) = some (.recording, x.2.2) ∧
        t.ctu.writing = some { code := 32906, origin := .timer, pos := 1 } := by decide

theorem witness_FramesWithoutPulsesAndSweep :
    let p := (inState .play).mapSrv fun v => { v with noPulse := 59 }
    let c := (inState .play).mapCtu fun c => { c with unread := 59, acc := 23 }
    let m (mode : TrackMode) := (inState .play).mapSrv fun v => { v with mode := mode, phase := .measure, offset := 62 }
    (p.reports = [] ∧ p.pwr.mode = .on ∧ p.pwr.deckUp = true ∧ p.mec.state = .play ∧ p.srv.noPulse < 60) ∧
    (c.reports = [] ∧ c.pwr.mode = .on ∧ c.pwr.deckUp = true ∧ c.mec.state = .play ∧ c.ctu.unread < 60 ∧
      c.ctu.source = .pulse ∧ c.srv.basis = .full ∧ c.ctu.acc < 24) ∧
    (∀ mode ∈ [TrackMode.auto, .fixed],
      (m mode).reports = [] ∧ (m mode).pwr.mode = .on ∧ (m mode).pwr.deckUp = true ∧
        (List.replicate 8 (255 : Byte)).length = 8 ∧ ([255] : List Byte).length ≠ 8 ∧ (m mode).mec.state = .play ∧ (m mode).srv.mode = mode ∧
        (m mode).srv.phase = .measure ∧ (m mode).srv.offset < 63) := by decide

/-- The unread limit over several frames at each basis, up to an end of the counter, and the phases of the sweep, whose
readings of 8 levels of 100 are higher or not, at the bounds and inside them. -/
theorem witness_FramesWithoutPulsesAndSweep_more :
    (∀ st ∈ [TState.play, .searchFwd, .searchRev], ∀ x ∈ [(Grade.full, 23), (.half, 24), (.third, 40)],
      let s := ((inState st).mapSrv fun v => { v with basis := x.1 }).mapCtu fun c =>
        { c with unread := 59, acc := x.2, value := 1079999 }
      s.reports = [] ∧ s.pwr.mode = .on ∧ s.pwr.deckUp = true ∧ s.mec.state = st ∧ s.ctu.unread < 60 ∧
        s.ctu.source = .pulse ∧ s.ctu.uncertain = false ∧ s.ctu.mArmed = false) ∧
    (List.replicate 8 (100 : Byte)).length = 8 ∧ ((List.replicate 8 (100 : Byte)).map BitVec.toNat).sum = 800 ∧
    (∀ x ∈ [(SweepPhase.measure, (63 : Int), (0 : Int), 0), (.tryUp, 63, 59, 799), (.climbUp, 62, 58, 799), (.climbUp, 63, 62, 800),
        (.tryDown, -64, -60, 799), (.climbDown, -63, -59, 799), (.tryUp, -60, -64, 800), (.tryUp, 4, 0, 800),
        (.tryDown, -4, 0, 800), (.climbDown, -64, -63, 800), (.hold, 0, 0, 0)],
      let s := (inState .play).mapSrv fun v =>
        { v with mode := .auto, phase := x.1, offset := x.2.1, base := x.2.2.1, best := x.2.2.2 }
      s.reports = [] ∧ s.pwr.mode = .on ∧ s.pwr.deckUp = true ∧ s.mec.state = .play ∧ s.srv.mode = .auto) := by decide

theorem witness_ReadPulseMovesTheCounter :
    (∀ st ∈ [TState.play, .searchFwd, .searchRev],
      let s := (inState st).mapCtu fun c => { c with value := 1079999 }
      s.reports = [] ∧ s.pwr.mode = .on ∧ s.pwr.deckUp = true ∧ s.ctu.uncertain = false ∧ s.ctu.mArmed = false ∧
        s.ctu.seek.state = .idle ∧ s.mec.state = st) ∧
    (∀ a ∈ [MatchAction.notify, .stop, .stopThenPlay],
      let s := matchNear .play a
      s.reports = [] ∧ s.pwr.mode = .on ∧ s.pwr.deckUp = true ∧ s.ctu.uncertain = false ∧ s.ctu.mArmed = true ∧
        s.ctu.mSide = .below ∧ s.ctu.seek.state = .idle ∧ s.mec.state = .play ∧ s.pins.endLit = false ∧
        s.lnk.line.isSome ∧ s.ctu.mValue ≤ s.ctu.value + 1 ∧ s.ctu.mAction = a ∧ s.mec.owner = .host ∧
        s.mec.spin = false) ∧
    (((matchNear .play .stop).mapCtu fun c => { c with value := 8 }).ctu.value + 1 < (matchNear .play .stop).ctu.mValue) ∧
    (∀ a ∈ [MatchAction.notify, .stop, .stopThenPlay], ∀ v ∈ [(11 : Int), 12],
      let s := (matchNear .searchRev a).mapCtu fun c => { c with value := v, mSide := .above }
      s.reports = [] ∧ s.pwr.mode = .on ∧ s.pwr.deckUp = true ∧ s.ctu.uncertain = false ∧ s.ctu.mArmed = true ∧
        s.ctu.mSide = .above ∧ s.ctu.seek.state = .idle ∧ s.mec.state = .searchRev ∧ s.pins.endLit = false ∧
        s.lnk.line.isSome ∧ (s.ctu.value - 1 ≤ s.ctu.mValue ↔ v = 11) ∧ s.ctu.mAction = a ∧ s.mec.owner = .host ∧
        s.mec.spin = false) ∧
    (∀ x ∈ [(TState.play, Seek.reset, 2500), (.searchFwd, Seek.reset, 2500), (.searchRev, Seek.reset, 8000),
        (.searchFwd, seeking 12 12, 3999), (.searchFwd, seeking 13 14, 2500)],
      let s := markNear x.1 x.2.1
      s.reports = [] ∧ s.pwr.mode = .on ∧ s.pwr.deckUp = true ∧ s.ctu.uncertain = false ∧ s.ctu.mArmed = false ∧
        s.mec.owner = .host ∧ s.pins.endLit = false ∧ s.lnk.line.isSome ∧ s.ctu.window.length ≤ 24 ∧ s.mec.spin = false ∧
        s.mec.state = x.1 ∧ s.ctu.seek = x.2.1 ∧
        s.ctu.window ++ [classOf x.2.2] =
          let mark := (List.range 24).map fun i => markClass 12 (i + 1)
          if x.1 = .searchRev then mark.reverse else mark) := by decide

theorem witness_WrittenPulseAdvancesTheMark :
    (∀ pos ∈ [1, 23, 24],
      let s := (inState .record).mapCtu fun c => { c with writing := some { code := 9, origin := .host, pos := pos } }
      s.reports = [] ∧ s.pwr.mode = .on ∧ s.pwr.deckUp = true ∧ s.mec.state = .record ∧ s.ctu.uncertain = false ∧
        s.ctu.mArmed = false ∧ s.ctu.writing = some { code := 9, origin := .host, pos := pos }) ∧
    (inState .record).ctu.writing = none ∧
    (∀ a ∈ [MatchAction.notify, .stop],
      let s := (matchNear .record a).mapTar fun t => { t with holder := .record, origin := .host }
      s.reports = [] ∧ s.pwr.mode = .on ∧ s.pwr.deckUp = true ∧ s.mec.state = .record ∧ s.ctu.uncertain = false ∧
        s.ctu.mArmed = true ∧ s.ctu.mSide = .below ∧ s.ctu.mValue ≤ s.ctu.value + 1 ∧ s.ctu.mAction = a ∧
        s.mec.owner = .host ∧ s.tar.holder = .record ∧ s.tar.origin = .host ∧ s.tar.remembered = false ∧
        s.tar.syncWait = false ∧ s.lnk.line.isSome) := by decide

theorem witness_CapstanStepIsCounted :
    ∀ st ∈ [TState.play, .searchFwd, .searchRev, .record, .still], ∀ src ∈ [CounterSource.pulse, .step],
      ∀ x ∈ [(Grade.full, 22), (.full, 23), (.half, 11), (.third, 7)],
        let s := ((inState st).mapSrv fun v => { v with basis := x.1 }).mapCtu fun c => { c with source := src, acc := x.2 }
        s.reports = [] ∧ s.pwr.mode = .on ∧ s.pwr.deckUp = true ∧ s.mec.state = st ∧ s.ctu.source = src ∧
          s.srv.basis = x.1 ∧ s.ctu.acc = x.2 ∧ s.ctu.uncertain = false ∧ s.ctu.mArmed = false := by decide

theorem witness_ReelRevolutions :
    (inState .play).tpe.takeup.rev = none ∧
    (∀ x ∈ [(0, 0), (2, 0), (3, 1600), (3, 6400)],
      let v : OpenRev := { edges := x.1, count := x.2, spoiled := false }
      let s := (inState .play).mapTpe fun t => { t with takeup := { t.takeup with rev := some v } }
      s.reports = [] ∧ s.pwr.mode = .on ∧ s.pwr.deckUp = true ∧ s.mec.state = .play ∧ s.tpe.takeup.rev = some v ∧
        s.tpe.supply.fresh = false) ∧
    (∀ x ∈ [(1599, false), (6401, false), (1600, true)],
      let v : OpenRev := { edges := 3, count := x.1, spoiled := x.2 }
      ∀ st ∈ [ReelStatus.valid, .rejected, .invalid],
        let s := (inState .play).mapTpe fun t => { t with supply := { t.supply with status := st, rev := some v }, ls := some 9 }
        s.reports = [] ∧ s.pwr.mode = .on ∧ s.pwr.deckUp = true ∧ s.mec.state = .play ∧ s.tpe.supply.rev = some v ∧
          v.edges = 3 ∧ (v.count < 1600 ∨ 6400 < v.count ∨ v.spoiled = true) ∧ s.tpe.supply.status = st) ∧
    (∀ st ∈ [TState.windFwd, .windRev],
      let s := (inState st).mapTpe fun t => { t with supply := { t.supply with rev := some { edges := 0, count := 0, spoiled := false } } }
      s.reports = [] ∧ s.pwr.mode = .on ∧ s.pwr.deckUp = true ∧ s.mec.state = st ∧ s.tpe.supply.rev.isSome) ∧
    (∀ x ∈ [(Profile.unknown, 0, 1600, none), (.calibrated, 26922500, 6400, none), (.unknown, 0, 4840, some 1870),
        (.provisional, 26922500, 4840, some 1870), (.provisional, 20000000, 4840, some 1870),
        (.calibrated, 26922500, 4840, some 1870), (.calibrated, 20000000, 4840, some 1870)],
      let s := closing x.1 x.2.1 x.2.2.1 x.2.2.2
      s.reports = [] ∧ s.pwr.mode = .on ∧ s.pwr.deckUp = true ∧ s.mec.state = .play ∧
        s.tpe.supply.rev = some { edges := 3, count := x.2.2.1, spoiled := false } ∧ 1600 ≤ x.2.2.1 ∧ x.2.2.1 ≤ 6400 ∧
        s.tsc.active = none ∧ s.clk.state = .unset ∧ s.tpe.profile = x.1 ∧ s.tpe.takeup.fresh = x.2.2.2.isSome ∧
        s.tpe.takeup.c = x.2.2.2) ∧
    (let s := ratioNear
     s.reports = [] ∧ s.pwr.mode = .on ∧ s.pwr.deckUp = true ∧ s.mec.state = .windFwd ∧
       s.tpe.supply.rev = some { edges := 3, count := 700, spoiled := false } ∧ 20 ≤ 700 + 100 ∧ 700 + 100 ≤ 65535 ∧
       s.ctu.mArmed = false ∧ s.tpe.profile = .calibrated ∧ s.tpe.lt = some 4293728 ∧ s.tpe.takeup.t = some 500 ∧
       s.ctu.windRef = some 2700000 ∧ s.ctu.uncertain = false ∧ s.tpe.ls = some 2700000 ∧ -1080000 ≤ s.ctu.value ∧
       s.ctu.value ≤ 1079999) := by decide

theorem witness_ReelRevolutions_overflow :
    (∀ st ∈ [TState.windFwd, .windRev],
      let v : Option OpenRev := some { edges := 0, count := 0, spoiled := false }
      let s := (inState st).mapTpe fun t =>
        { t with supply := { t.supply with rev := v }, takeup := { t.takeup with rev := v } }
      s.reports = [] ∧ s.pwr.mode = .on ∧ s.pwr.deckUp = true ∧ s.mec.state = st ∧ s.tpe.supply.rev.isSome ∧
        s.tpe.takeup.rev.isSome) ∧
    ∀ st ∈ [TState.record, .searchRev, .unthreading], (inState st).reports = [] ∧ (inState st).pwr.mode = .on ∧
      (inState st).pwr.deckUp = true ∧ (inState st).mec.state ≠ .windFwd ∧ (inState st).mec.state ≠ .windRev := by decide

/-- Presets 7 and 99 qualify, 8 is skipped, from each end of the list and from a preset itself; the tuner is free or held, and
tuned to preset 7's frequency or to none. -/
theorem witness_TuneDirectBeginsATuning :
    ((899#16).toNat < 900 ∧ 17240 < (17241#16).toNat ∧ 900 ≤ (900#16).toNat ∧ (17240#16).toNat ≤ 17240 ∧ 4 ≤ (4 : Byte).toNat ∧
      (0 : Byte).toNat = 0 ∧ 99 < (100 : Byte).toNat ∧ (awake.preset (99 : Byte).toNat).used = false) ∧
    (∀ v ∈ [0, 7, 98, 99], ∀ h ∈ [Holder.none, .record], ∀ st ∈ [TunedState.none, .signal, .noSignal],
      let s := setPreset 7 (channel 4050) (setPreset 8 { channel 5000 with skip := true } (setPreset 99 (channel 900) (tunedAt st 0)))
      let s := s.mapTun fun t => { t with lastView := v }
      let s := s.mapTar fun t => { t with holder := h }
      s.Listens ∧ s.reports = [] ∧ s.tar.holder = h ∧ s.tun.tuned.state = st ∧ s.tun.tuned.freq = 4050 ∧
        s.tun.lastView = v ∧ (∀ p ∈ [7, 99], (s.preset p).used = true ∧ (s.preset p).skip = false) ∧
        (s.preset 8).used = true ∧ (s.preset 8).skip = true) ∧
    (∀ p ∈ List.range 100, ¬(1 ≤ p ∧ p ≤ 99 ∧ (awake.preset p).used = true ∧ (awake.preset p).skip = false)) := by
  unfold State.Listens; decide +kernel

theorem witness_PresetTableChanges :
    (0 : Byte).toNat = 0 ∧ 99 < (100 : Byte).toNat ∧ 1 ≤ (99 : Byte).toNat ∧ awake.hasTimeSource = false ∧
    (∀ b ∈ List.replicate 5 (0x7E : Byte), 0x20 ≤ b.toNat ∧ b.toNat ≤ 0x7E) ∧
    (let s := setPreset 7 (channel 4050) (tunedAt .signal 16)
     s.Listens ∧ s.reports = [] ∧ s.tun.tuned.source = .preset ∧ s.tun.tuned.preset = (7 : Byte).toNat ∧
       (s.preset 7).used = true ∧ s.tun.tuned.state = .signal) := by unfold State.Listens; decide +kernel

theorem witness_ScanRequestsRunTheScan :
    (let s := (scanAt .hold 900 17220 0).mapTun fun t => { t with scan := { t.scan with state := .paused } }
     s.Listens ∧ s.reports = [] ∧ s.tun.scan.state = .paused ∧ s.tun.scan.wrapped = false ∧
       s.tun.scan.finePos + 20 ≤ 17240) ∧
    (let s := (scanAt .dwell 900 900 0).mapTar fun t => { t with holder := .scan }
     s.Listens ∧ s.reports = [] ∧ s.tun.scan.state ≠ .idle ∧ s.tun.scan.state ≠ .paused ∧ s.tar.holder = .scan ∧
       s.tar.syncWait = false) ∧
    (let s := awake.mapTar fun t => { t with holder := .view }
     s.Listens ∧ s.reports = [] ∧ s.tar.holder = .view ∧ s.tar.syncWait = false) ∧
    awake.tun.scan.state = .idle ∧ awake.tar.holder = .none := by unfold State.Listens; decide

theorem witness_TuningCompletesInSignalOrNot :
    (tunedAt .settling 0).reports = [] ∧ (tunedAt .settling 0).tun.tuned.state = .settling ∧
      (tunedAt .settling 0).tun.tuned.settle.isSome ∧ (tunedAt .settling 0).tar.holder ≠ .record := by decide

theorem witness_DetectorReadingsDebounceAndTrack :
    (∀ d ∈ [1, 2],
      let s := (tunedAt .noSignal 0).mapTun fun t => { t with tuned := { t.tuned with disagree := d } }
      s.reports = [] ∧ s.tun.reading = true ∧ s.tsc.active = none ∧ s.tun.tuned.state = .noSignal ∧ s.tun.tuned.disagree = d) ∧
    (∀ d ∈ [1, 2],
      let s := (tunedAt .signal 0).mapTun fun t => { t with tuned := { t.tuned with disagree := d } }
      s.reports = [] ∧ s.tun.reading = true ∧ s.tsc.active = none ∧ s.tun.tuned.state = .signal ∧ s.tun.tuned.disagree = d) ∧
    (∀ f ∈ [(-16 : Int), -15, -14, 14, 15, 16],
      (tunedAt .signal f).reports = [] ∧ (tunedAt .signal f).tun.reading = true ∧ (tunedAt .signal f).tsc.active = none ∧
        (tunedAt .signal f).tun.tuned.state = .signal ∧ (tunedAt .signal f).tun.tuned.fine = f) := by decide

theorem witness_ScanReadingsStepTheScan :
    (∀ ph ∈ [ScanPhase.dwell, .fine, .hold],
      (scanAt ph 17220 17239 18).reports = [] ∧ (scanAt ph 17220 17239 18).tun.scan.state = .running ∧
        (scanAt ph 17220 17239 18).tun.tuned.state = .scanning ∧ (scanAt ph 17220 17239 18).tun.scan.wrapped = false ∧
        (scanAt ph 17220 17239 18).tun.scan.phase = ph ∧ (scanAt ph 17220 17239 18).tun.scan.pos + 20 ≤ 17240 ∧
        (scanAt ph 17220 17239 18).tun.scan.stepUp ≠ some false ∧ (scanAt ph 17220 17239 18).tun.scan.steps < 19 ∧
        (scanAt ph 17220 17239 18).tun.scan.finePos + 1 ≤ 17240 ∧ 900 ≤ (scanAt ph 17220 17239 18).tun.scan.finePos ∧
        (scanAt ph 17220 17239 18).tun.scan.auto = false) := by decide

theorem witness_SyncTimersEndSync :
    let w := awake.mapTar fun t => { t with syncWait := true, waitTimer := true }
    let h := awake.mapTar fun t => { t with holder := .sync, minHold := true, holdLimit := true }
    let v := busy (h.mapTar fun t => { t with hostWait := some (.view (.preset 7)) })
    let r := setPreset 99 { channel 5000 with timeSource := true } (awake.mapTar fun t =>
      { t with holder := .view, view := some (.preset 7), syncWait := true, waitTimer := true })
    (w.reports = [] ∧ w.pwr.mode = .on ∧ w.tar.waitTimer = true ∧ w.tar.minHold = false ∧ w.tar.holdLimit = false) ∧
      (h.reports = [] ∧ h.pwr.mode = .on ∧ h.tar.minHold = true ∧ h.tar.hostWait = none ∧ h.tar.holdLimit = true ∧
        h.tar.syncWait = false ∧ h.tar.waitTimer = false) ∧
      (v.reports = [] ∧ v.pwr.mode = .on ∧ v.tar.minHold = true ∧ v.tar.hostWait = some (.view (.preset 7)) ∧
        v.lnk.line.isSome) ∧
      r.Listens ∧ r.reports = [] ∧ r.pwr.mode = .on ∧ r.tar.holder = .view ∧ r.tar.syncWait = true ∧ r.pwr.deckUp = true ∧
      r.syncPreset = some 99 := by unfold State.Listens; decide

theorem witness_BadPacketsAreCounted :
    (List.replicate 12 (0 : Byte)).length = 12 ∧ (∃ b ∈ List.replicate 12 (0 : Byte), oddParity b = false) ∧
      (tunedAt .signal 0).tun.tuned.state = .signal ∧ awake.tun.tuned.state ≠ .signal ∧ awake.reports = [] := by decide

/-- A byte with the parity bit that makes its ones odd. -/
def withParity (n : Nat) : Byte := if oddParity (BitVec.ofNat 8 n) then BitVec.ofNat 8 n else BitVec.ofNat 8 (n + 128)

theorem witness_PacketsAreHandedOver :
    let a (asm : Assembly) (segs : BitVec 4) :=
      (tunedAt .signal 0).mapDld fun d => { d with asm := asm, asmCode := some 0x2A1#12, segs := segs }
    let s := setPreset 7 { channel 4050 with timeSource := true } (tunedAt .signal 0)
    let name := [0x23, 0x21, 0x05, 3, 65, 66, 67, 68, 69, 70, 71, 72].map withParity
    let time := [0x21, 2, 4, 0x06, 0x14, 0x19, 0x15, 0x20, 56, 1, 0, 0].map withParity
    let label := [0x22, 0x21, 0x05, 1, 2, 3, 1, 0, 0, 0, 0, 0].map withParity
    (s.reports = [] ∧ s.tun.tuned.state = .signal ∧ s.dld.asm = .empty ∧ s.fromTimeSource = true ∧ s.clk.candidate = none ∧
      s.dld.sel = 0 ∧ s.receivingPreset ≠ 0 ∧ (s.preset s.receivingPreset).network = none ∧ s.tsc.active = none) ∧
    (∀ p ∈ [name, time, label], p.length = 12 ∧ ∀ b ∈ p, oddParity b = true) ∧
    (networkOf (name.map dataBits) = 0x2A1#12 ∧ (a .complete 0xF).dld.asmCode ≠ some 0x2A2#12 ∧
      (a .assembling 1).dld.asm = .assembling ∧ (1#4 ||| 1#4 <<< 3 ≠ 0xF#4) ∧ (7#4 ||| 1#4 <<< 3 = 0xF#4)) ∧
    (name.map dataBits).getD 0 0 = 0x23 ∧ (label.map dataBits).getD 0 0 = 0x22 ∧ (time.map dataBits).getD 0 0 = 0x21 ∧
      (timeOf (time.map dataBits)).isSome ∧ signed7 ((time.map dataBits).getD 8 0) = 56 := by decide

/-- The segment that completes the record of network 0x2A1, while preset 7 is received: of that code, unnamed and named, and
with no code. -/
theorem witness_PacketsAreHandedOver_named :
    let p := [0x23, 0x21, 0x05, 0, 65, 66, 32, 32, 32, 69, 70, 71].map withParity
    (p.length = 12 ∧ (∀ b ∈ p, oddParity b = true) ∧ (p.map dataBits).getD 0 0 = 0x23 ∧ networkOf (p.map dataBits) = 0x2A1#12 ∧
      (p.map dataBits).getD 3 0 % 4 = 0) ∧
    ∀ x ∈ [(some 0x2A1#12, []), (some 0x2A1#12, [(0x41 : Byte)]), (none, [])],
      let s := (setPreset 7 { channel 4050 with network := x.1, name := x.2 } (tunedAt .signal 0)).mapDld fun d =>
        { d with asm := .assembling, asmCode := some 0x2A1#12, segs := 0xE#4 }
      s.reports = [] ∧ s.tun.tuned.state = .signal ∧ s.dld.asm = .assembling ∧ s.dld.asmCode = some 0x2A1#12 ∧
        s.dld.segs ||| 1#4 <<< 0 = 0xF#4 ∧ s.receivingPreset = 7 ∧ (s.preset 7).network = x.1 ∧ (s.preset 7).name = x.2 := by
  decide

/-- A clock under the BROADCAST source that holds a candidate, showing a time, with the TIME packet's 1 s later. -/
theorem witness_PacketsAreHandedOver_validated :
    let d : DateTime := { year := 24, month := 6, day := 14, hour := 19, minute := 15, second := 20 }
    ∀ x ∈ [(ClockState.unset, Clk.reset.now), (.manual, { d with hour := 21 }), (.manual, { d with day := 12 })],
      let s := setPreset 7 { channel 4050 with timeSource := true } (tunedAt .signal 0)
      let s := s.mapClk fun c =>
        { c with state := x.1, now := x.2, source := .broadcast,
                 candidate := some { utc := d.instant - 1, offset := 8, summer := true, age := 64 } }
      s.reports = [] ∧ s.tun.tuned.state = .signal ∧ s.fromTimeSource = true ∧ s.dld.sel.getLsbD 0 = false ∧
        s.pwr.mode = .on ∧ s.clk.syncOn = false ∧ s.clk.request = .none ∧ s.tsc.active = none ∧ s.tsc.plan = [] ∧
        (∀ n ∈ List.range 16, (s.slot n).state ≠ .armed) ∧
        (((d.instant : Int) - (d.instant - 1 : Nat)) * 64 - 64 = 0) ∧ 0 ≤ (d.instant : Int) + 8 * 900 ∧
        (d.instant : Int) + 8 * 900 < (rangeSeconds : Int) := by decide

/-- A LABEL packet that capture takes: into the front, into the back, and again into the back. -/
theorem witness_PacketsAreHandedOver_captured :
    let c : Capture := { type := .name, count := 255, preset := 0, data := [] }
    ∀ x ∈ [(none, none), (some c, none), (some c, some c)],
      let s := (tunedAt .signal 0).mapDld fun d => { d with sel := 2, front := x.1, back := x.2, count := 255 }
      let n := s.mapLnk fun l => { l with notices := 0x40 }
      s.reports = [] ∧ s.tun.tuned.state = .signal ∧ s.receivingPreset = 0 ∧ s.tsc.active = none ∧
        s.dld.sel.getLsbD 1 = true ∧ s.pwr.mode = .on ∧ s.lnk.mask.getLsbD 6 = true ∧ n.lnk.line = none ∧
        n.linkAwake = true ∧ n.lnk.parts = [] ∧ n.lnk.reply = none ∧ n.pendingNotice .packet = true ∧
        (∀ m ∈ notices, m.bit < 6 → n.pendingNotice m = false) := by decide

theorem witness_TicksMakeSeconds :
    let s (sub sec min : Nat) := awake.mapClk fun c =>
      { c with sub := sub, now := { c.now with second := sec, minute := min }, visitAge := some 359, visitTicks := 3838,
               retry := some 57598 }
    (∀ x ∈ [(62, 59, 58), (63, 58, 59), (63, 59, 58)],
      (s x.1 x.2.1 x.2.2).reports = [] ∧ (s x.1 x.2.1 x.2.2).clk.visitTicks < 3839 ∧
        (s x.1 x.2.1 x.2.2).clk.retry = some 57598 ∧ (s x.1 x.2.1 x.2.2).tsc.active = none ∧
        (s x.1 x.2.1 x.2.2).clk.ruleInForce = none ∧ (s x.1 x.2.1 x.2.2).clk.now.year ≤ 99) := by decide

theorem witness_SecondsCarry :
    ∀ d ∈ [({ year := 99, month := 12, day := 31, hour := 23, minute := 59, second := 59 } : DateTime),
        { year := 98, month := 12, day := 31, hour := 23, minute := 59, second := 59 },
        { year := 24, month := 2, day := 29, hour := 23, minute := 59, second := 59 },
        { year := 24, month := 2, day := 28, hour := 23, minute := 59, second := 59 },
        { year := 0, month := 1, day := 1, hour := 22, minute := 59, second := 59 },
        { year := 0, month := 1, day := 1, hour := 0, minute := 58, second := 59 },
        { year := 0, month := 1, day := 1, hour := 0, minute := 0, second := 58 }],
      let s := awake.mapClk fun c => { c with now := d }
      s.reports = [] ∧ s.clk.visitAge = none ∧ s.clk.retry = none ∧ s.clk.candidate = none ∧ s.tsc.active = none ∧
        s.clk.ruleInForce = none ∧ s.clk.state = .unset ∧ s.clk.now.valid = true := by decide

/-- A clock that was set, at the last second of 2099. -/
theorem witness_SecondsCarry_set :
    ∀ st ∈ [ClockState.manual, .broadcast], ∀ m ∈ [PowerMode.on, .backup],
      let d : DateTime := { year := 99, month := 12, day := 31, hour := 23, minute := 59, second := 59 }
      let s := busy ((clockAt d awake).mapClk fun c => { c with state := st })
      let s := s.mapPwr fun p => { p with mode := m }
      s.reports = [] ∧ s.clk.retry = none ∧ s.clk.candidate = none ∧ s.tsc.active = none ∧ s.tsc.plan = [] ∧
        s.clk.syncOn = false ∧ s.clk.ruleInForce = none ∧ s.clk.state = st ∧ s.clk.now = d ∧ s.pwr.mode = m ∧
        s.lnk.line.isSome ∧ s.lnk.mask.getLsbD 7 = true := by decide

/-- The three transitions, for an UNSET clock, for one that was set, beside a recording, and in BACKUP. -/
theorem witness_SummerTimeMovesTheClock :
    ∀ x ∈ [(Summer.summer, (8 : Int), 10, 27, 2), (.repeated, 4, 10, 27, 2), (.standard, 4, 3, 31, 1)],
    ∀ st ∈ [ClockState.unset, .manual, .broadcast],
      let s := (summerNight x.1 x.2.1).mapClk fun c =>
        { c with state := st, now := { year := 24, month := x.2.2.1, day := x.2.2.2.1, hour := x.2.2.2.2, minute := 59, second := 59 } }
      let i := s.clk.now.next.instant
      s.reports = [] ∧ s.clk.source = .rule ∧ s.clk.rule = some summer24 ∧ s.clk.sub = 63 ∧ s.clk.visitAge = none ∧
        s.clk.retry = none ∧ s.clk.now.next.year ≤ 99 ∧ s.clk.summer = x.1 ∧
        i = (if x.1 = .standard then summer24.startAt (instantYear i) else summer24.endAt (instantYear i)) ∧
        s.tsc.active = none ∧ s.tsc.plan = [] ∧ (∀ n ∈ List.range 16, (s.slot n).state ≠ .armed) ∧ s.pwr.mode ≠ .backup ∧
        (busy s).lnk.line.isSome ∧ (s.mapPwr fun p => { p with mode := .backup }).pwr.mode = .backup := by decide

/-- The occurrence of slot 2 beside any of these transitions: the records they read are TSC's alone. -/
theorem witness_SummerTimeMovesTheClock_recording :
    let s := recording .time .clear 5
    s.tsc.active.map (fun a => (a.slot, a.date, a.state, a.control)) = some (2, evening.date, .recording, .time) ∧
      s.tsc.plan.map (fun e => (e.slot, e.date, e.state, e.conflict)) = [(2, evening.date, .recording, .clear)] ∧
      s.clk.state ≠ .unset ∧ s.pwr.mode ≠ .backup ∧
      ∀ n ∈ List.range 16, (s.slot n).state = .armed →
        (s.slot n).recurrence = .once ∧ (s.slot n).once = evening.date ∧ (s.slot n).guard = some evening.date := by decide

theorem slots_unarmed (n : Nat) : (awake.slot n).state ≠ .armed := by
  have h : awake.slot n = Slot.reset := by
    show (((Vector.replicate 16 Slot.reset)[n]?).getD Slot.reset) = _
    by_cases hn : n < 16 <;> simp [hn]
  rw [h]; decide

theorem witness_ClockSettingsStore :
    (bcd 0x99 = some 99 ∧ bcd 0x12 = some 12 ∧ bcd 0x31 = some 31 ∧ bcd 0x23 = some 23 ∧ bcd 0x59 = some 59 ∧
      ({ year := 99, month := 12, day := 31, hour := 23, minute := 59, second := 59 } : DateTime).valid = true ∧
      awake.clk.state = .unset ∧ awake.tsc.active = none ∧ awake.tsc.plan = [] ∧ awake.clk.syncOn = false ∧
      awake.clk.source = .rule ∧ awake.clk.rule = none) ∧
    (bcd 0x9A = none ∧ (0xCF : Byte).toInt < -48 ∧ 56 < (57 : Byte).toInt ∧ -48 ≤ (0xD0 : Byte).toInt ∧ (56 : Byte).toInt ≤ 56 ∧
      awake.clk.state ≠ .broadcast ∧ (12 : Byte) ≠ 1 ∧ 2 ≤ (2 : Byte).toNat ∧ awake.clk.request = .none ∧
      awake.clk.srcExists = false) := by decide

/-- The fields of SET_TIME and of ZONE_PUT at the ends of their ranges and just beyond, and 02:00 of 2024-03-31, which the forward
transition skips. -/
theorem witness_ClockSettingsStore_fields :
    (bcd 0x00 = some 0 ∧ bcd 0x13 = some 13 ∧ bcd 0x1A = none ∧ bcd 0x30 = some 30 ∧ bcd 0x29 = some 29 ∧
      monthLength 24 2 = 29 ∧ monthLength 23 2 = 28 ∧ bcd 0x24 = some 24 ∧ bcd 0x23 = some 23 ∧ bcd 0x60 = some 60 ∧
      bcd 0x59 = some 59) ∧
    dateOf 24 3 31 * 86400 + 2 * 3600 = summer24.startAt 24 ∧ awake.clk.source = .rule ∧ awake.clk.ruleInForce = none ∧
    (2 ≤ (2 : Byte).toNat ∧ (1 : Byte).toNat < 2 ∧ (0 : Byte).toNat = 0 ∧ 12 < (13 : Byte).toNat ∧ ¬12 < (12 : Byte).toNat ∧
      5 < (6 : Byte).toNat ∧ ¬5 < (5 : Byte).toNat ∧ 22 < (23 : Byte).toNat ∧ ¬22 < (22 : Byte).toNat ∧
      23 < (24 : Byte).toNat ∧ (11 : Byte) ≠ 12) := by decide

theorem witness_SyncLimitsLeadToAVisit :
    let s := setPreset 99 { channel 5000 with timeSource := true } (awake.mapClk fun c => { c with syncOn := true, srcExists := true })
    (∀ a ∈ [0, 359], (awake.mapClk fun c => { c with visitAge := some a }).clk.visitAge = some a ∧ a < 360) ∧
    awake.clk.syncOn = false ∧
    (s.reports = [] ∧ s.clk.syncOn = true ∧ s.clk.srcExists = true ∧ s.pwr.mode = .on ∧ s.pwr.deckUp = true ∧
      s.clk.request = .none ∧ s.tar.holder = .none ∧ s.syncPreset = some 99 ∧ s.tun.tuned.state = .none ∧
      s.clk.retry = none ∧ s.clk.visitAge = none) := by decide

theorem witness_EventPutWritesTheSlot :
    (16 ≤ (16 : Byte).toNat ∧ (15 : Byte).toNat < 16 ∧ 4 ≤ (4 : Byte).toNat ∧ (3 : Byte).toNat ≤ 3 ∧ awake.tsc.active = none ∧
      awake.clk.state = .unset ∧ bcd 0x23 = some 23 ∧ bcd 0x59 = some 59 ∧ bcd 0x00 = some 0 ∧ 23 * 60 + 59 ≠ 0 * 60 + 0 ∧
      (0xFFFFF#24).toNat ≤ 1048575 ∧ ¬(0x100000#24).toNat ≤ 1048575) ∧
    ((prerolled .time false).Listens ∧ (prerolled .time false).reports = [] ∧
      (prerolled .time false).tsc.active.map Active.slot = some (2 : Byte).toNat) ∧
    (bcd 0x24 = some 24 ∧ bcd 0x02 = some 2 ∧ bcd 0x29 = some 29 ∧ 29 ≤ monthLength 24 2 ∧ bcd 0x30 = some 30 ∧
      ¬30 ≤ monthLength 24 2 ∧ bcd 0x13 = some 13 ∧ bcd 0x2A = none ∧ bcd 0x60 = some 60) ∧
    ((0x40 : Byte).toNat = 2 ^ 6 ∧ (0x80 : Byte).toNat = 2 ^ 7 ∧ (0x7F : Byte).toNat = 127 ∧
      ¬(100 : Byte).toNat ≤ 99 ∧ ¬1 ≤ (0 : Byte).toNat) := by
  unfold State.Listens; decide

/-- EVENT_PUT of the evening's programme, 20:00 to 21:00, into slot 15 at 19:00: the slot EMPTY, and HELD. -/
theorem witness_EventPutWritesTheSlot_set :
    let s := clockAt { evening with hour := 19, minute := 0 } awake
    s.Listens ∧ s.reports = [] ∧ s.tsc.active = none ∧ s.clk.state ≠ .unset ∧ s.clk.ruleInForce = none ∧
      bcd 0x05 = some 5 ∧ bcd 0x10 = some 10 ∧ dateOf 24 5 10 = s.clk.today ∧ dateOf 24 5 9 < s.clk.today ∧
      (s.slot 15).state ≠ .held ∧ (∀ m ∈ List.range 16, (s.slot m).state ≠ .armed) ∧ (s.slot 15).guard = none ∧
      (15, s.clk.today) ∉ s.tsc.skip ∧ s.clk.reading + 60 < s.clk.today * 86400 + 1200 * 60 ∧
      ((mapSlot 15 (fun _ => programme .held) s).slot 15).state = .held := by unfold State.Listens; decide

/-- R133: a rule flag that is neither set nor clear is refused with field 3, and changes nothing. -/
theorem test_zonePut_ruleFlag_refused :
    after (exec (.zonePut 4 0 2 3 5 2 10 5 3) awake) State.reset =
      transmit (awake.answering 0x32 (.refused .fieldRange 3)) := by decide

theorem witness_EventStateMovesTheSlot :
    (∀ st ∈ [SlotState.armed, .held],
      let s := mapSlot 15 (fun _ => programme st) awake
      s.Listens ∧ s.reports = [] ∧ (15 : Byte).toNat < 16 ∧ (s.slot 15).state = st ∧ s.tsc.active = none ∧
        s.clk.state = .unset) ∧
    (awake.slot 15).state = .empty ∧
    ((prerolled .time false).slot 2).state = .armed := by unfold State.Listens; decide

/-- ARM of slot 2 at 19:00, alone and beside slot 3: after it, overlapping with each order of priorities, and inside it. -/
theorem witness_EventStateMovesTheSlot_draws :
    ∀ x ∈ [(1260, 1320, 0), (1230, 1320, 0), (1230, 1320, 1), (1230, 1260, 0)],
      let s := twoSlots x.1 x.2.1 x.2.2
      let one := mapSlot 3 (fun _ => Slot.reset) s
      s.Listens ∧ s.reports = [] ∧ s.tsc.active = none ∧ s.clk.state = .manual ∧ s.clk.rule = none ∧
        s.clk.summer = .standard ∧ s.clk.now.valid = true ∧
        (∀ n ∈ [2, 3], (s.slot n).state = (if n = 2 then .held else .armed) ∧ (s.slot n).recurrence = .once ∧
          (s.slot n).once = s.clk.today ∧ (s.slot n).label = none ∧ (s.slot n).start < (s.slot n).stop ∧
          (s.slot n).stop < 1440 ∧ s.clk.reading + 60 < s.clk.today * 86400 + (s.slot n).start * 60 ∧
          (s.slot n).guard = none ∧ (n, s.clk.today) ∉ s.tsc.skip) ∧
        (s.slot 2).start < (s.slot 3).start ∧ (∀ n ∈ List.range 16, n ≠ 2 → n ≠ 3 → (s.slot n).state ≠ .armed) ∧
        ∀ n ∈ List.range 16, n ≠ 2 → (one.slot n).state ≠ .armed := by unfold State.Listens; decide

theorem witness_CancelSkipsTheOccurrence :
    badDate 0x24 0x05 0x10 = false ∧
    (awake.entry 15 (dateValue 0x24 0x05 0x10) = none) ∧
    (let s := recording .time .clear 1
     s.Listens ∧ s.reports = [] ∧ (s.entry 2 (dateValue 0x24 0x05 0x10)).map PlanEntry.state = some .recording ∧
       s.tsc.active.map Active.date = some (dateValue 0x24 0x05 0x10)) ∧
    (planned.Listens ∧ planned.reports = [] ∧ (planned.entry 2 (dateValue 0x24 0x05 0x10)).isSome ∧
      planned.tsc.active = none ∧ (planned.slot 2).recurrence = .once ∧
      (planned.slot 2).once = dateValue 0x24 0x05 0x10 ∧
      ∀ m ∈ List.range 16, m ≠ 2 → (planned.slot m).state ≠ .armed) ∧
    (let r : Result := { date := 5, outcome := .missed, run := none, doubtful := false, noSignal := false }
     ((mapSlot 15 (fun l => { l with result := some r }) awake).slot 15).result = some r) := by
  unfold State.Listens; decide

theorem witness_ArmingTakesTheDeck :
    let other : PlanEntry := { entry with slot := 3 }
    let two := planned.mapTsc fun t => { t with plan := [entry, other] }
    let none' := planned.mapMec fun m => { m with state := .empty }
    ((prerolled .time false).reports = [] ∧ (prerolled .time false).pwr.mode = .on ∧ (prerolled .time false).pwr.deckUp = true ∧
      (prerolled .time false).tsc.active.isSome) ∧
    (two.reports = [] ∧ two.pwr.mode = .on ∧ two.pwr.deckUp = true ∧
      two.tsc.plan.filter (fun x => x.due two.clk) = entry :: [other] ∧ ¬(other.slot = entry.slot ∧ other.date = entry.date) ∧
      entry.slot < 16 ∧ two.tsc.active = none ∧ two.mec.state = .unthreaded ∧
      two.mec.owner = .host ∧ two.mec.spin = false ∧ two.mec.pending = none ∧ two.mec.tab ≠ .absent ∧
      (two.preset (two.slot entry.slot).preset).used = true ∧ two.tar.holder = .none ∧
      two.tun.tuned.state = .none ∧ two.pwr.entry = .none ∧ two.ctu.seek.state = .idle) ∧
    (none'.tsc.plan = [entry] ∧ none'.tsc.plan.filter (fun x => x.due none'.clk) = entry :: [] ∧ none'.mec.owner = .host ∧
      none'.mec.state = .empty ∧ (none'.slot entry.slot).recurrence = .once ∧ (none'.slot entry.slot).once = entry.date ∧
      ∀ m ∈ List.range 16, m ≠ entry.slot → (none'.slot m).state ≠ .armed) := by decide

/-- The programme is due while the host plays, and may preempt or not, the tuner free or viewed. -/
theorem witness_ArmingTakesTheDeck_preempts :
    ∀ st ∈ [TState.play, .still, .searchFwd, .searchRev], ∀ pre ∈ [true, false], ∀ h ∈ [Holder.none, .view],
      let s := mapSlot 2 (fun l => { l with preempt := pre }) (planned.mapMec fun m => { m with state := st, drum := true })
      let s := s.mapTar fun t => { t with holder := h }
      s.reports = [] ∧ s.pwr.mode = .on ∧ s.pwr.deckUp = true ∧ s.tsc.plan.filter (fun x => x.due s.clk) = [entry] ∧
        entry.slot = 2 ∧ s.tsc.active = none ∧ s.mec.owner = .host ∧ s.mec.state = st ∧ s.mec.spin = false ∧
        s.mec.pending = none ∧ s.mec.tab ≠ .absent ∧ (s.preset (s.slot 2).preset).used = true ∧ s.tar.holder = h ∧
        (s.slot 2).preempt = pre ∧ s.pwr.entry = .none ∧ s.ctu.seek.state = .idle ∧ s.tsc.plan = [entry] ∧
        (s.slot 2).recurrence = .once ∧ (s.slot 2).once = entry.date ∧
        ∀ m ∈ List.range 16, m ≠ 2 → (s.slot m).state ≠ .armed := by decide

/-- The programme waits at its window end, or one second before it. -/
theorem witness_ArmingTakesTheDeck_missed :
    ∀ st ∈ [OccState.planned, .next], ∀ x ∈ [(nine, true), ({ evening with hour := 20, minute := 59, second := 59 }, false)],
      let s := busy ((clockAt x.1 planned).mapTsc fun t => { t with plan := [{ entry with state := st }] })
      s.reports = [] ∧ s.pwr.mode = .on ∧ s.pwr.deckUp = true ∧ s.tsc.plan = [{ entry with state := st }] ∧
        entry.slot < 16 ∧ s.tsc.active = none ∧ s.clk.reached entry.windowEnd = x.2 ∧ s.lnk.line.isSome ∧
        s.lnk.mask.getLsbD 9 = true ∧ (x.2 = true → ∀ n ∈ List.range 16, drawSlot s n = []) := by decide

/-- The recording of the RecordingsEnd statement, under a control and with a conflict verdict, at 21:00. -/
theorem witness_RecordingsEnd :
    (∀ x ∈ [(Control.time, Conflict.clear, 0), (.time, .trimmedEnd, 0), (.label, .trimmedEnd, 0), (.label, .clear, 1)],
      let s := clockAt nine (recording x.1 x.2.1 x.2.2)
      s.reports = [] ∧ s.pwr.mode = .on ∧ s.pwr.deckUp = true ∧ s.pwr.entry = .none ∧ s.tsc.active.isSome ∧
        s.tsc.plan.length = 1 ∧ s.mec.state = .record ∧ s.mec.owner = .timer ∧ s.mec.pending = none ∧ s.mec.spin = false ∧
        s.tsc.shadow = none ∧ s.tar.holder = .record ∧ s.tar.remembered = false ∧ s.tar.syncWait = false ∧
        s.ctu.writing = none ∧ s.clk.reached entry.eStop = true ∧ s.clk.reached entry.windowEnd = true ∧
        ∀ n ∈ List.range 16, drawSlot s n = []) ∧
    (recording .time .clear 1).clk.reached entry.windowEnd = false := by decide

/-- The same recording for the events that end it, under label control with its packets, and with a chain behind it. -/
theorem witness_RecordingsEnd_events :
    (let s := (recording .time .clear 1).mapMec fun m => { m with stall := true }
     let s := s.mapSrv fun v => { v with err := 247 }
     s.pins.endLit = false ∧ s.mec.endAction = .stop ∧ s.mec.stall = true ∧ s.mec.drum = true ∧ s.srv.quality ≠ .lost ∧
       247 ≤ s.srv.err ∧ ∀ n ∈ List.range 16, drawSlot s n = []) ∧
    (let s := labelled (recording .label .clear 1)
     ∀ st ∈ [2, 3],
       let p := [0x22, 0x21, 0x05, 2, 3, 1, st, 0, 0, 0, 0, 0].map withParity
       p.length = 12 ∧ (∀ b ∈ p, oddParity b = true) ∧ s.tun.tuned.state = .signal ∧ (s.slot 2).label = some keyed ∧
         (s.slot 2).preset ≠ 0 ∧ s.receivingPreset = (s.slot 2).preset ∧ s.dld.sel.getLsbD 1 = false ∧
         s.mec.tab ≠ .absent ∧ (s.preset s.receivingPreset).network = some (networkOf (p.map dataBits)) ∧
         keyed.agrees (BitVec.ofNat 20 (2 + 128 * 3 + 16384 * 1)) = true ∧ (p.map dataBits).getD 6 0 % 4 = st ∧
         ∀ n ∈ List.range 16, drawSlot s n = []) ∧
    (let s := chain
     s.reports = [] ∧ s.pwr.mode = .on ∧ s.pwr.deckUp = true ∧ s.pwr.entry = .none ∧ s.tsc.plan.length = 2 ∧
       s.tsc.plan.map PlanEntry.slot = [2, 3] ∧ s.tsc.active.map Active.slot = some 2 ∧
       s.tsc.active.map Active.remaining = some 0 ∧ s.tsc.plan.map PlanEntry.state = [.recording, .next] ∧
       s.clk.state ≠ .unset ∧ s.clk.reached (entry.pStop + 3600) = false ∧ s.mec.state = .record ∧
       s.mec.owner = .timer ∧ s.mec.spin = false ∧ s.mec.pending = none ∧ s.mec.tab ≠ .absent ∧
       (s.preset (s.slot 3).preset).used = true ∧ s.tar.holder = .record) := by decide

/-- The first occurrence's pre-roll threads while that of slot 3 waits for the deck; and a shadow context is full. -/
theorem witness_RecordingsEnd_fault :
    (let s := chain.mapMec fun m => { m with state := .threading, motionTimer := some 5 }
     let s := s.mapTsc fun t => { t with active := t.active.map fun a => { a with state := .arming, run := none } }
     s.reports = [] ∧ s.pwr.mode = .on ∧ s.pwr.deckUp = true ∧ s.pwr.entry = .none ∧
       s.tsc.active.map (fun a => (a.slot, a.date, a.state, a.run)) = some (2, evening.date, .arming, none) ∧
       s.tsc.plan.map (fun e => (e.slot, e.date, e.windowEnd)) =
         [(2, evening.date, entry.windowEnd), (3, evening.date, entry.pStop + 3600)] ∧
       s.tsc.plan.map PlanEntry.state = [.recording, .next] ∧ s.clk.state ≠ .unset ∧
       s.clk.reached (entry.pStop + 3600) = false ∧ s.mec.state = .threading ∧ s.mec.motionTimer.isSome ∧
       s.mec.owner = .timer ∧ (s.preset (s.slot 3).preset).used = true ∧ s.tar.holder = .record ∧ s.tar.origin = .timer ∧
       s.tar.remembered = false ∧ s.tar.syncWait = false ∧ (∀ n ∈ List.range 16, n ≠ 3 → drawSlot s n = []) ∧
       (s.slot 3).recurrence = .once ∧ (s.slot 3).once = evening.date) ∧
    (let c : Shadow := { state := .play, counter := 5, view := some (.preset 4), viewing := true }
     let s := (clockAt nine (recording .time .clear 0)).mapTsc fun t => { t with shadow := some c }
     s.tsc.shadow.isSome ∧ s.tsc.restored = none ∧ ∀ n ∈ List.range 16, drawSlot s n = []) := by decide

theorem witness_PreRollStartsOrGivesUp :
    ∀ x ∈ [(Control.time, true), (.time, false), (.label, false)],
      let s := clockAt nine (prerolled x.1 x.2)
      s.reports = [] ∧ s.pwr.mode = .on ∧ s.pwr.deckUp = true ∧ s.tsc.active.isSome ∧ s.tsc.plan.length = 1 ∧
        s.mec.state = .recordPause ∧ s.mec.owner = .timer ∧ s.mec.spin = false ∧ s.mec.pending = none ∧
        s.mec.tab ≠ .absent ∧ s.clk.reached (entry.eStart + 60) = true ∧ s.clk.reached entry.pStart = true ∧
        s.tsc.shadow = none ∧ s.tar.holder = .record ∧ s.tar.remembered = false ∧ s.tar.syncWait = false ∧
        s.pwr.entry = .none ∧ s.ctu.writing = none ∧ ∀ n ∈ List.range 16, drawSlot s n = [] := by decide

/-- A pre-roll under each control at its window end, and one second before it. -/
theorem witness_PreRollStartsOrGivesUp_window :
    ∀ c ∈ [Control.time, .label], ∀ st ∈ [OccState.arming, .labelWait],
      ∀ x ∈ [(nine, true), ({ evening with hour := 20, minute := 59, second := 59 }, false)],
        let s := (clockAt x.1 (prerolled c false)).mapTsc fun t =>
          { t with active := t.active.map fun a => { a with state := st }, plan := t.plan.map fun e => { e with state := st } }
        s.reports = [] ∧ s.pwr.mode = .on ∧ s.pwr.deckUp = true ∧
          s.tsc.active.map (fun a => (a.control, a.state, a.recorded)) = some (c, st, false) ∧
          s.tsc.active.map (fun a => (a.run, a.slot, a.date)) = some (none, 2, evening.date) ∧
          s.tsc.plan.map (fun e => (e.state, e.slot, e.date, e.windowEnd)) = [(st, 2, evening.date, entry.windowEnd)] ∧
          s.mec.state = .recordPause ∧ s.mec.owner = .timer ∧ s.mec.spin = false ∧ s.mec.pending = none ∧
          s.clk.reached entry.windowEnd = x.2 ∧ s.tsc.shadow = none ∧ s.tar.holder = .record ∧
          s.tar.remembered = false ∧ s.tar.syncWait = false ∧ s.pwr.entry = .none ∧ s.ctu.writing = none ∧
          (x.2 = true → ∀ n ∈ List.range 16, drawSlot s n = []) := by decide

/-- LABEL packets of a label-controlled occurrence that waits: matching and RUNNING, of another key, on another channel. -/
theorem witness_PreRollStartsOrGivesUp_labels :
    (∀ st ∈ [OccState.labelWait, .labelBreak],
      let s := labelled (prerolled .label true)
      let s := s.mapTsc fun t => { t with active := t.active.map fun a => { a with state := st } }
      ∀ key ∈ [2, 3],
        let p := [0x22, 0x21, 0x05, key, 3, 1, 1, 0, 0, 0, 0, 0].map withParity
        s.mec.state = .recordPause ∧ s.mec.owner = .timer ∧ p.length = 12 ∧ (∀ b ∈ p, oddParity b = true) ∧
          s.tun.tuned.state = .signal ∧ s.tsc.active.map Active.state = some st ∧ (s.slot 2).label = some keyed ∧
          s.receivingPreset = (s.slot 2).preset ∧ s.receivingPreset ≠ 0 ∧ s.dld.sel.getLsbD 1 = false ∧
          s.mec.tab ≠ .absent ∧ (s.preset s.receivingPreset).network = some (networkOf (p.map dataBits)) ∧
          keyed.agrees (BitVec.ofNat 20 (key + 128 * 3 + 16384 * 1)) = (key == 2)) ∧
    (let s := mapSlot 2 (fun l => { l with preset := 8 }) (labelled (prerolled .label true))
     s.receivingPreset = 7 ∧ s.receivingPreset ≠ (s.slot 2).preset) := by decide

theorem witness_WakingTheLink :
    (let s := awake.mapPwr fun p => { p with mode := .standby, link := .asleep, detector := some false }
     s.reports = [] ∧ s.pwr.mode = .standby ∧ s.pwr.detector = some false ∧ s.pwr.deckUp = true ∧ s.clk.syncOn = false) ∧
    (awake.pwr.mode = .on ∧ awake.pwr.detector = some true ∧ awake.reports = []) ∧
    (let s := awake.mapPwr fun p => { p with mode := .backup, detector := none }
     s.pwr.mode = .backup ∧ s.pwr.detector = none) ∧
    (let s := awake.mapPwr fun p => { p with link := .waking }
     s.reports = [] ∧ s.pwr.link = .waking ∧ s.pwr.mode = .on) ∧ awake.pwr.link ≠ .waking := by decide

theorem witness_StandbyPowersDown :
    (awake.Listens ∧ awake.reports = [] ∧ awake.tun.scan.state = .idle ∧ awake.mec.state = .unthreaded ∧
      awake.mec.pending = none ∧ awake.pwr.entry = .none ∧ awake.pwr.deckUp = true ∧ awake.pwr.returnTimer = false ∧
      awake.tsc.active = none ∧ awake.tsc.plan = [] ∧ awake.tar.holder = .none ∧ awake.clk.syncOn = false) ∧
    (let s := planned.mapPwr fun p => { p with mode := .standby, returnTimer := true }
     s.reports = [] ∧ s.tun.scan.state = .idle ∧ s.pwr.returnTimer = true ∧ s.pwr.mode = .standby ∧ s.pwr.deckUp = true ∧
       s.tsc.active = none ∧ s.atRest = true ∧ s.tar.holder = .none ∧ s.tsc.plan = [entry] ∧
       entry.state = .planned ∧ s.clk.reading ≤ entry.armAt ∧ entry.armAt ≤ s.clk.reading + 300) ∧
    (let s := (prerolled .time false).mapPwr fun p => { p with returnTimer := true }
     s.reports = [] ∧ s.tun.scan.state = .idle ∧ s.pwr.returnTimer = true ∧ s.tsc.active.isSome) := by
  unfold State.Listens; decide

theorem witness_SupplyLossAndReturn :
    (awake.pwr.mode ≠ .backup ∧ awake.tsc.active = none ∧ awake.tar.holder ≠ .sync ∧ awake.tar.syncWait = false) ∧
    (let s := hostRecords.mapTar fun t => { t with syncWait := true }
     s.reports = [] ∧ s.pwr.mode ≠ .backup ∧ s.tsc.active = none ∧ s.tar.syncWait = true ∧ s.ctu.writing.isSome ∧
       s.lnk.mask.getLsbD 10 = true ∧ s.lnk.mask.getLsbD 2 = true) ∧
    (let s := (after (exec .supplyLost awake) awake).mapPwr fun p => { p with supply := .lost }
     s.reports = [] ∧ s.pwr.mode = .backup ∧ s.pwr.supply = .lost) ∧
    (let s := (after (exec .supplyLost awake) awake).mapPwr fun p => { p with supply := .returning, supplyTimer := true }
     let s := s.mapPins fun p => { p with mode := .between }
     s.reports = [] ∧ s.pwr.mode = .backup ∧ s.pwr.supply = .returning ∧ s.pwr.supplyTimer = true ∧ s.pins.cassette = true ∧
       s.pins.mode = .between ∧ s.mec.state = .recovery ∧ s.clk.state = .unset ∧ s.tsc.active = none ∧
       s.clk.syncOn = false) := by decide

theorem witness_RestartRecovers :
    ∀ x ∈ [(TState.threaded, ModePos.thread), (.play, .thread), (.threading, .between), (.unthreaded, .inn), (.fault, .between),
        (.fault, .inn), (.empty, .out), (.ejecting, .between), (.ejecting, .out)],
      let s := (inState x.1).mapPins fun p => { p with mode := x.2 }
      s.Listens ∧ s.reports = [] ∧ s.mec.state = x.1 ∧ s.mec.owner = .host ∧ s.pins.cassette = true ∧
        s.pins.mode = x.2 ∧ s.tsc.active = none ∧ s.clk.state = .unset ∧ s.clk.syncOn = false ∧ s.tar.holder ≠ .sync ∧
        s.tar.syncWait = false ∧ s.pwr.deckUp = true ∧ s.ctu.seek.state = .idle := by unfold State.Listens; decide

/-- The ranges hold in `awake`, and a step from there answers a next state. -/
theorem witness_RangesKept :
    (LinkInv awake ∧ ServoInv awake ∧ CounterInv awake ∧ SkipInv awake) ∧ step awake = .next awake := by
  refine ⟨?_, rfl⟩
  unfold LinkInv ServoInv CounterInv SkipInv
  decide

/-- A recording with the most remaining seconds R158 allows, from which a step answers a next state. -/
theorem witness_RangesKept_remaining :
    let s := recording .time .clear 86400
    s.tsc.active.map Active.remaining = some 86400 ∧ RemainingInv s ∧ step s = .next s := by
  refine ⟨by decide, fun a h => ?_, rfl⟩
  cases h
  decide

end Sys2Proof.Tests
end

section
/-! SUPPORT. How a command ends: the reports it makes are taken in their order, and the transmit arbiter leaves every record
but the link's as it was. -/

namespace Sys2Proof.Machine

/-! ### The reports of a command are taken -/

/-- From one state the reports waiting, and those made meanwhile, lead in so many takings to another, which waits for none. -/
inductive Settles : Nat → State → State → Prop
  | quiet {s : State} (h : s.reports = []) : Settles 0 s s
  | take {n : Nat} {s t : State} {r : Report} {rest : List Report} (h : s.reports = r :: rest)
      (ht : Settles n (takeReport r { s with reports := rest }) t) : Settles (n + 1) s t

theorem settle_of_settles {n : Nat} {s t : State} (h : Settles n s t) (m : Nat) : settle (n + m) s = t := by
  induction h with
  | quiet h => exact settle_quiet h _
  | @take n s t r rest h _ ih => rw [Nat.add_right_comm, settle_cons h, ih]

/-- A command whose reports are all taken ends with the transmit arbiter. -/
theorem done_of_settles {n : Nat} {s t : State} (h : Settles n s t) (hn : n ≤ Config.reportBound) :
    done s = .next (transmit t) := by
  obtain ⟨m, hm⟩ := Nat.exists_eq_add_of_le hn
  rw [done, settled, hm, settle_of_settles h]

/-! ### The transmit arbiter -/

/-- The transmit arbiter touches LNK, DLD and the counter of the free values alone. -/
@[simp] theorem transmit_records (s : State) :
    (transmit s).mec = s.mec ∧ (transmit s).srv = s.srv ∧ (transmit s).ctu = s.ctu ∧ (transmit s).tpe = s.tpe ∧
    (transmit s).tun = s.tun ∧ (transmit s).tar = s.tar ∧ (transmit s).clk = s.clk ∧ (transmit s).tsc = s.tsc ∧
    (transmit s).pwr = s.pwr ∧ (transmit s).pins = s.pins ∧ (transmit s).reports = s.reports := by
  obtain ⟨l, d, n, h⟩ := transmit_frame s
  simp [h]

/-- What the transmit arbiter leaves of the link as it was: the mask and the sticky flags. -/
@[simp] theorem transmit_flags (s : State) :
    (transmit s).lnk.mask = s.lnk.mask ∧ (transmit s).lnk.sticky = s.lnk.sticky := by
  unfold transmit
  split
  · exact ⟨rfl, rfl⟩
  split
  swap
  · exact ⟨rfl, rfl⟩
  split
  · simp [beginPart, sendFrame_eq]
  · simp [beginReply_eq, sendFrame_eq]
  · unfold transmitNotice
    split
    · rename_i n _ _
      by_cases h : n = .packet
      · subst h
        simp [beginNotice_packet_eq, captureSent_eq, raiseIf_eq, sendFrame_eq]
      · simp [beginNotice_eq n s h, sendFrame_eq]
    · exact ⟨rfl, rfl⟩

@[simp] theorem transmit_stickySet (s : State) (f : Sticky) : (transmit s).stickySet f = s.stickySet f := by
  simp [State.stickySet]

@[simp] theorem transmit_slot (s : State) (n : Nat) : (transmit s).slot n = s.slot n := by simp [State.slot]

/-- Reported flags that are clear stay clear. -/
theorem transmit_reported {s : State} (h : s.lnk.reported = 0) : (transmit s).lnk.reported = 0 := by
  unfold transmit
  split
  · exact h
  split
  swap
  · exact h
  split
  · simpa [beginPart, sendFrame_eq] using h
  · simp [beginReply_eq, sendFrame_eq, h]
  · unfold transmitNotice
    split
    · rename_i n _ _
      by_cases hn : n = .packet
      · subst hn
        simpa [beginNotice_packet_eq, captureSent_eq, raiseIf_eq, sendFrame_eq] using h
      · simpa [beginNotice_eq n s hn, sendFrame_eq] using h
    · exact h

/-- While the link is not awake no notice goes out. -/
theorem transmit_notices {s : State} (h : s.linkAwake = false) : (transmit s).lnk.notices = s.lnk.notices := by
  unfold transmit transmitNotice
  split
  · rfl
  split
  swap
  · rfl
  split
  · simp [beginPart, sendFrame_eq]
  · simp [beginReply_eq, sendFrame_eq]
  · simp [h]

/-- Where no reply may go either, nothing at all goes out. -/
theorem transmit_silent {s : State} (h : s.repliesGo = false) : transmit s = s := by
  simp [transmit, h]

/-! ### The power mode tells which parts act -/

theorem linkAwake_mode {s : State} (h : s.linkAwake = true) : s.pwr.mode = .on := by
  simp only [State.linkAwake, Bool.and_eq_true, beq_iff_eq] at h
  exact h.2

theorem deckPowered_on {s : State} (hm : s.pwr.mode = .on) (hd : s.pwr.deckUp = true) : s.deckPowered = true := by
  simp [State.deckPowered, hm, hd]

end Sys2Proof.Machine
end

section
/-! SUPPORT. MEC's operations, each by what it makes of MEC's record, of the link and of the reports waiting. -/

namespace Sys2Proof.Machine

/-! ### The link but for the pending notices -/

/-- LNK's record without its pending notices, which nearly every operation may raise. -/
def Lnk.sansNotices (l : Lnk) : Lnk := { l with notices := 0 }

theorem Lnk.sticky_of_sans {a b : Lnk} (h : a.sansNotices = b.sansNotices) : a.sticky = b.sticky :=
  have := congrArg Lnk.sticky h
  this

theorem Lnk.mask_of_sans {a b : Lnk} (h : a.sansNotices = b.sansNotices) : a.mask = b.mask :=
  have := congrArg Lnk.mask h
  this

theorem Lnk.reported_of_sans {a b : Lnk} (h : a.sansNotices = b.sansNotices) : a.reported = b.reported :=
  have := congrArg Lnk.reported h
  this

theorem Lnk.line_of_sans {a b : Lnk} (h : a.sansNotices = b.sansNotices) : a.line = b.line :=
  have := congrArg Lnk.line h
  this

theorem Lnk.reply_of_sans {a b : Lnk} (h : a.sansNotices = b.sansNotices) : a.reply = b.reply :=
  have := congrArg Lnk.reply h
  this

theorem Lnk.buffer_of_sans {a b : Lnk} (h : a.sansNotices = b.sansNotices) : a.buffer = b.buffer :=
  have := congrArg Lnk.buffer h
  this

@[simp] theorem raise_sans (n : Notice) (s : State) : (raise n s).lnk.sansNotices = s.lnk.sansNotices := by
  simp [raise_eq, Lnk.sansNotices]

@[simp] theorem raiseIf_sans (b : Bool) (n : Notice) (s : State) : (raiseIf b n s).lnk.sansNotices = s.lnk.sansNotices := by
  simp [raiseIf_eq, Lnk.sansNotices]

@[simp] theorem drumStop_sans (s : State) : (drumStop s).lnk.sansNotices = s.lnk.sansNotices := by simp [drumStop]

@[simp] theorem endSeek_sans (k : CueKind) (s : State) : (endSeek k s).lnk.sansNotices = s.lnk.sansNotices := by
  unfold endSeek; split <;> simp [recordCue]

@[simp] theorem abortMark_sans (s : State) : (abortMark s).lnk.sansNotices = s.lnk.sansNotices := by
  unfold abortMark; split <;> simp [recordCue]

@[simp] theorem setDetected_sans (g : Grade) (s : State) : (setDetected g s).lnk.sansNotices = s.lnk.sansNotices := by
  simp [setDetected]

@[simp] theorem srvEnterRecord_sans (s : State) : (srvEnterRecord s).lnk.sansNotices = s.lnk.sansNotices := by
  unfold srvEnterRecord; dsimp only; split <;> simp

@[simp] theorem ctuEnterWind_sans (s : State) : (ctuEnterWind s).lnk.sansNotices = s.lnk.sansNotices := by
  unfold ctuEnterWind; split <;> simp [setUncertain]

@[simp] theorem leaveState_sans (o n : TState) (s : State) : (leaveState o n s).lnk.sansNotices = s.lnk.sansNotices := by
  unfold leaveState; (repeat' split) <;> simp

@[simp] theorem arriveState_sans (o n : TState) (s : State) : (arriveState o n s).lnk.sansNotices = s.lnk.sansNotices := by
  unfold arriveState; (repeat' split) <;> simp

@[simp] theorem enter_sans (n : TState) (k : Bool) (s : State) : (enter n k s).lnk.sansNotices = s.lnk.sansNotices := by
  unfold enter; dsimp only; (repeat' split) <;> simp

/-! ### Entering a state -/

/-- MEC's record after a state is entered: the record as entered, with the timers that follow the state. -/
def Mec.enters (n : TState) (k : Bool) (p : Pins) (m : Mec) : Mec :=
  { m.entered n k with
    idle := (m.entered n k).idleSituation,
    stall := (m.entered n k).reelDriven.isSome && !p.endLit && !p.beginLit }

@[simp] theorem enter_mec_eq (n : TState) (k : Bool) (s : State) : (enter n k s).mec = s.mec.enters n k s.pins :=
  enter_mec n k s

section
variable (n : TState) (k : Bool) (p : Pins) (m : Mec)

@[simp] theorem Mec.enters_state : (m.enters n k p).state = n := rfl
@[simp] theorem Mec.enters_owner : (m.enters n k p).owner = m.owner := rfl
@[simp] theorem Mec.enters_pending : (m.enters n k p).pending = m.pending := rfl
@[simp] theorem Mec.enters_tab : (m.enters n k p).tab = m.tab := rfl
@[simp] theorem Mec.enters_grade : (m.enters n k p).grade = m.grade := rfl
@[simp] theorem Mec.enters_speed : (m.enters n k p).speed = m.speed := rfl
@[simp] theorem Mec.enters_endAction : (m.enters n k p).endAction = m.endAction := rfl
@[simp] theorem Mec.enters_faultCause : (m.enters n k p).faultCause = m.faultCause := rfl
@[simp] theorem Mec.enters_reportCause : (m.enters n k p).reportCause = m.reportCause := rfl
@[simp] theorem Mec.enters_motionTimer : (m.enters n k p).motionTimer = m.motionTimer := rfl
@[simp] theorem Mec.enters_spin : (m.enters n k p).spin = m.spin := rfl
@[simp] theorem Mec.enters_drum : (m.enters n k p).drum = (n.drumTurns || (k && m.drum)) := rfl
@[simp] theorem Mec.enters_move : (m.enters n k p).move = .none := rfl

end

@[simp] theorem enterState_mec (n : TState) (s : State) : (enterState n s).mec = s.mec.enters n false s.pins :=
  enter_mec n false s

@[simp] theorem passThreaded_mec (s : State) : (passThreaded s).mec = s.mec.enters .threaded true s.pins :=
  enter_mec .threaded true s

/-- The reports of entering a state from another. -/
def entryReports (n : TState) (s : State) : List Report :=
  if s.mec.state = n then [] else leaveReports s.mec.state n s.mec.owner ++ arriveReports s.mec.state n s

@[simp] theorem enterState_reports (n : TState) (s : State) :
    (enterState n s).reports = s.reports ++ entryReports n s := enter_reports n false s

@[simp] theorem passThreaded_reports (s : State) : (passThreaded s).reports = s.reports ++ entryReports .threaded s :=
  enter_reports .threaded true s

@[simp] theorem enterState_sans (n : TState) (s : State) : (enterState n s).lnk.sansNotices = s.lnk.sansNotices :=
  enter_sans n false s

@[simp] theorem passThreaded_sans (s : State) : (passThreaded s).lnk.sansNotices = s.lnk.sansNotices :=
  enter_sans .threaded true s

/-! ### Motions and targets -/

@[simp] theorem startMotion_mec (n : TState) (s : State) :
    (startMotion n s).mec = { s.mec.enters n false s.pins with motionTimer := some (motionLimit n) } := by
  simp [startMotion]

@[simp] theorem startMotion_reports (n : TState) (s : State) : (startMotion n s).reports = s.reports ++ entryReports n s := by
  simp [startMotion]

@[simp] theorem startMotion_sans (n : TState) (s : State) : (startMotion n s).lnk.sansNotices = s.lnk.sansNotices := by
  simp [startMotion]

@[simp] theorem routeMotion_mec (n : TState) (p : PendingTarget) (s : State) :
    (routeMotion n p s).mec =
      { s.mec.enters n false s.pins with motionTimer := some (motionLimit n), pending := some p } := by
  simp [routeMotion, Mec.enters, Mec.entered, Mec.idleSituation, Mec.reelDriven, Mec.reelDrive]

@[simp] theorem routeMotion_reports (n : TState) (p : PendingTarget) (s : State) :
    (routeMotion n p s).reports = s.reports ++ entryReports n s := by
  simp [routeMotion, entryReports, arriveReports]

@[simp] theorem routeMotion_sans (n : TState) (p : PendingTarget) (s : State) :
    (routeMotion n p s).lnk.sansNotices = s.lnk.sansNotices := by simp [routeMotion]

@[simp] theorem loseTarget_mec (s : State) : (loseTarget s).mec = { s.mec with pending := none } := by
  unfold loseTarget; split <;> simp

@[simp] theorem loseTarget_sans (s : State) : (loseTarget s).lnk.sansNotices = s.lnk.sansNotices := by
  unfold loseTarget; split <;> simp

@[simp] theorem dropTarget_mec (p : PendingTarget) (r : Reason) (s : State) :
    (dropTarget p r s).mec = { s.mec with pending := none, reportCause := .refused r } := by
  simp [dropTarget]

@[simp] theorem dropTarget_reports (p : PendingTarget) (r : Reason) (s : State) :
    (dropTarget p r s).reports = s.reports ++ if p.origin == .timer then [.targetDropped r] else [] := by
  simp [dropTarget, reportIf_eq]

@[simp] theorem dropTarget_sans (p : PendingTarget) (r : Reason) (s : State) :
    (dropTarget p r s).lnk.sansNotices = s.lnk.sansNotices := by simp [dropTarget]

@[simp] theorem targetReached_mec (s : State) : (targetReached s).mec = { s.mec with pending := none } := rfl

/-- MEC's record as a target is entered: it is pending no more, and a search takes its speed (R7, R12). -/
def Mec.takesTarget (p : PendingTarget) (m : Mec) : Mec :=
  { m with pending := none, speed := if p.target.isSearch then p.speed else m.speed }

theorem enterTarget_mec (p : PendingTarget) (s : State) :
    (enterTarget p s).mec =
      if s.mec.state = p.target.stateOf then s.mec.takesTarget p
      else (s.mec.takesTarget p).enters p.target.stateOf false s.pins := by
  unfold enterTarget
  by_cases h : s.mec.state = p.target.stateOf <;> simp [h, Mec.takesTarget]

theorem enterTarget_reports (p : PendingTarget) (s : State) :
    (enterTarget p s).reports = s.reports ++ entryReports p.target.stateOf s := by
  unfold enterTarget
  by_cases h : s.mec.state = p.target.stateOf <;> simp [h, entryReports, arriveReports]

@[simp] theorem enterTarget_sans (p : PendingTarget) (s : State) :
    (enterTarget p s).lnk.sansNotices = s.lnk.sansNotices := by
  unfold enterTarget
  by_cases h : s.mec.state = p.target.stateOf <;> simp [h]

theorem beginSpinUp_mec {p : PendingTarget} {s : State} (h : s.mec.tab ≠ .absent) :
    (beginSpinUp p s).mec =
      { s.mec with
        pending := some p, spin := true, drum := true, grade := p.grade,
        idle := Mec.idleSituation { s.mec with drum := true } } := by
  simp [beginSpinUp, h, idleFollow, Mec.idleSituation]

theorem beginSpinUp_reports {p : PendingTarget} {s : State} (h : s.mec.tab ≠ .absent) :
    (beginSpinUp p s).reports = s.reports := by
  simp [beginSpinUp, h]

@[simp] theorem beginSpinUp_sans (p : PendingTarget) (s : State) :
    (beginSpinUp p s).lnk.sansNotices = s.lnk.sansNotices := by
  unfold beginSpinUp; split <;> simp

@[simp] theorem makePending_mec (p : PendingTarget) (s : State) :
    (makePending p s).mec =
      { s.mec with
        reportCause := if s.mec.pending.isSome then .none else s.mec.reportCause, pending := some p } := rfl

@[simp] theorem route_sans (p : PendingTarget) (s : State) : (route p s).lnk.sansNotices = s.lnk.sansNotices := by
  unfold route routeUnthreaded routeThreaded routePlaying routeRecording routeWinding
  (repeat' split) <;> simp

@[simp] theorem execTarget_sans (p : PendingTarget) (s : State) :
    (execTarget p s).lnk.sansNotices = s.lnk.sansNotices := by
  unfold execTarget duringSpinUp
  (repeat' split) <;> simp

@[simp] theorem stopTransport_sans (s : State) : (stopTransport s).lnk.sansNotices = s.lnk.sansNotices := by
  unfold stopTransport; (repeat' split) <;> simp

@[simp] theorem hostTarget_sans (t : Target) (v : Speed) (g : Grade) (s : State) :
    (hostTarget t v g s).lnk.sansNotices = s.lnk.sansNotices := by
  unfold hostTarget; split <;> simp

/-! ### Reports that find nothing to do -/

/-- The reports are taken, and nothing else has changed. -/
def State.heard (s : State) : State := { s with reports := [] }

/-- A report that leaves the state as it is, whatever is waiting behind it. -/
def IdleReport (s : State) (r : Report) : Prop :=
  ∀ rest, takeReport r { s with reports := rest } = { s with reports := rest }

/-- Reports that all find nothing to do. -/
theorem settles_idle {s : State} {l : List Report} (h : s.reports = l) (hid : ∀ r ∈ l, IdleReport s r) :
    Settles l.length s s.heard := by
  suffices hl : ∀ l : List Report, (∀ r ∈ l, IdleReport s r) → Settles l.length { s with reports := l } s.heard by
    subst h
    exact hl _ hid
  clear h hid
  intro l
  induction l with
  | nil => exact fun _ => .quiet rfl
  | cons r rest ih =>
    intro hr
    refine .take rfl ?_
    change Settles rest.length (takeReport r { s with reports := rest }) s.heard
    rw [hr r (by simp) rest]
    exact ih fun x hx => hr x (by simp [hx])

theorem settles_quiet {s : State} (h : s.reports = []) : Settles 0 s s.heard :=
  settles_idle h nofun

/-- With no standby entry staged, a rest reported in ON leads to nothing (R185, R187). -/
theorem idle_rest {s : State} (hm : s.pwr.mode = .on) (he : s.pwr.entry ≠ .waitRest) : IdleReport s .rest := by
  intro rest
  simp [takeReport, restReported, downTest, testPowerDown, hm, he]

/-- The power-down test is made in STANDBY alone (R187). -/
theorem idle_downTest {s : State} (hm : s.pwr.mode = .on) : IdleReport s .downTest := by
  intro rest
  simp [takeReport, downTest, testPowerDown, hm]

theorem settles_rest {s : State} (h : s.reports = [.rest]) (hm : s.pwr.mode = .on) (he : s.pwr.entry ≠ .waitRest) :
    Settles 1 s s.heard :=
  settles_idle h (by simpa using idle_rest hm he)

/-! ### A recording gives the tuner back (R102, R103) -/

/-- The RECORD grant is released, and neither a view nor a SYNC request waits for the tuner. -/
def tunerGivenBack (s : State) : State := setHolder .none (s.mapTar fun t => { t with remembered := false })

@[simp] theorem tunerGivenBack_frame (s : State) :
    (tunerGivenBack s).mec = s.mec ∧ (tunerGivenBack s).srv = s.srv ∧ (tunerGivenBack s).ctu = s.ctu ∧
    (tunerGivenBack s).tpe = s.tpe ∧ (tunerGivenBack s).tun = s.tun ∧ (tunerGivenBack s).dld = s.dld ∧
    (tunerGivenBack s).clk = s.clk ∧ (tunerGivenBack s).tsc = s.tsc ∧ (tunerGivenBack s).pwr = s.pwr ∧
    (tunerGivenBack s).pins = s.pins ∧ (tunerGivenBack s).reports = s.reports ∧
    (tunerGivenBack s).lnk.sansNotices = s.lnk.sansNotices ∧ (tunerGivenBack s).tar.holder = .none := by
  simp [tunerGivenBack, setHolder, raiseIf_eq, Lnk.sansNotices]

theorem releaseRecord_eq {s : State} (hh : s.tar.holder = .record) (hr : s.tar.remembered = false)
    (hw : s.tar.syncWait = false) : releaseRecord s = tunerGivenBack (report .downTest s) := by
  simp [releaseRecord, tunerFree, tunerGivenBack, setHolder, hh, hr, hw, raiseIf_eq]

/-- The tuner is held by a recording of the host, and nothing waits for it. -/
structure State.HostHolds (s : State) : Prop where
  holder : s.tar.holder = .record
  origin : s.tar.origin = .host
  remembered : s.tar.remembered = false
  syncWait : s.tar.syncWait = false

theorem hostRecordEnds_eq {s : State} (h : s.HostHolds) : hostRecordEnds s = tunerGivenBack (report .downTest s) := by
  rw [hostRecordEnds, if_pos h.origin, releaseRecord_eq h.holder h.remembered h.syncWait]

/-- In ON the end of a host's recording leads to no more than the tuner given back. -/
theorem settles_hostRecEnd {s : State} (h : s.reports = [.hostRecEnd]) (hh : s.HostHolds) (hm : s.pwr.mode = .on) :
    Settles 2 s (tunerGivenBack s).heard := by
  refine .take h ?_
  have hh' : s.heard.HostHolds := ⟨hh.holder, hh.origin, hh.remembered, hh.syncWait⟩
  have ht : takeReport .hostRecEnd s.heard = tunerGivenBack (report .downTest s.heard) := hostRecordEnds_eq hh'
  have hq : (tunerGivenBack (report .downTest s.heard)).heard = (tunerGivenBack s).heard := by
    simp [tunerGivenBack, setHolder, raiseIf_eq, report_eq, State.heard, State.mapTar, State.mapLnk]
  change Settles 1 (takeReport .hostRecEnd s.heard) _
  rw [ht, ← hq]
  exact settles_idle (l := [.downTest]) (by simp [report_eq, State.heard])
    (by simpa using idle_downTest (by simpa [State.heard] using hm))

end Sys2Proof.Machine
end

section
/-! SUPPORT. DECK_GO: how its fields are read, what refuses it, and how one that is taken ends. -/

namespace Sys2Proof.Machine

/-! ### A refused request -/

/-- A request that is refused changes nothing but the reply. -/
theorem done_refused {s : State} (hl : s.Listens) (hq : s.reports = []) {kind : Byte} {act : State → State} {r : Reply}
    (h : ∀ l, act { s with lnk := l } = reply r { s with lnk := l }) :
    done (arrives kind act s) = .next (transmit (s.answering kind r)) := by
  rw [arrives_listened hl, State.mapLnk, h, done_quiet (by simpa using hq)]
  rfl

/-! ### The fields of a DECK_GO -/

/-- A target byte within the list names a target (R8), and which of them the checks ask for. -/
theorem pick_targets {t : Byte} (h : t.toNat < 11) :
    ∃ x, pick targets t = some x ∧ (x = .stop ↔ t = 0) ∧ (x = .unthread ↔ t = 9) ∧ (x = .eject ↔ t = 10) ∧
      (x.isRecord = true ↔ t = 5 ∨ t = 6) := by
  obtain ⟨n, hn, rfl⟩ : ∃ n, n < 11 ∧ t = BitVec.ofNat 8 n := ⟨t.toNat, h, by simp⟩
  interval_cases n <;> exact ⟨_, rfl, by decide⟩

theorem pick_targets_none {t : Byte} (h : 11 ≤ t.toNat) : pick targets t = none := by
  simp [pick, targets, h]

/-- The grade a byte names. -/
def gradeOf (g : Byte) : Grade := if g = 0 then .full else if g = 1 then .half else .third

theorem pick_grades {g : Byte} (h : g.toNat < 3) : pick grades g = some (gradeOf g) := by
  obtain ⟨n, hn, rfl⟩ : ∃ n, n < 3 ∧ g = BitVec.ofNat 8 n := ⟨g.toNat, h, by simp⟩
  interval_cases n <;> rfl

theorem pick_grades_none {g : Byte} (h : 3 ≤ g.toNat) : pick grades g = none := by
  simp [pick, grades, h]

theorem exec_deckGo (t m g k o e : Byte) (s : State) :
    exec (.deckGo t m g k o e) s = done (arrives 0x10 (reqDeckGo t m g k o e) s) := rfl

theorem exec_deckGoStop (m g k o e : Byte) (s : State) :
    exec (.deckGoStop m g k o e) s = done (arrives 0x10 (reqDeckGo 0 m g k o e) s) := rfl

/-- DECK_GO's two last checked fields: the tracking mode and the end action. -/
theorem firstBad_deckGo (k e : Byte) :
    firstBad [(4, above 1 k), (6, above 2 e)] =
      if 2 ≤ k.toNat then some 4 else if 3 ≤ e.toNat then some 6 else none := by
  unfold firstBad above
  by_cases hk : 2 ≤ k.toNat
  · simp [hk, show 1 < k.toNat by omega]
  · by_cases he : 3 ≤ e.toNat
    · simp [hk, he, show ¬1 < k.toNat by omega, show 2 < e.toNat by omega]
    · simp [hk, he, show ¬1 < k.toNat by omega, show ¬2 < e.toNat by omega]

/-- A DECK_GO whose target and grade are in their lists. -/
theorem reqDeckGo_eq {t m g k o e : Byte} {x : Target} (ht : pick targets t = some x) (hg : g.toNat < 3) (s : State) :
    reqDeckGo t m g k o e s =
      if 2 ≤ k.toNat then refuseField 4 s else if 3 ≤ e.toNat then refuseField 6 s
      else match deckGoRefusal x s with
        | some r => refuse r s
        | none => deckGoTaken x m (gradeOf g) k o e s := by
  rw [reqDeckGo, ht, pick_grades hg]
  dsimp only
  rw [checked_eq, firstBad_deckGo]
  by_cases hk : 2 ≤ k.toNat
  · simp only [if_pos hk] <;> rfl
  · by_cases he : 3 ≤ e.toNat
    · simp only [if_neg hk, if_pos he] <;> rfl
    · simp only [if_neg hk, if_neg he] <;> rfl

/-! ### A DECK_GO that is taken (R8, R36) -/

/-- The end action a DECK_GO leaves. -/
def endActionAfter (e : Byte) (old : EndAction) : EndAction := if e = 1 then .stop else if e = 2 then .rewind else old

@[simp] theorem takeEndAction_mec (e : Byte) (s : State) :
    (takeEndAction e s).mec = { s.mec with endAction := endActionAfter e s.mec.endAction } := by
  unfold takeEndAction endActionAfter
  split
  · simp
  · split <;> simp

@[simp] theorem takeEndAction_frame (e : Byte) (s : State) :
    (takeEndAction e s).srv = s.srv ∧ (takeEndAction e s).ctu = s.ctu ∧ (takeEndAction e s).tpe = s.tpe ∧
    (takeEndAction e s).tun = s.tun ∧ (takeEndAction e s).tar = s.tar ∧ (takeEndAction e s).clk = s.clk ∧
    (takeEndAction e s).tsc = s.tsc ∧ (takeEndAction e s).pwr = s.pwr ∧ (takeEndAction e s).lnk = s.lnk ∧
    (takeEndAction e s).pins = s.pins ∧ (takeEndAction e s).reports = s.reports := by
  unfold takeEndAction; (repeat' split) <;> simp

@[simp] theorem trackingTake_sans (t : TrackMode) (i : Int) (s : State) :
    (trackingTake t i s).lnk.sansNotices = s.lnk.sansNotices := by
  unfold trackingTake; dsimp only; (repeat' split) <;> simp [sweepRestart]

/-- The state in which a DECK_GO that is taken asks MEC for its target: the request is held, the end action and the tracking
fields are taken (R8, R36), a seek is ABANDONED (R57), and the idle timer is stopped (R18). -/
def deckGoReady (k o e : Byte) (s : State) : State :=
  (trackingTake (if k = 0 then .auto else .fixed) o.toInt
    (endSeek .abandoned (takeEndAction e (s.mapLnk fun l => { l with buffer := some 0x10 })))).mapMec
      fun m => { m with idle := false }

@[simp] theorem deckGoReady_mec (k o e : Byte) (s : State) :
    (deckGoReady k o e s).mec = { s.mec with idle := false, endAction := endActionAfter e s.mec.endAction } := by
  simp [deckGoReady]

@[simp] theorem deckGoReady_frame (k o e : Byte) (s : State) :
    (deckGoReady k o e s).tpe = s.tpe ∧ (deckGoReady k o e s).tun = s.tun ∧ (deckGoReady k o e s).tar = s.tar ∧
    (deckGoReady k o e s).clk = s.clk ∧ (deckGoReady k o e s).tsc = s.tsc ∧ (deckGoReady k o e s).pwr = s.pwr ∧
    (deckGoReady k o e s).pins = s.pins ∧ (deckGoReady k o e s).reports = s.reports := by
  simp [deckGoReady]

@[simp] theorem deckGoReady_sans (k o e : Byte) (s : State) :
    (deckGoReady k o e s).lnk.sansNotices = { s.lnk with buffer := some 0x10 }.sansNotices := by
  simp [deckGoReady]

/-- The pending target a DECK_GO of the host asks for (R8, R12): in RECORD and RECORD_PAUSE at the grade in use (R14). -/
def deckGoTarget (x : Target) (m g : Byte) (s : State) : PendingTarget :=
  { target := x, speed := speedOf m.toNat, grade := if s.mec.state.recordPair then s.mec.grade else gradeOf g,
    origin := .host }

/-- A DECK_GO but STOP that is taken asks MEC for its target. -/
theorem deckGoTaken_eq {x : Target} (hx : x ≠ .stop) (m g k o e : Byte) (s : State) :
    deckGoTaken x m (gradeOf g) k o e (s.mapLnk fun l => { l with buffer := some 0x10 }) =
      reply (.deckGo x s.mec.state) (execTarget (deckGoTarget x m g s) (deckGoReady k o e s)) := by
  have hs : (x == Target.stop) = false := by simpa using hx
  simp only [deckGoTaken, deckGoReady, deckGoTarget, hostTarget, hs, Bool.false_and, reportIf, Bool.false_eq_true, if_false]
  simp

/-! ### Where MEC's routes lead (R10) -/

section
variable {p : PendingTarget} {s : State}

/-- The states in which PLAY, STILL and SEARCH are entered at once. -/
def TState.playing : TState → Bool
  | .threaded | .play | .still | .searchFwd | .searchRev => true
  | _ => false

/-- The targets that the tape path plays: PLAY, STILL and SEARCH. -/
def Target.plays : Target → Bool
  | .play | .still | .searchFwd | .searchRev => true
  | _ => false

/-- The targets for which the tape leaves the tape path: the winds, UNTHREAD and EJECT. -/
def Target.leavesPath : Target → Bool
  | .windFwd | .windRev | .unthread | .eject => true
  | _ => false

/-- THREADED is passed through on the way to another target, where it is not the present state (R10). -/
def throughThreaded (s : State) : State := if s.mec.state = .threaded then s else passThreaded s

@[simp] theorem throughThreaded_reports (s : State) :
    (throughThreaded s).reports = s.reports ++ entryReports .threaded s := by
  unfold throughThreaded
  by_cases h : s.mec.state = .threaded <;> simp [h, entryReports]

@[simp] theorem throughThreaded_mec (s : State) :
    (throughThreaded s).mec.state = .threaded ∧ (throughThreaded s).mec.owner = s.mec.owner ∧
    (throughThreaded s).mec.tab = s.mec.tab ∧ (throughThreaded s).mec.grade = s.mec.grade ∧
    (throughThreaded s).mec.spin = s.mec.spin ∧ (throughThreaded s).mec.reportCause = s.mec.reportCause ∧
    (throughThreaded s).mec.motionTimer = s.mec.motionTimer := by
  unfold throughThreaded
  by_cases h : s.mec.state = .threaded <;> simp [h]

@[simp] theorem throughThreaded_pins (s : State) : (throughThreaded s).pins = s.pins := by
  unfold throughThreaded; split <;> simp

theorem route_enters (hs : s.mec.state.isThreaded) (hp : p.target.plays) : route p s = enterTarget p s := by
  obtain ⟨t, v, g, o⟩ := p
  cases h : s.mec.state <;> simp_all [TState.isThreaded] <;> cases t <;> simp_all [Target.plays, route, routeThreaded,
    routePlaying, routeRecording]

theorem route_unthreads (hs : s.mec.state.isThreaded) (hp : p.target.leavesPath) :
    route p s = routeMotion .unthreading p (throughThreaded s) := by
  obtain ⟨t, v, g, o⟩ := p
  cases h : s.mec.state <;> simp_all [TState.isThreaded] <;> cases t <;> simp_all [Target.leavesPath, route, routeThreaded,
    routePlaying, routeRecording, throughThreaded]

theorem route_threads (hs : s.mec.state = .unthreaded ∨ s.mec.state.isWind) (hp : p.target.plays ∨ p.target.isRecord)
    (ht : p.target.isRecord → s.mec.tab ≠ .absent) : route p s = routeMotion .threading p s := by
  obtain ⟨t, v, g, o⟩ := p
  cases h : s.mec.state <;> simp_all [TState.isWind] <;> cases t <;> simp_all [Target.plays, Target.isRecord, route,
    routeUnthreaded, routeWinding]

theorem route_winds (hs : s.mec.state = .unthreaded ∨ s.mec.state.isWind)
    (hp : p.target = .windFwd ∨ p.target = .windRev) : route p s = enterTarget p s := by
  cases h : s.mec.state <;> simp_all [TState.isWind] <;> rcases hp with hp | hp <;>
    simp [hp, h, route, routeUnthreaded, routeWinding]

theorem route_ejects (hs : s.mec.state = .unthreaded ∨ s.mec.state.isWind) (hp : p.target = .eject) :
    route p s = routeMotion .ejecting p s := by
  cases h : s.mec.state <;> simp_all [TState.isWind, route, routeUnthreaded, routeWinding]

theorem route_spins (hs : s.mec.state.playing) (hp : p.target.isRecord) :
    route p s = beginSpinUp p (throughThreaded s) := by
  obtain ⟨t, v, g, o⟩ := p
  cases h : s.mec.state <;> simp_all [TState.playing] <;> cases t <;> simp_all [Target.isRecord, route, routeThreaded,
    routePlaying, throughThreaded]

end

/-- Nothing MEC does for a target changes its owner or its end action. -/
theorem route_owner (p : PendingTarget) (s : State) :
    (route p s).mec.owner = s.mec.owner ∧ (route p s).mec.endAction = s.mec.endAction := by
  unfold route routeUnthreaded routeThreaded routePlaying routeRecording routeWinding beginSpinUp idleFollow
  (repeat' split) <;> simp [enterTarget_mec, Mec.takesTarget] <;> (repeat' split) <;> simp

@[simp] theorem execTarget_owner (p : PendingTarget) (s : State) :
    (execTarget p s).mec.owner = s.mec.owner ∧ (execTarget p s).mec.endAction = s.mec.endAction := by
  unfold execTarget duringSpinUp
  (repeat' split) <;> simp [route_owner]

end Sys2Proof.Machine
end

section
/-! Proofs: DECK_GO is refused by the first check that fails. -/

namespace Sys2Proof.Machine

/-- A refusal of DECK_GO looks at the transport record and the active occurrence alone, and only the fields of the request come
before it. -/
theorem exec_deckGo_refused {t m g k o e : Byte} {s : State} {r : Reply} (hl : s.Listens) (hq : s.reports = [])
    (h : ∀ l, reqDeckGo t m g k o e { s with lnk := l } = reply r { s with lnk := l }) :
    exec (.deckGo t m g k o e) s = .next (transmit (s.answering 0x10 r)) :=
  done_refused hl hq h

theorem exec_deckGo_checked {t m g k o e : Byte} {s : State} {x : Target} {r : Reason} (hl : s.Listens) (hq : s.reports = [])
    (ht : pick targets t = some x) (hg : g.toNat < 3) (hk : k.toNat < 2) (he : e.toNat < 3)
    (hr : deckGoRefusal x s = some r) :
    exec (.deckGo t m g k o e) s = .next (transmit (s.answering 0x10 (.refused r 0))) := by
  refine exec_deckGo_refused hl hq fun l => ?_
  have hr' : deckGoRefusal x { s with lnk := l } = some r := hr
  rw [reqDeckGo_eq ht hg, if_neg (by omega), if_neg (by omega), hr']
  rfl

/-- R9's checks in their order, on the byte of the target. -/
theorem deckGoRefusal_eq {t : Byte} {x : Target} (hstop : x = .stop ↔ t = 0) (hunthread : x = .unthread ↔ t = 9)
    (heject : x = .eject ↔ t = 10) (hrec : x.isRecord = true ↔ t = 5 ∨ t = 6) (s : State) :
    deckGoRefusal x s =
      if s.mec.state = .fault ∧ t ≠ 10 then some .fault
      else if t = 10 ∧ (s.mec.state = .record ∨ s.tsc.active.isSome) then some .busyRecording
      else if s.mec.owner = .timer ∧ t ≠ 0 then some .busyTimer
      else if ((s.mec.state = .empty ∨ s.mec.state = .ejecting) ∧ t ≠ 0 ∧ t ≠ 9 ∧ t ≠ 10) ∨ (s.mec.state = .empty ∧ t = 10)
        then some .noCassette
      else if (t = 5 ∨ t = 6) ∧ s.mec.tab = .absent then some .tabProtected
      else none := by
  have hsplit : ∀ (a b : Prop) [Decidable a] [Decidable b] (y : Option Reason),
      (if a then some Reason.noCassette else if b then some .noCassette else y) = if a ∨ b then some .noCassette else y := by
    intro a b _ _ y
    by_cases ha : a <;> by_cases hb : b <;> simp [ha, hb]
  unfold deckGoRefusal
  dsimp only
  rw [hsplit]
  simp only [ne_eq, hstop, hunthread, heject, hrec, not_or]

end Sys2Proof.Machine

namespace Sys2Proof.Proofs
open Sys2Proof.Machine

/-- Settles O15: the fields are read before R9's checks, and a refusal only makes the reply. -/
theorem deckGoRefusals : Obligations.DeckGoRefusals := by
  unfold Obligations.DeckGoRefusals
  refine ⟨fun t m g k o e s hl hq => ⟨fun ht => ?_, fun ht hg => ?_, fun ht hg hk => ?_, fun ht hg hk he => ?_⟩,
    fun t m g k o e s hl hq ht hg hk he => ?_⟩
  · exact exec_deckGo_refused hl hq fun l => by simp only [reqDeckGo, pick_targets_none ht]; rfl
  · obtain ⟨x, hx, -⟩ := pick_targets ht
    exact exec_deckGo_refused hl hq fun l => by simp only [reqDeckGo, hx, pick_grades_none hg]; rfl
  · obtain ⟨x, hx, -⟩ := pick_targets ht
    exact exec_deckGo_refused hl hq fun l => by rw [reqDeckGo_eq hx hg, if_pos hk]; rfl
  · obtain ⟨x, hx, -⟩ := pick_targets ht
    exact exec_deckGo_refused hl hq fun l => by rw [reqDeckGo_eq hx hg, if_neg (by omega), if_pos he]; rfl
  · obtain ⟨x, hx, hstop, hunthread, heject, hrec⟩ := pick_targets ht
    have hr := deckGoRefusal_eq hstop hunthread heject hrec s
    intro fault recording timed none tab refused
    have refuses : ∀ {r}, deckGoRefusal x s = some r → refused r :=
      fun h => exec_deckGo_checked hl hq hx hg hk he h
    refine ⟨fun h1 => refuses ?_, fun h1 h2 => refuses ?_, fun h1 h2 h3 => refuses ?_, fun h1 h2 h3 h4 => refuses ?_,
      fun h1 h2 h3 h4 h5 => refuses ?_⟩
    · rw [hr, if_pos h1]
    · rw [hr, if_neg h1, if_pos h2]
    · rw [hr, if_neg h1, if_neg h2, if_pos h3]
    · rw [hr, if_neg h1, if_neg h2, if_neg h3, if_pos h4]
    · rw [hr, if_neg h1, if_neg h2, if_neg h3, if_neg h4, if_pos h5]

end Sys2Proof.Proofs
end

section
/-! SUPPORT. How a DECK_GO of the host ends: the reports that its route makes, and what they leave. -/

namespace Sys2Proof.Machine

/-! ### The reports of entering a state, under the host -/

/-- Neither leader sensor is lit. -/
def Pins.dark (p : Pins) : Prop := p.endLit = false ∧ p.beginLit = false

/-- Under the host, with both sensors dark, a state of no recording and of no rest is entered with at most one report: that the
host's recording ends. -/
theorem entryReports_host {n : TState} {s : State} (ho : s.mec.owner = .host) (hd : s.pins.dark)
    (hn : n.recordPair = false) (hr : n ≠ .empty ∧ n ≠ .unthreaded ∧ n ≠ .fault) :
    entryReports n s = if s.mec.state.recordPair then [.hostRecEnd] else [] := by
  obtain ⟨he, hb⟩ := hd
  have hrec : n ≠ .record ∧ n ≠ .recordPause := by constructor <;> rintro rfl <;> cases hn
  obtain ⟨h1, h2, h3⟩ := hr
  unfold entryReports leaveReports arriveReports
  by_cases h : s.mec.state = n
  · simp [h, hn]
  · cases hp : s.mec.state.recordPair <;> simp_all

/-- UNTHREADED, EMPTY and FAULT are reported as rests when they are entered from outside a recording. -/
theorem entryReports_rest {n : TState} {s : State} (hn : n = .empty ∨ n = .unthreaded ∨ n = .fault) (hs : s.mec.state ≠ n)
    (hr : s.mec.state.recordPair = false) : entryReports n s = [.rest] := by
  have hrec : s.mec.state ≠ .record := by intro h; simp [h, TState.recordPair] at hr
  obtain ⟨hp, hf, hv, h1, h2⟩ :
      n.recordPair = false ∧ n.forward = false ∧ n.reverse = false ∧ n ≠ .record ∧ n ≠ .recordPause := by
    rcases hn with rfl | rfl | rfl <;> decide
  have hq : (n == .empty || n == .unthreaded || n == .fault) = true := by rcases hn with rfl | rfl | rfl <;> rfl
  simp [entryReports, leaveReports, arriveReports, hs, hr, hrec, hp, hf, hv, h1, h2, hq]

/-! ### The reports of entering a state, under any owner -/

/-- The states whose entry makes no report of its own. -/
def TState.silent : TState → Bool
  | .loading | .threading | .threaded | .still | .unthreading | .ejecting | .recovery => true
  | _ => false

theorem entryReports_silent {n : TState} (hn : n.silent) (s : State) :
    entryReports n s = leaveReports s.mec.state n s.mec.owner := by
  obtain ⟨hp, hf, hr, h1, h2, h3⟩ : n.recordPair = false ∧ n.forward = false ∧ n.reverse = false ∧ n ≠ .empty ∧
      n ≠ .unthreaded ∧ n ≠ .fault := by
    revert hn
    cases n <;> decide
  have hrec : n ≠ .record ∧ n ≠ .recordPause := by constructor <;> rintro rfl <;> cases hp
  unfold entryReports arriveReports leaveReports
  by_cases h : s.mec.state = n
  · simp [h, hp, hrec]
  · simp [h, hp, hf, hr, h1, h2, h3, hrec]

theorem leaveReports_none {o n : TState} (h : o.recordPair = false) (w : Owner) : leaveReports o n w = [] := by
  have : o ≠ .record := by rintro rfl; cases h
  simp [leaveReports, h, this]

theorem leaveReports_host {o n : TState} (h : o.recordPair) (hn : n.recordPair = false) :
    leaveReports o n .host = [.hostRecEnd] := by
  simp [leaveReports, h, hn]

theorem leaveReports_timer (o n : TState) :
    leaveReports o n .timer = if o = .record then [.leftRecord] else [] := by
  simp [leaveReports]

/-! ### DECK_GO under the host -/

/-- A DECK_GO's fields are in their lists and the host may use the deck: no seek, no occurrence, both sensors dark. -/
structure HostGoes (g k e : Byte) (s : State) : Prop where
  listens : s.Listens
  quiet : s.reports = []
  owner : s.mec.owner = .host
  seek : s.ctu.seek.state = .idle
  grade : g.toNat < 3
  tracking : k.toNat < 2
  action : e.toNat < 3
  active : s.tsc.active = none
  dark : s.pins.dark

/-- Where a DECK_GO leads: what holds of the next state, in which the owner, the end action taken and the records that a route
does not touch are as they should be. -/
def Leads (m g k o e : Byte) (s : State) (t : Byte) (P : State → Prop) : Prop :=
  ∃ u, exec (.deckGo t m g k o e) s = .next u ∧ P u ∧ u.mec.owner = .host ∧
    u.mec.endAction = endActionAfter e s.mec.endAction ∧ u.tun = s.tun ∧ u.clk = s.clk ∧ u.tsc = s.tsc ∧ u.pwr = s.pwr

section
variable {m g k o e t : Byte} {s : State} {x : Target} {P : State → Prop}

theorem exec_deckGo_passed (h : HostGoes g k e s) (hx : pick targets t = some x) (hstop : x ≠ .stop)
    (hr : deckGoRefusal x s = none) :
    exec (.deckGo t m g k o e) s =
      done (reply (.deckGo x s.mec.state) (execTarget (deckGoTarget x m g s) (deckGoReady k o e s))) := by
  have hr' : deckGoRefusal x (s.mapLnk fun l => { l with buffer := some 0x10 }) = none := hr
  have hk := h.tracking
  have he := h.action
  rw [exec_deckGo, arrives_listened h.listens, reqDeckGo_eq hx h.grade, if_neg (by omega), if_neg (by omega), hr',
    deckGoTaken_eq hstop]

/-- The route makes no report, or reports a rest that nothing waits for. -/
theorem leads_of_quiet (h : HostGoes g k e s) (hx : pick targets t = some x) (hstop : x ≠ .stop)
    (hr : deckGoRefusal x s = none) {u : State} (hu : execTarget (deckGoTarget x m g s) (deckGoReady k o e s) = u)
    (hq : u.reports = [] ∨ u.reports = [.rest] ∧ s.pwr.entry = .none)
    (hP : ∀ v : State, v.mec = u.mec → P v) : Leads m g k o e s t fun v => P v ∧ v.tar = s.tar := by
  have hrec := execTarget_owner (deckGoTarget x m g s) (deckGoReady k o e s)
  have hfr := execTarget_frame (deckGoTarget x m g s) (deckGoReady k o e s)
  rw [hu] at hrec hfr
  obtain ⟨htun, htar, -, hclk, htsc, hpwr, -, -⟩ := hfr
  have hn : exec (.deckGo t m g k o e) s = .next (transmit (reply (.deckGo x s.mec.state) u).heard) := by
    rw [exec_deckGo_passed h hx hstop hr, hu]
    rcases hq with hq | ⟨hq, he⟩
    · exact done_of_settles (settles_quiet (by simpa using hq)) (by decide)
    · refine done_of_settles (settles_rest (by simpa using hq) ?_ ?_) (by decide)
      · simpa [hpwr] using linkAwake_mode h.listens.1
      · simp [hpwr, he]
  refine ⟨_, hn, ⟨hP _ (by simp [State.heard]), ?_⟩, ?_, ?_, ?_, ?_, ?_, ?_⟩ <;>
    simp [State.heard, htun, htar, hclk, htsc, hpwr, hrec, h.owner]

/-- The route ends the host's recording, and the tuner is given back. -/
theorem leads_of_recEnd (h : HostGoes g k e s) (hx : pick targets t = some x) (hstop : x ≠ .stop)
    (hr : deckGoRefusal x s = none) (hh : s.HostHolds) {u : State}
    (hu : execTarget (deckGoTarget x m g s) (deckGoReady k o e s) = u) (hq : u.reports = [.hostRecEnd])
    (hP : ∀ v : State, v.mec = u.mec → P v) : Leads m g k o e s t fun v => P v ∧ v.tar.holder = .none := by
  have hrec := execTarget_owner (deckGoTarget x m g s) (deckGoReady k o e s)
  have hfr := execTarget_frame (deckGoTarget x m g s) (deckGoReady k o e s)
  rw [hu] at hrec hfr
  obtain ⟨htun, htar, -, hclk, htsc, hpwr, -, -⟩ := hfr
  have hu' : (reply (.deckGo x s.mec.state) u).HostHolds := by
    obtain ⟨h1, h2, h3, h4⟩ := hh
    constructor <;> simp_all
  have hn : exec (.deckGo t m g k o e) s = .next (transmit (tunerGivenBack (reply (.deckGo x s.mec.state) u)).heard) := by
    rw [exec_deckGo_passed h hx hstop hr, hu]
    refine done_of_settles (settles_hostRecEnd (by simpa using hq) hu' ?_) (by decide)
    simpa [hpwr] using linkAwake_mode h.listens.1
  refine ⟨_, hn, ⟨hP _ (by simp [State.heard]), ?_⟩, ?_, ?_, ?_, ?_, ?_, ?_⟩ <;>
    simp [State.heard, htun, hclk, htsc, hpwr, hrec, h.owner]

end

end Sys2Proof.Machine
end

section
/-! SUPPORT. DECK_GO under the host with no spin-up under way: what each kind of route comes to, for each kind of state. -/

namespace Sys2Proof.Machine

/-! ### What a motion, an entry, a spin-up and a wait look like -/

/-- A motion of a route has begun: the drum is stopped and the target pends. -/
structure Mec.MovesTo (n : TState) (limit : Nat) (p : PendingTarget) (m : Mec) : Prop where
  state : m.state = n
  timer : m.motionTimer = some limit
  drum : m.drum = false
  pending : m.pending = some p

theorem movesTo_of_motion {n : TState} {p : PendingTarget} {s : State} (hn : n.drumTurns = false) :
    Mec.MovesTo n (motionLimit n) p (routeMotion n p s).mec :=
  ⟨by simp, by simp, by simp [hn], by simp⟩

/-- A target state is entered from a record of MEC. -/
structure Mec.Entered (n : TState) (p : PendingTarget) (old m : Mec) : Prop where
  state : m.state = n
  pending : m.pending = none
  speed : p.target.isSearch → m.speed = p.speed
  grade : m.grade = old.grade
  spin : m.spin = old.spin
  drum : n.drumTurns → old.state ≠ n → m.drum = true

theorem entered_of_target {p : PendingTarget} {s : State} :
    Mec.Entered p.target.stateOf p s.mec (enterTarget p s).mec := by
  rw [enterTarget_mec]
  split <;> rename_i h <;> constructor <;> simp +contextual [Mec.takesTarget, h]

/-- A spin-up toward a recording target has begun. -/
structure Mec.SpinsUp (n : TState) (p : PendingTarget) (m : Mec) : Prop where
  state : m.state = n
  spin : m.spin = true
  drum : m.drum = true
  pending : m.pending = some p
  grade : m.grade = p.grade

theorem spinsUp_of_begin {p : PendingTarget} {s : State} (ht : s.mec.tab ≠ .absent) :
    Mec.SpinsUp s.mec.state p (beginSpinUp p s).mec := by
  rw [beginSpinUp_mec ht]
  exact ⟨rfl, rfl, rfl, rfl, rfl⟩

/-- A target pends, and the motion in flight goes on. -/
structure Mec.Waits (p : PendingTarget) (old m : Mec) : Prop where
  state : m.state = old.state
  timer : m.motionTimer = old.motionTimer
  pending : m.pending = some p

/-! ### From an operation to what it does -/

theorem execTarget_route {p : PendingTarget} {s : State} (hm : s.mec.state.inMotion = false) (hs : s.mec.spin = false) :
    execTarget p s = route p s := by simp [execTarget, hm, hs]

theorem execTarget_waits {p : PendingTarget} {s : State} (hm : s.mec.state.inMotion = true) :
    execTarget p s = makePending p s := by simp [execTarget, hm]

/-- R9's checks all pass. -/
theorem deckGoRefusal_none {x : Target} {s : State} (ho : s.mec.owner = .host) (ha : s.tsc.active = none)
    (hf : s.mec.state = .fault → x = .eject) (hr : x = .eject → s.mec.state ≠ .record)
    (hn : s.mec.state = .empty ∨ s.mec.state = .ejecting → x = .unthread ∨ x = .eject)
    (he : x = .eject → s.mec.state ≠ .empty) (ht : x.isRecord → s.mec.tab ≠ .absent) : deckGoRefusal x s = none := by
  have h1 : ¬(s.mec.state = .fault ∧ x ≠ .eject) := fun h => h.2 (hf h.1)
  have h2 : ¬(x = .eject ∧ (s.mec.state = .record ∨ s.tsc.active.isSome)) := by
    rintro ⟨h, h' | h'⟩
    · exact hr h h'
    · simp [ha] at h'
  have h3 : ¬(s.mec.owner = .timer ∧ x ≠ .stop) := by simp [ho]
  have h4 : ¬((s.mec.state = .empty ∨ s.mec.state = .ejecting) ∧ ¬(x = .stop ∨ x = .unthread ∨ x = .eject)) :=
    fun h => h.2 (.inr (hn h.1))
  have h5 : ¬(s.mec.state = .empty ∧ x = .eject) := fun h => he h.2 h.1
  have h6 : ¬(x.isRecord ∧ s.mec.tab = .absent) := fun h => ht h.1 h.2
  simp only [deckGoRefusal, if_neg h1, if_neg h2, if_neg h3, if_neg h4, if_neg h5, if_neg h6]

/-- What a state is not when a route begins from it at once: no motion, no FAULT, and the cassette is in. -/
structure TState.Ready (n : TState) : Prop where
  motion : n.inMotion = false
  fault : n ≠ .fault
  empty : n ≠ .empty
  ejecting : n ≠ .ejecting

theorem ready_of_unthreaded {n : TState} (h : n = .unthreaded ∨ n.isWind) : n.Ready ∧ n.recordPair = false := by
  rcases h with rfl | h
  · exact ⟨by constructor <;> decide, rfl⟩
  · revert h
    cases n <;> intro h <;> cases h <;> exact ⟨by constructor <;> decide, rfl⟩

theorem ready_of_playing {n : TState} (h : n.playing) : n.Ready ∧ n.recordPair = false ∧ n.isThreaded = true := by
  revert h
  cases n <;> intro h <;> cases h <;> exact ⟨by constructor <;> decide, rfl, rfl⟩

theorem ready_of_recordPair {n : TState} (h : n.recordPair) : n.Ready ∧ n.isThreaded = true := by
  revert h
  cases n <;> intro h <;> cases h <;> exact ⟨by constructor <;> decide, rfl⟩

/-- A state entered at once that is neither recorded in nor a rest. -/
theorem stateOf_passing {x : Target} (h : x.plays ∨ x = .windFwd ∨ x = .windRev) :
    (x.stateOf.recordPair = false ∧ (x.stateOf ≠ .empty ∧ x.stateOf ≠ .unthreaded ∧ x.stateOf ≠ .fault)) ∧
      x ≠ .stop ∧ x ≠ .eject ∧ x.isRecord = false := by
  revert h
  cases x <;> decide

/-- From such a state R9 leaves only EJECT out of RECORD, and the recording targets without the tab. -/
theorem deckGoRefusal_ready {x : Target} {s : State} (ho : s.mec.owner = .host) (ha : s.tsc.active = none)
    (hs : s.mec.state.Ready) (hr : x = .eject → s.mec.state ≠ .record) (ht : x.isRecord → s.mec.tab ≠ .absent) :
    deckGoRefusal x s = none :=
  deckGoRefusal_none ho ha (fun h => absurd h hs.fault) hr
    (fun h => absurd h (by simp [hs.empty, hs.ejecting])) (fun _ => hs.empty) ht

@[simp] theorem deckGoTarget_target (x : Target) (m g : Byte) (s : State) : (deckGoTarget x m g s).target = x := rfl
@[simp] theorem deckGoTarget_speed (x : Target) (m g : Byte) (s : State) :
    (deckGoTarget x m g s).speed = speedOf m.toNat := rfl
@[simp] theorem deckGoTarget_origin (x : Target) (m g : Byte) (s : State) : (deckGoTarget x m g s).origin = .host := rfl
@[simp] theorem deckGoTarget_grade (x : Target) (m g : Byte) (s : State) :
    (deckGoTarget x m g s).grade = if s.mec.state.recordPair then s.mec.grade else gradeOf g := rfl

section
variable {m g k o e t : Byte} {s : State} {x : Target} {P : State → Prop}

/-- A route that begins at once, and makes no report but of a rest that nothing waits for. -/
theorem leads_of_route (h : HostGoes g k e s) (hst : s.mec.state.Ready) (hspin : s.mec.spin = false)
    (hx : pick targets t = some x) (hstop : x ≠ .stop) (heject : x = .eject → s.mec.state ≠ .record)
    (ht : x.isRecord → s.mec.tab ≠ .absent) {u : State} (hu : route (deckGoTarget x m g s) (deckGoReady k o e s) = u)
    (hq : u.reports = [] ∨ u.reports = [.rest] ∧ s.pwr.entry = .none) (hP : ∀ v : State, v.mec = u.mec → P v) :
    Leads m g k o e s t fun v => P v ∧ v.tar = s.tar :=
  leads_of_quiet h hx hstop (deckGoRefusal_ready h.owner h.active hst heject ht)
    ((execTarget_route (by simpa using hst.motion) (by simpa using hspin)).trans hu) hq hP

/-- A route that begins at once, and ends the host's recording. -/
theorem leads_of_routeEnds (h : HostGoes g k e s) (hst : s.mec.state.Ready) (hspin : s.mec.spin = false)
    (hx : pick targets t = some x) (hstop : x ≠ .stop) (heject : x = .eject → s.mec.state ≠ .record)
    (ht : x.isRecord → s.mec.tab ≠ .absent) (hh : s.HostHolds) {u : State}
    (hu : route (deckGoTarget x m g s) (deckGoReady k o e s) = u)
    (hq : u.reports = [.hostRecEnd]) (hP : ∀ v : State, v.mec = u.mec → P v) :
    Leads m g k o e s t fun v => P v ∧ v.tar.holder = .none :=
  leads_of_recEnd h hx hstop (deckGoRefusal_ready h.owner h.active hst heject ht) hh
    ((execTarget_route (by simpa using hst.motion) (by simpa using hspin)).trans hu) hq hP

/-- The reports of entering a state from where a DECK_GO of the host is taken. -/
theorem entryReports_ready (h : HostGoes g k e s) {n : TState} (hn : n.recordPair = false)
    (hn' : n ≠ .empty ∧ n ≠ .unthreaded ∧ n ≠ .fault) :
    entryReports n (deckGoReady k o e s) = if s.mec.state.recordPair then [.hostRecEnd] else [] := by
  rw [entryReports_host (by simpa using h.owner) (by simpa using h.dark) hn hn']
  simp

/-- After THREADED has been passed through nothing more is reported of a motion that begins. -/
theorem throughThreaded_motion_reports (h : HostGoes g k e s) (p : PendingTarget) :
    (routeMotion .unthreading p (throughThreaded (deckGoReady k o e s))).reports =
      if s.mec.state.recordPair then [.hostRecEnd] else [] := by
  rw [routeMotion_reports, throughThreaded_reports, entryReports_ready h rfl (by decide),
    entryReports_host (by simpa using h.owner) (by simpa using h.dark) rfl (by decide)]
  simp [h.quiet, TState.recordPair]

/-! ### From UNTHREADED and the winds -/

theorem leads_threading (h : HostGoes g k e s) (hs : s.mec.state = .unthreaded ∨ s.mec.state.isWind)
    (hspin : s.mec.spin = false) (hx : pick targets t = some x) (hp : x.plays ∨ x.isRecord)
    (ht : x.isRecord → s.mec.tab ≠ .absent)
    (hP : ∀ v : State, Mec.MovesTo .threading 3600 (deckGoTarget x m g s) v.mec → P v) :
    Leads m g k o e s t fun v => P v ∧ v.tar = s.tar := by
  obtain ⟨hst, hrp⟩ := ready_of_unthreaded hs
  have hx' : x ≠ .stop ∧ x ≠ .eject := by revert hp; cases x <;> decide
  have hr := route_threads (p := deckGoTarget x m g s) (s := deckGoReady k o e s) (by simpa using hs) hp (by simpa using ht)
  refine leads_of_route h hst hspin hx hx'.1 (fun he => absurd he hx'.2) ht hr (.inl ?_) fun v hv =>
    hP v (hv ▸ movesTo_of_motion rfl)
  simp [routeMotion_reports, entryReports_ready h (n := .threading) rfl (by decide), h.quiet, hrp]

theorem leads_winding (h : HostGoes g k e s) (hs : s.mec.state = .unthreaded ∨ s.mec.state.isWind)
    (hspin : s.mec.spin = false) (hx : pick targets t = some x) (hp : x = .windFwd ∨ x = .windRev)
    (hP : ∀ v : State, v.mec.state = x.stateOf → v.mec.pending = none → P v) :
    Leads m g k o e s t fun v => P v ∧ v.tar = s.tar := by
  obtain ⟨hst, hrp⟩ := ready_of_unthreaded hs
  obtain ⟨⟨hn, hn'⟩, hstop, heject, hrec⟩ := stateOf_passing (.inr hp)
  have hr := route_winds (p := deckGoTarget x m g s) (s := deckGoReady k o e s) (by simpa using hs) hp
  have he := entered_of_target (p := deckGoTarget x m g s) (s := deckGoReady k o e s)
  refine leads_of_route h hst hspin hx hstop (fun h => absurd h heject) (by simp [hrec]) hr (.inl ?_) fun v hv =>
    hP v (hv ▸ he.state) (hv ▸ he.pending)
  rw [enterTarget_reports, deckGoTarget_target, entryReports_ready h hn hn']
  simp [h.quiet, hrp]

theorem leads_ejecting (h : HostGoes g k e s) (hs : s.mec.state = .unthreaded ∨ s.mec.state.isWind)
    (hspin : s.mec.spin = false) (hx : pick targets t = some .eject)
    (hP : ∀ v : State, Mec.MovesTo .ejecting 6000 (deckGoTarget .eject m g s) v.mec → P v) :
    Leads m g k o e s t fun v => P v ∧ v.tar = s.tar := by
  obtain ⟨hst, hrp⟩ := ready_of_unthreaded hs
  have hr := route_ejects (p := deckGoTarget .eject m g s) (s := deckGoReady k o e s) (by simpa using hs) rfl
  have hrec : s.mec.state ≠ .record := fun h => by simp [h, TState.recordPair] at hrp
  refine leads_of_route h hst hspin hx (by decide) (fun _ => hrec) (by simp [Target.isRecord]) hr (.inl ?_) fun v hv =>
    hP v (hv ▸ movesTo_of_motion rfl)
  simp [routeMotion_reports, entryReports_ready h (n := .ejecting) rfl (by decide), h.quiet, hrp]

theorem leads_ejecting_fault (h : HostGoes g k e s) (hs : s.mec.state = .fault) (hspin : s.mec.spin = false)
    (hx : pick targets t = some .eject)
    (hP : ∀ v : State, Mec.MovesTo .ejecting 6000 (deckGoTarget .eject m g s) v.mec → v.mec.faultCause = .none → P v) :
    Leads m g k o e s t fun v => P v ∧ v.tar = s.tar := by
  have hr : execTarget (deckGoTarget .eject m g s) (deckGoReady k o e s) =
      routeMotion .ejecting (deckGoTarget .eject m g s)
        ((deckGoReady k o e s).mapMec fun m => { m with faultCause := .none }) := by
    rw [execTarget_route (by simp [hs, TState.inMotion]) (by simpa using hspin)]
    simp [route, hs]
  refine leads_of_quiet h hx (by decide) ?_ hr (.inl ?_) fun v hv => hP v (hv ▸ movesTo_of_motion rfl) (by simp [hv])
  · exact deckGoRefusal_none h.owner h.active (fun _ => rfl) (by simp [hs]) (fun _ => .inr rfl) (by simp [hs])
      (by simp [Target.isRecord])
  · rw [routeMotion_reports, entryReports_host (by simpa using h.owner) (by simpa using h.dark) rfl (by decide)]
    simp [h.quiet, hs, TState.recordPair]

/-- UNTHREAD in UNTHREADED is reached already, and from a wind the reels are braked. -/
theorem leads_unthreaded (h : HostGoes g k e s) (hs : s.mec.state = .unthreaded ∨ s.mec.state.isWind)
    (he : s.mec.state.isWind → s.pwr.entry = .none) (hspin : s.mec.spin = false) (hx : pick targets t = some .unthread)
    (hP : ∀ v : State, v.mec.state = .unthreaded → v.mec.pending = none → P v) :
    Leads m g k o e s t fun v => P v ∧ v.tar = s.tar := by
  obtain ⟨hst, hrp⟩ := ready_of_unthreaded hs
  rcases hs with hs | hs
  · have hr : route (deckGoTarget .unthread m g s) (deckGoReady k o e s) = targetReached (deckGoReady k o e s) := by
      simp [route, routeUnthreaded, hs]
    exact leads_of_route h hst hspin hx (by decide) (by simp) (by simp [Target.isRecord]) hr (.inl (by simp [h.quiet]))
      fun v hv => hP v (by simp [hv, hs]) (by simp [hv])
  · have hr : route (deckGoTarget .unthread m g s) (deckGoReady k o e s) =
        enterState .unthreaded (targetReached (deckGoReady k o e s)) := by
      revert hs
      cases hc : s.mec.state <;> intro hs <;> cases hs <;> simp [route, routeWinding, hc]
    refine leads_of_route h hst hspin hx (by decide) (by simp) (by simp [Target.isRecord]) hr (.inr ⟨?_, he hs⟩)
      fun v hv => hP v (by simp [hv]) (by simp [hv])
    have hne : s.mec.state ≠ .unthreaded := fun h => by simp [h, TState.isWind] at hs
    rw [enterState_reports, entryReports_rest (.inr (.inl rfl)) (by simpa using hne) (by simpa using hrp)]
    simp [h.quiet]

/-! ### From the tape path -/

theorem entered_ready : Mec.Entered x.stateOf (deckGoTarget x m g s) s.mec
    (enterTarget (deckGoTarget x m g s) (deckGoReady k o e s)).mec := by
  have he := entered_of_target (p := deckGoTarget x m g s) (s := deckGoReady k o e s)
  exact ⟨he.state, he.pending, he.speed, by simpa using he.grade, by simpa using he.spin, by simpa using he.drum⟩

theorem leads_playing (h : HostGoes g k e s) (hs : s.mec.state.playing) (hspin : s.mec.spin = false)
    (hx : pick targets t = some x) (hp : x.plays)
    (hP : ∀ v : State, Mec.Entered x.stateOf (deckGoTarget x m g s) s.mec v.mec → P v) :
    Leads m g k o e s t fun v => P v ∧ v.tar = s.tar := by
  obtain ⟨hst, hrp, hth⟩ := ready_of_playing hs
  obtain ⟨⟨hn, hn'⟩, hstop, heject, hrec⟩ := stateOf_passing (.inl hp)
  have hr := route_enters (p := deckGoTarget x m g s) (s := deckGoReady k o e s) (by simpa using hth) hp
  refine leads_of_route h hst hspin hx hstop (fun h => absurd h heject) (by simp [hrec]) hr (.inl ?_) fun v hv =>
    hP v (hv ▸ entered_ready)
  rw [enterTarget_reports, deckGoTarget_target, entryReports_ready h hn hn']
  simp [h.quiet, hrp]

theorem leads_unthreading (h : HostGoes g k e s) (hs : s.mec.state.playing) (hspin : s.mec.spin = false)
    (hx : pick targets t = some x) (hp : x.leavesPath)
    (hP : ∀ v : State, Mec.MovesTo .unthreading 3600 (deckGoTarget x m g s) v.mec → P v) :
    Leads m g k o e s t fun v => P v ∧ v.tar = s.tar := by
  obtain ⟨hst, hrp, hth⟩ := ready_of_playing hs
  have hx' : x ≠ .stop ∧ x.isRecord = false := by revert hp; cases x <;> decide
  have hrec : s.mec.state ≠ .record := fun h => by simp [h, TState.recordPair] at hrp
  have hr := route_unthreads (p := deckGoTarget x m g s) (s := deckGoReady k o e s) (by simpa using hth) hp
  refine leads_of_route h hst hspin hx hx'.1 (fun _ => hrec) (by simp [hx'.2]) hr (.inl ?_) fun v hv =>
    hP v (hv ▸ movesTo_of_motion rfl)
  rw [throughThreaded_motion_reports h, hrp]
  rfl

theorem leads_spinUp (h : HostGoes g k e s) (hs : s.mec.state.playing) (hspin : s.mec.spin = false)
    (hx : pick targets t = some x) (hp : x.isRecord) (ht : s.mec.tab ≠ .absent)
    (hP : ∀ v : State, Mec.SpinsUp .threaded (deckGoTarget x m g s) v.mec → P v) :
    Leads m g k o e s t fun v => P v ∧ v.tar = s.tar := by
  obtain ⟨hst, hrp, hth⟩ := ready_of_playing hs
  have hx' : x ≠ .stop ∧ x ≠ .eject := by revert hp; cases x <;> decide
  have hr := route_spins (p := deckGoTarget x m g s) (s := deckGoReady k o e s) (by simpa using hs) hp
  have ht' : (throughThreaded (deckGoReady k o e s)).mec.tab ≠ .absent := by simpa using ht
  have hsp := spinsUp_of_begin (p := deckGoTarget x m g s) ht'
  refine leads_of_route h hst hspin hx hx'.1 (fun he => absurd he hx'.2) (fun _ => ht) hr (.inl ?_) fun v hv =>
    hP v (hv ▸ by simpa using hsp)
  rw [beginSpinUp_reports ht', throughThreaded_reports, entryReports_ready h rfl (by decide)]
  simp [h.quiet, hrp]

/-! ### From RECORD and RECORD_PAUSE -/

theorem leads_playing_recEnd (h : HostGoes g k e s) (hs : s.mec.state.recordPair) (hspin : s.mec.spin = false)
    (hh : s.HostHolds) (hx : pick targets t = some x) (hp : x.plays)
    (hP : ∀ v : State, Mec.Entered x.stateOf (deckGoTarget x m g s) s.mec v.mec → P v) :
    Leads m g k o e s t fun v => P v ∧ v.tar.holder = .none := by
  obtain ⟨hst, hth⟩ := ready_of_recordPair hs
  obtain ⟨⟨hn, hn'⟩, hstop, heject, hrec⟩ := stateOf_passing (.inl hp)
  have hr := route_enters (p := deckGoTarget x m g s) (s := deckGoReady k o e s) (by simpa using hth) hp
  refine leads_of_routeEnds h hst hspin hx hstop (fun h => absurd h heject) (by simp [hrec]) hh hr ?_ fun v hv =>
    hP v (hv ▸ entered_ready)
  rw [enterTarget_reports, deckGoTarget_target, entryReports_ready h hn hn']
  simp [h.quiet, hs]

theorem leads_unthreading_recEnd (h : HostGoes g k e s) (hs : s.mec.state.recordPair) (hspin : s.mec.spin = false)
    (hh : s.HostHolds) (hx : pick targets t = some x) (hp : x.leavesPath) (he : x = .eject → s.mec.state ≠ .record)
    (hP : ∀ v : State, Mec.MovesTo .unthreading 3600 (deckGoTarget x m g s) v.mec → P v) :
    Leads m g k o e s t fun v => P v ∧ v.tar.holder = .none := by
  obtain ⟨hst, hth⟩ := ready_of_recordPair hs
  have hx' : x ≠ .stop ∧ x.isRecord = false := by revert hp; cases x <;> decide
  have hr := route_unthreads (p := deckGoTarget x m g s) (s := deckGoReady k o e s) (by simpa using hth) hp
  refine leads_of_routeEnds h hst hspin hx hx'.1 he (by simp [hx'.2]) hh hr ?_ fun v hv =>
    hP v (hv ▸ movesTo_of_motion rfl)
  rw [throughThreaded_motion_reports h, hs]
  rfl

/-- RECORD_PAUSE from a recording is entered at once, at the grade in use, and the recording goes on (R14). -/
theorem leads_recordPause (h : HostGoes g k e s) (hs : s.mec.state.recordPair) (hspin : s.mec.spin = false)
    (hx : pick targets t = some .recordPause) (ht : s.mec.tab ≠ .absent)
    (hP : ∀ v : State, Mec.Entered .recordPause (deckGoTarget .recordPause m g s) s.mec v.mec → P v) :
    Leads m g k o e s t fun v => P v ∧ v.tar = s.tar := by
  obtain ⟨hst, hth⟩ := ready_of_recordPair hs
  have hr : route (deckGoTarget .recordPause m g s) (deckGoReady k o e s) =
      enterTarget (deckGoTarget .recordPause m g s) (deckGoReady k o e s) := by
    revert hs
    cases hc : s.mec.state <;> intro hs <;> cases hs <;> simp [route, routeRecording, hc]
  have he := entered_ready (x := .recordPause) (m := m) (g := g) (k := k) (o := o) (e := e) (s := s)
  refine leads_of_route h hst hspin hx (by decide) (by simp) (fun _ => ht) hr (.inl ?_) fun v hv => hP v (hv ▸ he)
  rw [enterTarget_reports, deckGoTarget_target]
  revert hs
  cases hc : s.mec.state <;> intro hs <;> cases hs <;>
    simp [h.quiet, h.owner, hc, entryReports, leaveReports, arriveReports, Target.stateOf, TState.recordPair, TState.forward,
      TState.reverse]

/-- RECORD in RECORD is reached already, and from RECORD_PAUSE the change of R14 begins, at the grade in use. -/
theorem leads_record (h : HostGoes g k e s) (hs : s.mec.state.recordPair) (hspin : s.mec.spin = false)
    (hx : pick targets t = some .record) (ht : s.mec.tab ≠ .absent)
    (hP : ∀ v : State, v.mec.state = s.mec.state → v.mec.grade = s.mec.grade →
      (s.mec.state = .record → v.mec.pending = none) →
      (s.mec.state = .recordPause → v.mec.spin = true ∧ v.mec.pending = some (deckGoTarget .record m g s)) → P v) :
    Leads m g k o e s t fun v => P v ∧ v.tar = s.tar := by
  obtain ⟨hst, hth⟩ := ready_of_recordPair hs
  have hsr : s.mec.state = .record ∨ s.mec.state = .recordPause := by
    revert hs
    cases s.mec.state <;> decide
  rcases hsr with hc | hc
  · have hr : route (deckGoTarget .record m g s) (deckGoReady k o e s) = targetReached (deckGoReady k o e s) := by
      simp [route, routeRecording, hc]
    exact leads_of_route h hst hspin hx (by decide) (by simp) (fun _ => ht) hr (.inl (by simp [h.quiet])) fun v hv =>
      hP v (by simp [hv, hc]) (by simp [hv]) (by simp [hv]) (by simp [hc])
  · have hr : route (deckGoTarget .record m g s) (deckGoReady k o e s) =
        (deckGoReady k o e s).mapMec fun n => { n with pending := some (deckGoTarget .record m g s), spin := true } := by
      simp [route, routeRecording, hc]
    exact leads_of_route h hst hspin hx (by decide) (by simp) (fun _ => ht) hr (.inl (by simp [h.quiet])) fun v hv =>
      hP v (by simp [hv, hc]) (by simp [hv]) (by simp [hc]) (by simp [hv])

/-! ### In EMPTY and in a motion -/

theorem leads_empty (h : HostGoes g k e s) (hs : s.mec.state = .empty) (hspin : s.mec.spin = false)
    (hx : pick targets t = some .unthread) (hP : ∀ v : State, v.mec.state = .empty → v.mec.pending = none → P v) :
    Leads m g k o e s t fun v => P v ∧ v.tar = s.tar := by
  have hr : execTarget (deckGoTarget .unthread m g s) (deckGoReady k o e s) = targetReached (deckGoReady k o e s) := by
    rw [execTarget_route (by simp [hs, TState.inMotion]) (by simpa using hspin)]
    simp [route, hs]
  exact leads_of_quiet h hx (by decide)
    (deckGoRefusal_none h.owner h.active (by simp [hs]) (by simp) (fun _ => .inl rfl) (by simp) (by simp [Target.isRecord]))
    hr (.inl (by simp [h.quiet])) fun v hv => hP v (by simp [hv, hs]) (by simp [hv])

/-- In a motion the target pends; EJECTING takes only UNTHREAD and EJECT (R7, R9). -/
theorem leads_waits (h : HostGoes g k e s) (hs : s.mec.state.inMotion) (hx : pick targets t = some x) (hstop : x ≠ .stop)
    (he : s.mec.state = .ejecting → x = .unthread ∨ x = .eject) (ht : x.isRecord → s.mec.tab ≠ .absent)
    (hP : ∀ v : State, Mec.Waits (deckGoTarget x m g s) s.mec v.mec → P v) :
    Leads m g k o e s t fun v => P v ∧ v.tar = s.tar := by
  have hne : s.mec.state ≠ .fault ∧ s.mec.state ≠ .record ∧ s.mec.state ≠ .empty := by
    revert hs
    cases s.mec.state <;> decide
  obtain ⟨h1, h2, h3⟩ := hne
  have hr := execTarget_waits (p := deckGoTarget x m g s) (s := deckGoReady k o e s) (by simpa using hs)
  refine leads_of_quiet h hx hstop ?_ hr (.inl (by simp [h.quiet])) fun v hv => hP v ⟨?_, ?_, ?_⟩
  · exact deckGoRefusal_none h.owner h.active (fun h => absurd h h1) (fun _ => h2) (fun h => he (h.resolve_left h3))
      (fun _ => h3) ht
  all_goals simp [hv]

end

end Sys2Proof.Machine
end

section
/-! SUPPORT. DECK_GO under the host while a spin-up is under way (R15). -/

namespace Sys2Proof.Machine

theorem Leads.mono {m g k o e t : Byte} {s : State} {P Q : State → Prop} (h : Leads m g k o e s t P)
    (hi : ∀ v, P v → Q v) : Leads m g k o e s t Q := by
  obtain ⟨u, hu, hP, hr⟩ := h
  exact ⟨u, hu, hi u hP, hr⟩

/-- The spin-up is given up, with its target. -/
def spinEnded (s : State) : State := s.mapMec fun m => { m with spin := false, pending := none }

/-- A spin-up toward a target is under way, in THREADED or, toward RECORD, in RECORD_PAUSE (R13, R14). -/
structure Spinning (q : PendingTarget) (s : State) : Prop where
  spin : s.mec.spin = true
  pending : s.mec.pending = some q
  tab : s.mec.tab ≠ .absent
  state : s.mec.state = .threaded ∨ s.mec.state = .recordPause

section
variable {m g k o e t : Byte} {q : PendingTarget} {s : State} {x : Target} {P : State → Prop}

theorem Spinning.ready (hs : Spinning q s) : s.mec.state.Ready ∧ s.mec.state.isThreaded = true ∧ s.mec.state ≠ .record := by
  rcases hs.state with h | h <;> rw [h] <;> exact ⟨by constructor <;> decide, by decide⟩

theorem Spinning.refusal (hs : Spinning q s) (h : HostGoes g k e s) (x : Target) : deckGoRefusal x s = none :=
  deckGoRefusal_ready h.owner h.active hs.ready.1 (fun _ => hs.ready.2.2) (fun _ => hs.tab)

theorem execTarget_spinning (hs : Spinning q s) :
    execTarget (deckGoTarget x m g s) (deckGoReady k o e s) =
      duringSpinUp (deckGoTarget x m g s) q (deckGoReady k o e s) := by
  have hm : s.mec.state.inMotion = false := hs.ready.1.motion
  simp [execTarget, hm, hs.spin, hs.pending]

theorem execTarget_endsSpin (hs : Spinning q s) (hx : x ≠ q.target) (hr : ¬(s.mec.state = .threaded ∧ x.isRecord)) :
    execTarget (deckGoTarget x m g s) (deckGoReady k o e s) =
      route (deckGoTarget x m g s) (spinEnded (deckGoReady k o e s)) := by
  rw [execTarget_spinning hs, duringSpinUp, if_neg (by simpa using hx), if_neg (by simpa using hr)]
  rfl

/-! ### The spin-up goes on (R15, log 48) -/

/-- The spin-up's own target leaves it running, and is ACCEPTED. -/
theorem leads_stays (hs : Spinning q s) (h : HostGoes g k e s) (hx : pick targets t = some x) (hq : x = q.target)
    (hrec : x.isRecord) (hne : s.mec.state ≠ x.stateOf) :
    Leads m g k o e s t fun u =>
      u.mec = { s.mec with idle := false, endAction := endActionAfter e s.mec.endAction } ∧ u.tar = s.tar ∧
        (s.lnk.line.isSome → u.lnk.reply = some (.deckGo x s.mec.state) ∧
          (replyBytes 0x10 u (.deckGo x s.mec.state)).head? = some 1) := by
  have hstop : x ≠ .stop := by revert hrec; cases x <;> decide
  have hn : exec (.deckGo t m g k o e) s = .next (transmit (reply (.deckGo x s.mec.state) (deckGoReady k o e s))) := by
    rw [exec_deckGo_passed h hx hstop (hs.refusal h x), execTarget_spinning hs, duringSpinUp, if_pos (by simpa using hq)]
    exact done_quiet (by simp [h.quiet])
  refine ⟨_, hn, ⟨by simp, by simp, fun hline => ?_⟩, ?_, ?_, ?_, ?_, ?_, ?_⟩
  · have hb : (reply (.deckGo x s.mec.state) (deckGoReady k o e s)).lnk.line.isSome := by
      have := Lnk.line_of_sans (deckGoReady_sans k o e s)
      simpa [reply_eq, this] using hline
    rw [transmit_busy hb]
    refine ⟨by simp [reply_eq], ?_⟩
    have hmet : (reply (.deckGo x s.mec.state) (deckGoReady k o e s)).targetMet s.mec.state x = false := by
      revert hrec hne
      cases x <;> intro hrec hne <;> cases hrec <;> simpa [State.targetMet, Target.stateOf] using hne
    simp [replyBytes, hmet]
  all_goals simp [h.owner]

/-- Of RECORD and RECORD_PAUSE the one takes the other's place in a spin-up from THREADED. -/
theorem leads_turns (hs : Spinning q s) (h : HostGoes g k e s) (hst : s.mec.state = .threaded)
    (hx : pick targets t = some x) (hq : x ≠ q.target) (hrec : x.isRecord) :
    Leads m g k o e s t fun u =>
      u.mec = { s.mec with
        idle := false, endAction := endActionAfter e s.mec.endAction,
        pending := some { q with target := x, origin := .host } } ∧ u.tar = s.tar := by
  have hstop : x ≠ .stop := by revert hrec; cases x <;> decide
  have hu : execTarget (deckGoTarget x m g s) (deckGoReady k o e s) =
      (deckGoReady k o e s).mapMec fun n => { n with pending := some { q with target := x, origin := .host } } := by
    rw [execTarget_spinning hs, duringSpinUp, if_neg (by simpa using hq), if_pos (by simpa [hst] using hrec)]
    rfl
  exact leads_of_quiet h hx hstop (hs.refusal h x) hu (.inl (by simp [h.quiet])) fun v hv => by simp [hv]

/-! ### The spin-up ends, and the target's route begins -/

/-- What a state entered after a spin-up looks like. -/
def EnteredAfterSpin (x : Target) (p : PendingTarget) (m : Mec) : Prop :=
  m.state = x.stateOf ∧ m.drum = true ∧ m.spin = false ∧ m.pending = none ∧ (x.isSearch → m.speed = p.speed)

/-- What a motion begun after a spin-up looks like. -/
def MovesAfterSpin (p : PendingTarget) (m : Mec) : Prop :=
  Mec.MovesTo .unthreading 3600 p m ∧ m.spin = false

theorem spinEnded_entryReports (h : HostGoes g k e s) {n : TState} (hn : n.recordPair = false)
    (hn' : n ≠ .empty ∧ n ≠ .unthreaded ∧ n ≠ .fault) :
    entryReports n (spinEnded (deckGoReady k o e s)) = if s.mec.state.recordPair then [.hostRecEnd] else [] := by
  rw [entryReports_host (by simpa [spinEnded] using h.owner) (by simpa [spinEnded] using h.dark) hn hn']
  simp [spinEnded]

theorem route_spinEnded_plays (h : HostGoes g k e s) (hs : Spinning q s) (hp : x.plays) :
    let u := route (deckGoTarget x m g s) (spinEnded (deckGoReady k o e s))
    EnteredAfterSpin x (deckGoTarget x m g s) u.mec ∧
      u.reports = if s.mec.state.recordPair then [.hostRecEnd] else [] := by
  obtain ⟨⟨hn, hn'⟩, -, -, -⟩ := stateOf_passing (.inl hp)
  have hr := route_enters (p := deckGoTarget x m g s) (s := spinEnded (deckGoReady k o e s))
    (by simpa [spinEnded] using hs.ready.2.1) hp
  have he := entered_of_target (p := deckGoTarget x m g s) (s := spinEnded (deckGoReady k o e s))
  have hne : s.mec.state ≠ x.stateOf ∧ x.stateOf.drumTurns = true := by
    rcases hs.state with hst | hst <;> rw [hst] <;> revert hp <;> cases x <;> decide
  dsimp only
  rw [hr]
  refine ⟨⟨he.state, he.drum hne.2 (by simpa [spinEnded] using hne.1), by simpa [spinEnded] using he.spin, he.pending, he.speed⟩, ?_⟩
  rw [enterTarget_reports, deckGoTarget_target, spinEnded_entryReports h hn hn']
  simp [spinEnded, h.quiet]

theorem route_spinEnded_leaves (h : HostGoes g k e s) (hs : Spinning q s) (hp : x.leavesPath) :
    let u := route (deckGoTarget x m g s) (spinEnded (deckGoReady k o e s))
    MovesAfterSpin (deckGoTarget x m g s) u.mec ∧
      u.reports = if s.mec.state.recordPair then [.hostRecEnd] else [] := by
  have hr := route_unthreads (p := deckGoTarget x m g s) (s := spinEnded (deckGoReady k o e s))
    (by simpa [spinEnded] using hs.ready.2.1) hp
  dsimp only
  rw [hr]
  refine ⟨⟨movesTo_of_motion rfl, by simp [spinEnded]⟩, ?_⟩
  rw [routeMotion_reports, throughThreaded_reports, spinEnded_entryReports h rfl (by decide),
    entryReports_host (by simpa [spinEnded] using h.owner) (by simpa [spinEnded] using h.dark) rfl (by decide)]
  simp [spinEnded, h.quiet, TState.recordPair]

/-- Any target of another kind ends the spin-up: in RECORD_PAUSE, which is left, the tuner is given back as well. -/
theorem leads_endsSpin (hs : Spinning q s) (h : HostGoes g k e s) (hx : pick targets t = some x) (hp : x.plays ∨ x.leavesPath)
    (hq : q.target.isRecord) {M : Mec → Prop}
    (hu : M (route (deckGoTarget x m g s) (spinEnded (deckGoReady k o e s))).mec)
    (hrep : (route (deckGoTarget x m g s) (spinEnded (deckGoReady k o e s))).reports =
      if s.mec.state.recordPair then [.hostRecEnd] else []) :
    (s.mec.state = .threaded → Leads m g k o e s t fun v => M v.mec ∧ v.tar = s.tar) ∧
    (s.mec.state = .recordPause → s.HostHolds → Leads m g k o e s t fun v => M v.mec ∧ v.tar.holder = .none) := by
  have hx' : x ≠ .stop ∧ x.isRecord = false := by revert hp; cases x <;> decide
  have hne : x ≠ q.target := by rintro rfl; simp [hx'.2] at hq
  have hr := execTarget_endsSpin (m := m) (g := g) (k := k) (o := o) (e := e) hs hne (by simp [hx'.2])
  constructor
  · intro hst
    exact leads_of_quiet h hx hx'.1 (hs.refusal h x) hr (.inl (by rw [hrep, hst]; rfl)) fun v hv => hv ▸ hu
  · intro hst hh
    exact leads_of_recEnd h hx hx'.1 (hs.refusal h x) hh hr (by rw [hrep, hst]; rfl) fun v hv => hv ▸ hu

/-- RECORD_PAUSE during the change to RECORD gives the change up (log 14). -/
theorem leads_givesUp (hs : Spinning q s) (h : HostGoes g k e s) (hst : s.mec.state = .recordPause)
    (hq : q.target = .record) (hx : pick targets t = some .recordPause) :
    Leads m g k o e s t fun u => (u.mec.state = .recordPause ∧ u.mec.spin = false ∧ u.mec.pending = none ∧
      u.mec.grade = s.mec.grade) ∧ u.tar = s.tar := by
  have hr := execTarget_endsSpin (m := m) (g := g) (k := k) (o := o) (e := e) (x := .recordPause) hs (by simp [hq])
    (by simp [hst])
  have hu : route (deckGoTarget .recordPause m g s) (spinEnded (deckGoReady k o e s)) =
      enterTarget (deckGoTarget .recordPause m g s) (spinEnded (deckGoReady k o e s)) := by
    simp [route, routeRecording, spinEnded, hst]
  have he := entered_of_target (p := deckGoTarget .recordPause m g s) (s := spinEnded (deckGoReady k o e s))
  refine leads_of_quiet h hx (by decide) (hs.refusal h _) (hr.trans hu) (.inl ?_) fun v hv => hv ▸ ⟨he.state, ?_, he.pending, ?_⟩
  · simp [enterTarget_reports, entryReports, spinEnded, hst, h.quiet, Target.stateOf]
  · simpa [spinEnded] using he.spin
  · simpa [spinEnded] using he.grade

end

end Sys2Proof.Machine
end

section
/-! Proofs: DECK_GO begins its route from every state. -/

namespace Sys2Proof.Machine

/-! ### The forms in which the statement has a route's beginning -/

def Toward (t : Target) (u : State) : Prop :=
  u.mec.pending.map (fun p => (p.target, p.origin)) = some (t, Owner.host)

def Moves (n : TState) (limit : Nat) (t : Target) (u : State) : Prop :=
  u.mec.state = n ∧ u.mec.motionTimer = some limit ∧ u.mec.drum = false ∧ Toward t u

def Enters (n : TState) (u : State) : Prop := u.mec.state = n ∧ u.mec.pending = none

def Spins (n : TState) (t : Target) (u : State) : Prop := u.mec.state = n ∧ u.mec.spin = true ∧ Toward t u

def WaitsFor (s : State) (t : Target) (u : State) : Prop :=
  u.mec.state = s.mec.state ∧ u.mec.motionTimer = s.mec.motionTimer ∧ Toward t u

def AtSpeed (m : Byte) (u : State) : Prop := u.mec.pending.map PendingTarget.speed = some (speedOf m.toNat)

def AtGrade (g : Byte) (u : State) : Prop := u.mec.pending.map PendingTarget.grade = some (gradeOf g)

section
variable {m g : Byte} {s u : State} {x : Target} {n : TState} {limit : Nat}

theorem Mec.MovesTo.moves (h : Mec.MovesTo n limit (deckGoTarget x m g s) u.mec) : Moves n limit x u :=
  ⟨h.state, h.timer, h.drum, by rw [Toward, h.pending]; rfl⟩

theorem Mec.MovesTo.atSpeed (h : Mec.MovesTo n limit (deckGoTarget x m g s) u.mec) : AtSpeed m u := by
  rw [AtSpeed, h.pending]; rfl

theorem Mec.MovesTo.atGrade (h : Mec.MovesTo n limit (deckGoTarget x m g s) u.mec)
    (hr : s.mec.state.recordPair = false) : AtGrade g u := by
  rw [AtGrade, h.pending]; simp [hr]

theorem Mec.Entered.enters {p : PendingTarget} {old : Mec} (h : Mec.Entered n p old u.mec) : Enters n u :=
  ⟨h.state, h.pending⟩

theorem Mec.SpinsUp.spins (h : Mec.SpinsUp n (deckGoTarget x m g s) u.mec) : Spins n x u :=
  ⟨h.state, h.spin, by rw [Toward, h.pending]; rfl⟩

theorem Mec.Waits.waits (h : Mec.Waits (deckGoTarget x m g s) s.mec u.mec) : WaitsFor s x u :=
  ⟨h.state, h.timer, by rw [Toward, h.pending]; rfl⟩

theorem Mec.Waits.atSpeed (h : Mec.Waits (deckGoTarget x m g s) s.mec u.mec) : AtSpeed m u := by
  rw [AtSpeed, h.pending]; rfl

theorem Mec.Waits.atGrade (h : Mec.Waits (deckGoTarget x m g s) s.mec u.mec) (hr : s.mec.state.recordPair = false) :
    AtGrade g u := by
  rw [AtGrade, h.pending]; simp [hr]

end

/-! ### Without a spin-up, one lemma for each kind of state -/

/-- Where a DECK_GO leads that leaves the tuner as it was. -/
def Goes (m g k o e : Byte) (s : State) (t : Byte) (P : State → Prop) : Prop :=
  Leads m g k o e s t fun u => P u ∧ u.tar = s.tar

/-- Where a DECK_GO leads that gives the tuner back. -/
def Ends (m g k o e : Byte) (s : State) (t : Byte) (P : State → Prop) : Prop :=
  Leads m g k o e s t fun u => P u ∧ u.tar.holder = .none

section
variable {m g k o e : Byte} {s : State}

theorem goes_from_unthreaded (h : HostGoes g k e s) (hs : s.mec.state = .unthreaded ∨ s.mec.state.isWind)
    (hspin : s.mec.spin = false) :
    Goes m g k o e s 1 (Moves .threading 3600 .play) ∧ Goes m g k o e s 2 (Moves .threading 3600 .still) ∧
    Goes m g k o e s 3 (fun u => Moves .threading 3600 .searchFwd u ∧ AtSpeed m u) ∧
    Goes m g k o e s 4 (fun u => Moves .threading 3600 .searchRev u ∧ AtSpeed m u) ∧
    (s.mec.tab ≠ .absent →
      Goes m g k o e s 5 (fun u => Moves .threading 3600 .record u ∧ AtGrade g u) ∧
      Goes m g k o e s 6 (fun u => Moves .threading 3600 .recordPause u ∧ AtGrade g u)) ∧
    Goes m g k o e s 7 (Enters .windFwd) ∧ Goes m g k o e s 8 (Enters .windRev) ∧
    ((s.mec.state.isWind → s.pwr.entry = .none) → Goes m g k o e s 9 (Enters .unthreaded)) ∧
    Goes m g k o e s 10 (Moves .ejecting 6000 .eject) := by
  have hr := (ready_of_unthreaded hs).2
  exact ⟨leads_threading h hs hspin rfl (.inl rfl) nofun fun v hv => hv.moves,
    leads_threading h hs hspin rfl (.inl rfl) nofun fun v hv => hv.moves,
    leads_threading h hs hspin rfl (.inl rfl) nofun fun v hv => ⟨hv.moves, hv.atSpeed⟩,
    leads_threading h hs hspin rfl (.inl rfl) nofun fun v hv => ⟨hv.moves, hv.atSpeed⟩,
    fun ht => ⟨leads_threading h hs hspin rfl (.inr rfl) (fun _ => ht) fun v hv => ⟨hv.moves, hv.atGrade hr⟩,
      leads_threading h hs hspin rfl (.inr rfl) (fun _ => ht) fun v hv => ⟨hv.moves, hv.atGrade hr⟩⟩,
    leads_winding h hs hspin rfl (.inl rfl) fun v hv hp => ⟨hv, hp⟩,
    leads_winding h hs hspin rfl (.inr rfl) fun v hv hp => ⟨hv, hp⟩,
    fun he => leads_unthreaded h hs he hspin rfl fun v hv hp => ⟨hv, hp⟩,
    leads_ejecting h hs hspin rfl fun v hv => hv.moves⟩

theorem goes_from_playing (h : HostGoes g k e s) (hs : s.mec.state.playing) (hspin : s.mec.spin = false) :
    Goes m g k o e s 1 (Enters .play) ∧ Goes m g k o e s 2 (Enters .still) ∧
    Goes m g k o e s 3 (fun u => Enters .searchFwd u ∧ u.mec.speed = speedOf m.toNat) ∧
    Goes m g k o e s 4 (fun u => Enters .searchRev u ∧ u.mec.speed = speedOf m.toNat) ∧
    (s.mec.tab ≠ .absent →
      Goes m g k o e s 5 (fun u => Spins .threaded .record u ∧ u.mec.drum = true ∧ u.mec.grade = gradeOf g) ∧
      Goes m g k o e s 6 (fun u => Spins .threaded .recordPause u ∧ u.mec.drum = true ∧ u.mec.grade = gradeOf g)) ∧
    Goes m g k o e s 7 (Moves .unthreading 3600 .windFwd) ∧ Goes m g k o e s 8 (Moves .unthreading 3600 .windRev) ∧
    Goes m g k o e s 9 (Moves .unthreading 3600 .unthread) ∧ Goes m g k o e s 10 (Moves .unthreading 3600 .eject) := by
  have hr := (ready_of_playing hs).2.1
  have hg : ∀ x, (deckGoTarget x m g s).grade = gradeOf g := fun x => by simp [hr]
  exact ⟨leads_playing h hs hspin rfl rfl fun v hv => hv.enters,
    leads_playing h hs hspin rfl rfl fun v hv => hv.enters,
    leads_playing h hs hspin rfl rfl fun v hv => ⟨hv.enters, hv.speed rfl⟩,
    leads_playing h hs hspin rfl rfl fun v hv => ⟨hv.enters, hv.speed rfl⟩,
    fun ht => ⟨leads_spinUp h hs hspin rfl rfl ht fun v hv => ⟨hv.spins, hv.drum, hv.grade.trans (hg _)⟩,
      leads_spinUp h hs hspin rfl rfl ht fun v hv => ⟨hv.spins, hv.drum, hv.grade.trans (hg _)⟩⟩,
    leads_unthreading h hs hspin rfl rfl fun v hv => hv.moves,
    leads_unthreading h hs hspin rfl rfl fun v hv => hv.moves,
    leads_unthreading h hs hspin rfl rfl fun v hv => hv.moves,
    leads_unthreading h hs hspin rfl rfl fun v hv => hv.moves⟩

theorem ends_from_recording (h : HostGoes g k e s) (hs : s.mec.state.recordPair) (hspin : s.mec.spin = false)
    (hh : s.HostHolds) :
    Ends m g k o e s 1 (Enters .play) ∧ Ends m g k o e s 2 (Enters .still) ∧
    Ends m g k o e s 3 (fun u => Enters .searchFwd u ∧ u.mec.speed = speedOf m.toNat) ∧
    Ends m g k o e s 4 (fun u => Enters .searchRev u ∧ u.mec.speed = speedOf m.toNat) ∧
    Ends m g k o e s 7 (Moves .unthreading 3600 .windFwd) ∧ Ends m g k o e s 8 (Moves .unthreading 3600 .windRev) ∧
    Ends m g k o e s 9 (Moves .unthreading 3600 .unthread) ∧
    (s.mec.state = .recordPause → Ends m g k o e s 10 (Moves .unthreading 3600 .eject)) :=
  ⟨leads_playing_recEnd h hs hspin hh rfl rfl fun v hv => hv.enters,
    leads_playing_recEnd h hs hspin hh rfl rfl fun v hv => hv.enters,
    leads_playing_recEnd h hs hspin hh rfl rfl fun v hv => ⟨hv.enters, hv.speed rfl⟩,
    leads_playing_recEnd h hs hspin hh rfl rfl fun v hv => ⟨hv.enters, hv.speed rfl⟩,
    leads_unthreading_recEnd h hs hspin hh rfl rfl nofun fun v hv => hv.moves,
    leads_unthreading_recEnd h hs hspin hh rfl rfl nofun fun v hv => hv.moves,
    leads_unthreading_recEnd h hs hspin hh rfl rfl nofun fun v hv => hv.moves,
    fun hp => leads_unthreading_recEnd h hs hspin hh rfl rfl (fun _ => by simp [hp]) fun v hv => hv.moves⟩

theorem goes_in_motion (h : HostGoes g k e s)
    (hs : s.mec.state = .loading ∨ s.mec.state = .threading ∨ s.mec.state = .unthreading ∨ s.mec.state = .recovery) :
    Goes m g k o e s 1 (WaitsFor s .play) ∧ Goes m g k o e s 2 (WaitsFor s .still) ∧
    Goes m g k o e s 3 (fun u => WaitsFor s .searchFwd u ∧ AtSpeed m u) ∧
    Goes m g k o e s 4 (fun u => WaitsFor s .searchRev u ∧ AtSpeed m u) ∧
    (s.mec.tab ≠ .absent →
      Goes m g k o e s 5 (fun u => WaitsFor s .record u ∧ AtGrade g u) ∧
      Goes m g k o e s 6 (fun u => WaitsFor s .recordPause u ∧ AtGrade g u)) ∧
    Goes m g k o e s 7 (WaitsFor s .windFwd) ∧ Goes m g k o e s 8 (WaitsFor s .windRev) ∧
    Goes m g k o e s 9 (WaitsFor s .unthread) ∧ Goes m g k o e s 10 (WaitsFor s .eject) := by
  obtain ⟨hm, he, hr⟩ : s.mec.state.inMotion = true ∧ s.mec.state ≠ .ejecting ∧ s.mec.state.recordPair = false := by
    rcases hs with hs | hs | hs | hs <;> rw [hs] <;> decide
  have he' : ∀ x : Target, s.mec.state = .ejecting → x = .unthread ∨ x = .eject := fun _ h => absurd h he
  exact ⟨leads_waits h hm rfl nofun (he' _) nofun fun v hv => hv.waits,
    leads_waits h hm rfl nofun (he' _) nofun fun v hv => hv.waits,
    leads_waits h hm rfl nofun (he' _) nofun fun v hv => ⟨hv.waits, hv.atSpeed⟩,
    leads_waits h hm rfl nofun (he' _) nofun fun v hv => ⟨hv.waits, hv.atSpeed⟩,
    fun ht => ⟨leads_waits h hm rfl nofun (he' _) (fun _ => ht) fun v hv => ⟨hv.waits, hv.atGrade hr⟩,
      leads_waits h hm rfl nofun (he' _) (fun _ => ht) fun v hv => ⟨hv.waits, hv.atGrade hr⟩⟩,
    leads_waits h hm rfl nofun (he' _) nofun fun v hv => hv.waits,
    leads_waits h hm rfl nofun (he' _) nofun fun v hv => hv.waits,
    leads_waits h hm rfl nofun (he' _) nofun fun v hv => hv.waits,
    leads_waits h hm rfl nofun (he' _) nofun fun v hv => hv.waits⟩

/-! ### A spin-up that another target ends -/

def EntersAfterSpin (n : TState) (u : State) : Prop :=
  u.mec.state = n ∧ u.mec.drum = true ∧ u.mec.spin = false ∧ u.mec.pending = none

def UnthreadsAfterSpin (t : Target) (u : State) : Prop :=
  u.mec.state = .unthreading ∧ u.mec.motionTimer = some 3600 ∧ u.mec.drum = false ∧ u.mec.spin = false ∧ Toward t u

/-- The eight targets that end a spin-up, with what holds of the tuner. -/
theorem ends_spin {q : PendingTarget} {Q : State → Prop} (hs : Spinning q s) (h : HostGoes g k e s)
    (ends : ∀ {t : Byte} {x : Target} {M : Mec → Prop}, pick targets t = some x → (x.plays ∨ x.leavesPath) →
      M (route (deckGoTarget x m g s) (spinEnded (deckGoReady k o e s))).mec →
      (route (deckGoTarget x m g s) (spinEnded (deckGoReady k o e s))).reports =
        (if s.mec.state.recordPair then [.hostRecEnd] else []) →
      Leads m g k o e s t fun v => M v.mec ∧ Q v) :
    Leads m g k o e s 1 (fun u => EntersAfterSpin .play u ∧ Q u) ∧
    Leads m g k o e s 2 (fun u => EntersAfterSpin .still u ∧ Q u) ∧
    Leads m g k o e s 3 (fun u => EntersAfterSpin .searchFwd u ∧ u.mec.speed = speedOf m.toNat ∧ Q u) ∧
    Leads m g k o e s 4 (fun u => EntersAfterSpin .searchRev u ∧ u.mec.speed = speedOf m.toNat ∧ Q u) ∧
    Leads m g k o e s 7 (fun u => UnthreadsAfterSpin .windFwd u ∧ Q u) ∧
    Leads m g k o e s 8 (fun u => UnthreadsAfterSpin .windRev u ∧ Q u) ∧
    Leads m g k o e s 9 (fun u => UnthreadsAfterSpin .unthread u ∧ Q u) ∧
    Leads m g k o e s 10 (fun u => UnthreadsAfterSpin .eject u ∧ Q u) := by
  have enters : ∀ {t x}, pick targets t = some x → x.plays →
      Leads m g k o e s t fun u => EnteredAfterSpin x (deckGoTarget x m g s) u.mec ∧ Q u :=
    fun hx hp => have hr := route_spinEnded_plays h hs hp; ends hx (.inl hp) hr.1 hr.2
  have leaves : ∀ {t x}, pick targets t = some x → x.leavesPath →
      Leads m g k o e s t fun u => UnthreadsAfterSpin x u ∧ Q u :=
    fun hx hp => have hr := route_spinEnded_leaves h hs hp
      (ends hx (.inr hp) hr.1 hr.2).mono fun u ⟨⟨hm, hspin⟩, hQ⟩ =>
        ⟨⟨hm.state, hm.timer, hm.drum, hspin, hm.moves.2.2.2⟩, hQ⟩
  exact ⟨(enters (x := .play) rfl rfl).mono fun u ⟨⟨h1, h2, h3, h4, _⟩, hQ⟩ => ⟨⟨h1, h2, h3, h4⟩, hQ⟩,
    (enters (x := .still) rfl rfl).mono fun u ⟨⟨h1, h2, h3, h4, _⟩, hQ⟩ => ⟨⟨h1, h2, h3, h4⟩, hQ⟩,
    (enters (x := .searchFwd) rfl rfl).mono fun u ⟨⟨h1, h2, h3, h4, h5⟩, hQ⟩ => ⟨⟨h1, h2, h3, h4⟩, h5 rfl, hQ⟩,
    (enters (x := .searchRev) rfl rfl).mono fun u ⟨⟨h1, h2, h3, h4, h5⟩, hQ⟩ => ⟨⟨h1, h2, h3, h4⟩, h5 rfl, hQ⟩,
    leaves rfl rfl, leaves rfl rfl, leaves rfl rfl, leaves rfl rfl⟩

end

end Sys2Proof.Machine

namespace Sys2Proof.Proofs
open Sys2Proof.Machine

/-- Settles O16: from each kind of state each kind of target takes its route. -/
theorem deckGoPlayThreadsFirst : Obligations.DeckGoPlayThreadsFirst := by
  unfold Obligations.DeckGoPlayThreadsFirst
  constructor
  · intro m g k o e s hl hq ho hspin hseek hg hk he ha hend hbegin
    have h : HostGoes g k e s := ⟨hl, hq, ho, hseek, hg, hk, he, ha, hend, hbegin⟩
    refine ⟨fun hs => leads_empty h hs hspin rfl fun v hv hp => ⟨hv, hp⟩, fun hs => ?_, fun hs => ?_,
      fun hs hh hor hre hsw => ?_, fun hs ht => ⟨?_, ?_⟩, fun hs ht => ⟨?_, ?_⟩, fun hs => ?_, fun hs => goes_in_motion h hs,
      fun hs => ⟨?_, ?_⟩, fun hs => leads_ejecting_fault h hs hspin rfl fun v hv hf => ⟨hv.moves, hf⟩⟩
    · obtain ⟨h1, h2, h3, h4, h5, h7, h8, h9, h10⟩ := goes_from_unthreaded (m := m) (o := o) h (.inl hs) hspin
      exact ⟨h1, h2, h3, h4, h5, h7, h8, h9 (by simp [hs, TState.isWind]), h10⟩
    · exact goes_from_playing h (by rcases hs with hs | hs | hs | hs | hs <;> rw [hs] <;> rfl) hspin
    · exact ends_from_recording h (by rcases hs with hs | hs <;> rw [hs] <;> rfl) hspin ⟨hh, hor, hre, hsw⟩
    · exact leads_record h (by rw [hs]; rfl) hspin rfl ht fun v hv hgr hp _ => ⟨⟨hv.trans hs, hp hs⟩, hgr⟩
    · exact leads_recordPause h (by rw [hs]; rfl) hspin rfl ht fun v hv => ⟨hv.enters, hv.grade⟩
    · exact leads_record h (by rw [hs]; rfl) hspin rfl ht fun v hv hgr _ hp =>
        ⟨⟨hv.trans hs, (hp hs).1, congrArg (Option.map fun p => (p.target, p.origin)) (hp hs).2⟩, hgr⟩
    · exact leads_recordPause h (by rw [hs]; rfl) hspin rfl ht fun v hv => ⟨hv.enters, hv.grade⟩
    · have hw : s.mec.state.isWind := by rcases hs with hs | hs <;> rw [hs] <;> rfl
      obtain ⟨h1, h2, h3, h4, h5, h7, h8, h9, h10⟩ := goes_from_unthreaded (m := m) (o := o) h (.inr hw) hspin
      exact ⟨h1, h2, h3, h4, h5, h7, h8, fun hp => h9 fun _ => hp, h10⟩
    · exact leads_waits h (by rw [hs]; rfl) rfl nofun (fun _ => .inl rfl) nofun fun v hv => hv.waits
    · exact leads_waits h (by rw [hs]; rfl) rfl nofun (fun _ => .inr rfl) nofun fun v hv => hv.waits
  · intro m g k o e q s hl hq ho hspin hpend hseek hg hk he ha hend hbegin htab
    have h : HostGoes g k e s := ⟨hl, hq, ho, hseek, hg, hk, he, ha, hend, hbegin⟩
    refine ⟨fun hst => ?_, fun hst hqt => ?_⟩
    · have hs : Spinning q s := ⟨hspin, hpend, htab, .inl hst⟩
      refine ⟨fun hqt => ⟨?_, ?_⟩, fun hqt => ⟨?_, ?_⟩, fun hqt => ?_⟩
      · exact leads_stays hs h rfl hqt.symm rfl (by simp [hst, Target.stateOf])
      · exact leads_turns hs h hst rfl (by simp [hqt]) rfl
      · exact leads_stays hs h rfl hqt.symm rfl (by simp [hst, Target.stateOf])
      · exact leads_turns hs h hst rfl (by simp [hqt]) rfl
      · have hrec : q.target.isRecord := by rcases hqt with hqt | hqt <;> rw [hqt] <;> rfl
        exact ends_spin (Q := fun u => u.tar = s.tar) hs h fun hx hp hu hr => (leads_endsSpin hs h hx hp hrec hu hr).1 hst
    · have hs : Spinning q s := ⟨hspin, hpend, htab, .inr hst⟩
      refine ⟨leads_stays hs h rfl hqt.symm rfl (by simp [hst, Target.stateOf]), ?_, fun hh hor hre hsw => ?_⟩
      · exact (leads_givesUp hs h hst hqt rfl).mono fun u ⟨⟨h1, h2, h3, h4⟩, h5⟩ => ⟨h1, h2, h3, h4, h5⟩
      · exact ends_spin (Q := fun u => u.tar.holder = .none) hs h fun hx hp hu hr =>
          (leads_endsSpin hs h hx hp (by rw [hqt]; rfl) hu hr).2 hst ⟨hh, hor, hre, hsw⟩

end Sys2Proof.Proofs
end

section
/-! SUPPORT. DECK_GO STOP: what STOP makes of each kind of state (R11), and how the command ends under the host. -/

namespace Sys2Proof.Machine

/-! ### STOP (R11) -/

section
variable {s : State}

/-- The states STOP leaves for THREADED. -/
def TState.stopsThreaded : TState → Bool
  | .play | .still | .searchFwd | .searchRev | .record | .recordPause => true
  | _ => false

theorem stopTransport_threads (h : s.mec.state.stopsThreaded) :
    stopTransport s = enterState .threaded (s.mapMec fun m => { m with spin := false, pending := none }) := by
  revert h
  cases hs : s.mec.state <;> intro h <;> cases h <;> simp [stopTransport, hs]

theorem stopTransport_endsSpin (h : s.mec.state = .threaded) (hs : s.mec.spin = true) :
    stopTransport s = enterState .threaded (loseTarget (s.mapMec fun m => { m with spin := false })) := by
  simp [stopTransport, h, hs]

theorem stopTransport_brakes (h : s.mec.state.isWind) : stopTransport s = enterState .unthreaded s := by
  revert h
  cases hs : s.mec.state <;> intro h <;> cases h <;> simp [stopTransport, hs]

theorem stopTransport_motion (h : s.mec.state.inMotion) : stopTransport s = loseTarget s := by
  revert h
  cases hs : s.mec.state <;> intro h <;> cases h <;> simp [stopTransport, hs]

theorem stopTransport_rests (h : s.mec.state = .empty ∨ s.mec.state = .unthreaded ∨ s.mec.state = .fault ∨
    (s.mec.state = .threaded ∧ s.mec.spin = false)) : stopTransport s = s := by
  rcases h with h | h | h | ⟨h, hs⟩
  · simp [stopTransport, h]
  · simp [stopTransport, h]
  · simp [stopTransport, h]
  · simp [stopTransport, h, hs]

end

/-! ### The command under the host -/

theorem deckGoTaken_stop (m g e k o : Byte) (s : State) :
    deckGoTaken .stop m (gradeOf g) k o e (s.mapLnk fun l => { l with buffer := some 0x10 }) =
      reply (.deckGo .stop s.mec.state)
        (reportIf (s.mec.owner == .timer) .hostStop (stopTransport (deckGoReady k o e s))) := by
  simp [deckGoTaken, deckGoReady, hostTarget]

/-- STOP passes R9's checks everywhere but in FAULT. -/
theorem exec_deckGoStop_taken {m o : Byte} {s : State} (hl : s.Listens) (hf : s.mec.state ≠ .fault) :
    exec (.deckGoStop m 0 0 o 0) s =
      done (reply (.deckGo .stop s.mec.state)
        (reportIf (s.mec.owner == .timer) .hostStop (stopTransport (deckGoReady 0 o 0 s)))) := by
  have hr : deckGoRefusal .stop (s.mapLnk fun l => { l with buffer := some 0x10 }) = none := by
    simp [deckGoRefusal, hf, Target.isRecord]
  rw [exec_deckGoStop, arrives_listened hl, reqDeckGo_eq (x := .stop) rfl (by decide), if_neg (by decide),
    if_neg (by decide), hr]
  simp only [deckGoTaken_stop]

/-- What holds of the next state, where STOP leads to no change beyond MEC's record and the tuner. -/
def StopLeads (m o : Byte) (s : State) (P : State → Prop) : Prop :=
  ∃ t, exec (.deckGoStop m 0 0 o 0) s = .next t ∧ P t ∧ t.tun = s.tun ∧ t.clk = s.clk ∧ t.tsc = s.tsc ∧ t.pwr = s.pwr

section
variable {m o : Byte} {s u : State}

theorem stop_of_quiet (hl : s.Listens) (hf : s.mec.state ≠ .fault) (ho : s.mec.owner = .host)
    (hu : stopTransport (deckGoReady 0 o 0 s) = u) (hq : u.reports = [] ∨ u.reports = [.rest] ∧ s.pwr.entry = .none) :
    StopLeads m o s fun t => t.mec = u.mec ∧ t.tar = s.tar := by
  have hfr := stopTransport_frame (deckGoReady 0 o 0 s)
  rw [hu] at hfr
  obtain ⟨htun, htar, -, hclk, htsc, hpwr, -, -, -⟩ := hfr
  have hn : exec (.deckGoStop m 0 0 o 0) s = .next (transmit (reply (.deckGo .stop s.mec.state) u).heard) := by
    rw [exec_deckGoStop_taken hl hf, ho, hu]
    rcases hq with hq | ⟨hq, he⟩
    · exact done_of_settles (settles_quiet (by simpa [reportIf] using hq)) (by decide)
    · exact done_of_settles (settles_rest (by simpa [reportIf] using hq)
        (by simpa [reportIf, hpwr] using linkAwake_mode hl.1) (by simp [reportIf, hpwr, he])) (by decide)
  refine ⟨_, hn, ⟨?_, ?_⟩, ?_, ?_, ?_, ?_⟩ <;> simp [State.heard, htun, htar, hclk, htsc, hpwr]

theorem stop_of_recEnd (hl : s.Listens) (hf : s.mec.state ≠ .fault) (ho : s.mec.owner = .host)
    (hu : stopTransport (deckGoReady 0 o 0 s) = u) (hh : s.HostHolds) (hq : u.reports = [.hostRecEnd]) :
    StopLeads m o s fun t => t.mec = u.mec ∧ t.tar.holder = .none := by
  have hfr := stopTransport_frame (deckGoReady 0 o 0 s)
  rw [hu] at hfr
  obtain ⟨htun, htar, -, hclk, htsc, hpwr, -, -, -⟩ := hfr
  have hu' : (reply (.deckGo .stop s.mec.state) u).HostHolds := by
    obtain ⟨h1, h2, h3, h4⟩ := hh
    constructor <;> simp_all
  have hn : exec (.deckGoStop m 0 0 o 0) s = .next (transmit (tunerGivenBack (reply (.deckGo .stop s.mec.state) u)).heard) := by
    rw [exec_deckGoStop_taken hl hf, ho, hu]
    exact done_of_settles (settles_hostRecEnd (by simpa [reportIf] using hq) hu'
      (by simpa [hpwr] using linkAwake_mode hl.1)) (by decide)
  refine ⟨_, hn, ⟨?_, ?_⟩, ?_, ?_, ?_, ?_⟩ <;> simp [State.heard, htun, hclk, htsc, hpwr]

/-- MEC at rest in a state: drum and spin-up stopped, nothing pending. -/
def Mec.AtRest (n : TState) (m : Mec) : Prop := m.state = n ∧ m.drum = false ∧ m.spin = false ∧ m.pending = none

/-- The tape path comes to rest in THREADED; a recording of the host ends with it. -/
theorem stop_threads (hs : s.mec.state.stopsThreaded) :
    (stopTransport (deckGoReady 0 o 0 s)).mec.AtRest .threaded ∧
      (stopTransport (deckGoReady 0 o 0 s)).reports = s.reports ++ leaveReports s.mec.state .threaded s.mec.owner := by
  rw [stopTransport_threads (by simpa using hs)]
  refine ⟨⟨by simp, by simp [TState.drumTurns], by simp, by simp⟩, ?_⟩
  rw [enterState_reports, entryReports_silent rfl]
  simp

end

end Sys2Proof.Machine
end

section
/-! SUPPORT. The events of the mechanism on a powered deck: how such a command ends. -/

namespace Sys2Proof.Machine

/-! ### How an event ends -/

@[simp] theorem heard_frame (s : State) :
    s.heard.mec = s.mec ∧ s.heard.srv = s.srv ∧ s.heard.ctu = s.ctu ∧ s.heard.tpe = s.tpe ∧ s.heard.tun = s.tun ∧
    s.heard.tar = s.tar ∧ s.heard.dld = s.dld ∧ s.heard.clk = s.clk ∧ s.heard.tsc = s.tsc ∧ s.heard.pwr = s.pwr ∧
    s.heard.lnk = s.lnk ∧ s.heard.pins = s.pins ∧ s.heard.reports = [] := by
  simp [State.heard]

@[simp] theorem heard_stickySet (s : State) (f : Sticky) : s.heard.stickySet f = s.stickySet f := rfl

/-- The same state, with other reports waiting. -/
def State.awaits (l : List Report) (s : State) : State := { s with reports := l }

@[simp] theorem awaits_frame (l : List Report) (s : State) :
    (s.awaits l).mec = s.mec ∧ (s.awaits l).srv = s.srv ∧ (s.awaits l).ctu = s.ctu ∧ (s.awaits l).tpe = s.tpe ∧
    (s.awaits l).tun = s.tun ∧ (s.awaits l).tar = s.tar ∧ (s.awaits l).dld = s.dld ∧ (s.awaits l).clk = s.clk ∧
    (s.awaits l).tsc = s.tsc ∧ (s.awaits l).pwr = s.pwr ∧ (s.awaits l).lnk = s.lnk ∧ (s.awaits l).pins = s.pins ∧
    (s.awaits l).fresh = s.fresh ∧ (s.awaits l).reports = l := by
  simp [State.awaits]

@[simp] theorem awaits_heard (l : List Report) (s : State) : (s.awaits l).heard = s.heard := rfl

@[simp] theorem report_reports (r : Report) (s : State) : (report r s).reports = s.reports ++ [r] := rfl

/-- The first report waiting is taken, with the others behind it. -/
theorem settles_take {n : Nat} {s t : State} {r : Report} {rest : List Report} (h : s.reports = r :: rest)
    (ht : Settles n (takeReport r (s.awaits rest)) t) : Settles (n + 1) s t :=
  .take h ht

/-- A command whose reports find nothing to do. -/
theorem done_idle {s : State} {l : List Report} (h : s.reports = l) (hid : ∀ r ∈ l, IdleReport s r)
    (hn : l.length ≤ Config.reportBound) : done s = .next (transmit s.heard) :=
  done_of_settles (settles_idle h hid) hn

/-- In ON a command that reports the end of a host's recording gives the tuner back. -/
theorem done_recEnd {s : State} (h : s.reports = [.hostRecEnd]) (hh : s.HostHolds) (hm : s.pwr.mode = .on) :
    done s = .next (transmit (tunerGivenBack s).heard) :=
  done_of_settles (settles_hostRecEnd h hh hm) (by decide)

/-- With no occurrence active a fault of the deck ends none. -/
theorem idle_deckFault {s : State} (ha : s.tsc.active = none) : IdleReport s .deckFault := by
  intro rest
  simp [takeReport, endWhile, withActive, ha]

/-- A deck that rests where a rewind is not asked for stays (R19 step 5). -/
theorem idle_endAction {s : State} (h : s.mec.endAction ≠ .rewind) : IdleReport s .endAction := by
  intro rest
  simp [takeReport, applyEndAction, when, h]

theorem when_powered {f : State → State} {s : State} (hm : s.pwr.mode = .on) (hd : s.pwr.deckUp = true) :
    when s.deckPowered f s = f s := by
  rw [deckPowered_on hm hd, when_true]

end Sys2Proof.Machine
end

section
/-! A sensor that goes dark, and a power-on reset. -/

namespace Sys2Proof.Machine

/-- The states that drive a reel (R2, R24). -/
theorem reelDriven_isSome (m : Mec) :
    m.reelDriven.isSome = match m.state with
      | .play | .searchFwd | .searchRev | .record | .windFwd | .windRev | .unthreading => true
      | .recovery => m.move == .toIn
      | _ => false := by
  unfold Mec.reelDriven Mec.reelDrive
  cases m.state <;> try rfl
  cases m.move <;> rfl

theorem exec_sensorDark (sensor : LeaderSensor) (s : State) :
    exec (.endOrBeginSensorDark sensor) s = done (sensorDarkens sensor s) := rfl

/-- With power on the deck, a sensor that goes dark lets the stall timer follow the state again. -/
theorem sensorDarkens_eq {s : State} (hm : s.pwr.mode = .on) (hd : s.pwr.deckUp = true) (sensor : LeaderSensor) :
    sensorDarkens sensor s = stallFollow (s.mapPins fun p =>
      match sensor with
      | .endSensor => { p with endLit := false }
      | .beginSensor => { p with beginLit := false }) := by
  unfold sensorDarkens
  exact when_powered hm hd

end Sys2Proof.Machine

namespace Sys2Proof.Proofs
open Sys2Proof.Machine

/-- Settles O26: the stall timer follows the reel drive of the state. -/
theorem darkSensorRestartsTheStallTimer : Obligations.DarkSensorRestartsTheStallTimer := by
  intro s hq hm hd
  constructor
  · rw [exec_sensorDark, sensorDarkens_eq hm hd, done_quiet (by simpa [stallFollow] using hq)]
    simp only [stallFollow, State.mapMec, State.mapPins, reelDriven_isSome, Bool.not_false, Bool.and_true] <;> rfl
  · rw [exec_sensorDark, sensorDarkens_eq hm hd, done_quiet (by simpa [stallFollow] using hq)]
    simp only [stallFollow, State.mapMec, State.mapPins, reelDriven_isSome, Bool.not_false, Bool.and_true] <;> rfl

/-- Settles O56: every register is at its reset value, and RECOVERY moves toward IN from between the positions. -/
theorem powerOnResetRecovers : Obligations.PowerOnResetRecovers := by
  intro tab endLit beginLit s
  cases endLit <;> cases beginLit <;> rfl

end Sys2Proof.Proofs
end

section
/-! The cassette switch. -/

namespace Sys2Proof.Machine

theorem exec_cassetteInserted (tab : Bool) (s : State) : exec (.cassetteInserted tab) s = done (cassetteArrives tab s) := rfl

theorem exec_cassetteRemoved (s : State) : exec .cassetteRemoved s = done (cassetteGoes s) := rfl

/-- A motion begins from a state outside a recording without a report (R5). -/
theorem startMotion_quiet {n : TState} {s : State} (hn : n.silent) (h : s.mec.state.recordPair = false) :
    (startMotion n s).reports = s.reports := by
  rw [startMotion_reports, entryReports_silent hn, leaveReports_none h, List.append_nil]

@[simp] theorem startMotion_pins (n : TState) (s : State) :
    (startMotion n s).pins = { s.pins with mode := .between } := by
  simp [startMotion]

theorem cassetteArrives_empty {tab : Bool} {s : State} (hm : s.pwr.mode = .on) (hd : s.pwr.deckUp = true)
    (hc : s.pins.cassette = false) (he : s.mec.state = .empty) :
    cassetteArrives tab s = startLoading (s.mapPins fun p => { p with cassette := true, tab := tab }) := by
  have hp : (s.mapPins fun p => { p with cassette := true, tab := tab }).deckPowered = true := deckPowered_on hm hd
  simp [cassetteArrives, when, hc, hm, he, hp]

theorem cassetteGoes_loading {s : State} (hm : s.pwr.mode = .on) (hd : s.pwr.deckUp = true)
    (hl : s.mec.state = .loading) (hp : s.mec.pending = none) :
    cassetteGoes s = startMotion .ejecting (s.mapPins fun p => { p with cassette := false }) := by
  have hw : (s.mapPins fun p => { p with cassette := false }).deckPowered = true := deckPowered_on hm hd
  simp [cassetteGoes, cassetteLeaves, when, hw, hl, hp]

end Sys2Proof.Machine

namespace Sys2Proof.Proofs
open Sys2Proof.Machine

/-- Settles O20: both directions of the switch begin a motion, which makes no report. -/
theorem cassetteSwitchMovesTheTransport : Obligations.CassetteSwitchMovesTheTransport := by
  intro tab s hq hm hd
  refine ⟨fun hc he => ?_, fun hl hp => ?_⟩
  · rw [exec_cassetteInserted, cassetteArrives_empty hm hd hc he, startLoading,
      done_quiet (by rw [startMotion_quiet rfl] <;> simp [he, hq, TState.recordPair])]
    refine ⟨_, rfl, ?_⟩
    simp [motionLimit]
  · rw [exec_cassetteRemoved, cassetteGoes_loading hm hd hl hp,
      done_quiet (by rw [startMotion_quiet rfl] <;> simp [hl, hq, TState.recordPair])]
    refine ⟨_, rfl, ?_⟩
    simp [motionLimit]

end Sys2Proof.Proofs
end

section
/-! The timers of the mechanism: the motion timer and the spin-up timer. -/

namespace Sys2Proof.Machine

theorem exec_motionTimeout (s : State) : exec .motionTimeout s = done (when s.deckPowered motionTimeout s) := rfl

theorem exec_spinUpTimeout (s : State) : exec .spinUpTimeout s = done (when s.deckPowered spinFails s) := rfl

/-! ### FAULT (R22) -/

theorem setSticky_set (f : Sticky) (s : State) : (setSticky f s).stickySet f = true := by
  cases f <;> simp [setSticky, State.stickySet, Sticky.bit]

/-- What MEC's record is in FAULT: every motor and timer stopped, nothing pending. -/
structure Mec.Faulted (c : FaultCause) (m : Mec) : Prop where
  state : m.state = .fault
  faultCause : m.faultCause = c
  reportCause : m.reportCause = .fault
  motionTimer : m.motionTimer = none
  pending : m.pending = none
  spin : m.spin = false
  drum : m.drum = false
  stall : m.stall = false
  idle : m.idle = false

theorem enterFault_faulted (c : FaultCause) (s : State) : (enterFault c s).mec.Faulted c := by
  constructor <;>
    simp [enterFault, TState.drumTurns, Mec.enters, Mec.entered, Mec.idleSituation, Mec.reelDriven, Mec.reelDrive,
      ReelDrive.reel]

theorem enterFault_sticky (c : FaultCause) (s : State) : (enterFault c s).stickySet .mechFault = true :=
  setSticky_set .mechFault _

/-- From a state that is no recording, FAULT is a rest, and is reported as a fault after that. -/
theorem enterFault_reports {c : FaultCause} {s : State} (h : s.mec.state.inMotion) :
    (enterFault c s).reports = s.reports ++ [.rest, .deckFault] := by
  have hs : s.mec.state ≠ .fault ∧ s.mec.state.recordPair = false := by
    revert h
    cases s.mec.state <;> decide
  have hr := entryReports_rest (n := .fault)
    (s := (loseTarget s).mapMec fun m => { m with motionTimer := none, spin := false }) (by simp) (by simpa using hs.1)
    (by simpa using hs.2)
  simp [enterFault, report_eq, hr]

/-- A fault in a motion of a deck that no occurrence uses leads to nothing more. -/
theorem done_enterFault {c : FaultCause} {s : State} (h : s.mec.state.inMotion) (hq : s.reports = [])
    (hm : s.pwr.mode = .on) (he : s.pwr.entry = .none) (ha : s.tsc.active = none) :
    done (enterFault c s) = .next (transmit (enterFault c s).heard) := by
  refine done_idle (l := [.rest, .deckFault]) (by simpa [hq] using enterFault_reports h) ?_ (by decide)
  simp only [List.mem_cons, List.not_mem_nil, or_false, forall_eq_or_imp, forall_eq]
  exact ⟨idle_rest (by simpa using hm) (by simp [he]), idle_deckFault (by simpa using ha)⟩

/-! ### The spin-up timer (R13, R14) -/

/-- A spin-up toward a target of the host fails: the target is dropped, and from THREADED the drum stops. -/
theorem spinFails_host {p : PendingTarget} {s : State} (hs : s.mec.spin = true) (hp : s.mec.pending = some p)
    (ho : p.origin = .host) :
    spinFails s = raise .deck
      ((if s.mec.state = .threaded then
          enterState .threaded (s.mapMec fun m => { m with spin := false, pending := none })
        else s.mapMec fun m => { m with spin := false, pending := none }).mapMec
          fun m => { m with reportCause := .refused .servoNoLock }) := by
  simp only [spinFails, hs, hp, ho, reportIf, State.mapMec_mec] <;> rfl

end Sys2Proof.Machine

namespace Sys2Proof.Proofs
open Sys2Proof.Machine

/-- Settles O22: FAULT from the five motions, and the end of a host's spin-up. -/
theorem timersOfTheMechanismFail : Obligations.TimersOfTheMechanismFail := by
  refine ⟨fun s hq hm hd he ha => ⟨fun hs ht => ?_, fun ht => ?_⟩, fun p s hq hm hd hspin hp ho => ⟨fun hs => ?_, fun hs => ?_⟩⟩
  · have hin : s.mec.state.inMotion := by rcases hs with hs | hs | hs | hs | hs <;> rw [hs] <;> rfl
    have hf := enterFault_faulted .motionTimeout s
    rw [exec_motionTimeout, when_powered hm hd, motionTimeout, ht, when_true, done_enterFault hin hq hm he ha]
    refine ⟨_, rfl, ?_⟩
    simp [hf.state, hf.faultCause, hf.reportCause, hf.motionTimer, hf.pending, hf.spin, hf.drum, hf.stall, hf.idle,
      enterFault_sticky]
  · rw [exec_motionTimeout, when_powered hm hd, motionTimeout, ht, Option.isSome_none, when_false, done_quiet hq]
  · rw [exec_spinUpTimeout, when_powered hm hd, spinFails_host hspin hp ho, if_pos hs,
      done_quiet (by simp [hq, hs, entryReports])]
    refine ⟨_, rfl, ?_⟩
    simp [TState.drumTurns]
  · rw [exec_spinUpTimeout, when_powered hm hd, spinFails_host hspin hp ho, if_neg (by simp [hs]),
      done_quiet (by simpa using hq)]
    refine ⟨_, rfl, ?_⟩
    simp [hs]

end Sys2Proof.Proofs
end

section
/-! The idle timer. -/

namespace Sys2Proof.Machine

theorem exec_idleTimeout (s : State) : exec .idleTimeout s = done (when s.deckPowered idleExpires s) := rfl

/-- The state in which MEC takes the idle timer's end: the timer, the spin-up and the target are gone (R18). -/
def idleOver (s : State) : State :=
  s.mapMec fun m => { m with idle := false, spin := false, pending := none, reportCause := .idle }

@[simp] theorem idleOver_reports (s : State) : (idleOver s).reports = s.reports := rfl

theorem idleExpires_eq {s : State} (h : s.mec.idle = true) :
    idleExpires s = raise .deck
      (if s.mec.state = .threaded then startMotion .unthreading (idleOver s) else enterState .threaded (idleOver s)) := by
  rw [idleExpires, h, when_true]
  rfl

end Sys2Proof.Machine

namespace Sys2Proof.Proofs
open Sys2Proof.Machine

/-- Settles O23: the three resting situations, of which RECORD_PAUSE alone reports, that the host's recording ends. -/
theorem idleTimeoutRests : Obligations.IdleTimeoutRests := by
  intro s hq hm hd hi
  refine ⟨fun hs => ?_, fun hs ho h1 h2 h3 h4 => ?_, fun hs => ?_⟩
  · have hr : s.mec.state.recordPair = false := by rw [hs]; rfl
    rw [exec_idleTimeout, when_powered hm hd, idleExpires_eq hi, if_neg (by simp [hs]),
      done_quiet (by simp [idleOver, entryReports_silent (n := .threaded) rfl, leaveReports_none hr, hq])]
    refine ⟨_, rfl, ?_⟩
    simp [idleOver, TState.drumTurns]
  · have hr : s.mec.state.recordPair = true := by rw [hs]; rfl
    have hrep : entryReports .threaded (idleOver s) = [.hostRecEnd] := by
      rw [entryReports_silent rfl]
      simpa [idleOver, ho] using leaveReports_host hr rfl
    rw [exec_idleTimeout, when_powered hm hd, idleExpires_eq hi, if_neg (by simp [hs]),
      done_recEnd (by simp [hrep, hq])
        (by constructor <;> simpa [idleOver]) (by simpa [idleOver] using hm)]
    refine ⟨_, rfl, ?_⟩
    simp [idleOver, TState.drumTurns]
  · have hr : s.mec.state.recordPair = false := by rw [hs]; rfl
    rw [exec_idleTimeout, when_powered hm hd, idleExpires_eq hi, if_pos hs,
      done_quiet (by simp [idleOver, entryReports_silent (n := .unthreading) rfl, leaveReports_none hr, hq])]
    refine ⟨_, rfl, ?_⟩
    simp [idleOver, motionLimit]

end Sys2Proof.Proofs
end

section
/-! SUPPORT. What entering a transport state does to the counter block: a mark in writing is aborted where RECORD is left, a
WAITING seek runs where its search is entered, and the counter's value stays. -/

namespace Sys2Proof.Machine

/-- The cue record and the writer after RECORD is left (R44). -/
def Ctu.aborted (c : Ctu) : Ctu :=
  match c.writing with
  | none => c
  | some m => { c with writing := none, waiting := none, cue := { kind := .aborted, code := some m.code, counter := c.value } }

@[simp] theorem abortMark_ctu (s : State) : (abortMark s).ctu = s.ctu.aborted := by
  unfold abortMark Ctu.aborted
  cases s.ctu.writing <;> simp [recordCue]

section
variable (c : Ctu)

@[simp] theorem Ctu.aborted_writing : c.aborted.writing = none := by
  unfold Ctu.aborted; split <;> simp [*]

@[simp] theorem Ctu.aborted_kept :
    c.aborted.value = c.value ∧ c.aborted.begun = c.begun ∧ c.aborted.mArmed = c.mArmed ∧ c.aborted.seek = c.seek := by
  unfold Ctu.aborted; split <;> simp

theorem Ctu.aborted_of_none {c : Ctu} (h : c.writing = none) : c.aborted = c := by
  unfold Ctu.aborted; rw [h]

theorem Ctu.aborted_cue {c : Ctu} {m : Mark} (h : c.writing = some m) :
    c.aborted.cue = { kind := .aborted, code := some m.code, counter := c.value } := by
  unfold Ctu.aborted; rw [h]

end

theorem endSeek_idle {k : CueKind} {s : State} (h : s.ctu.seek.state = .idle) : endSeek k s = s := by
  simp [endSeek, h]

@[simp] theorem endSeek_ctu_kept (k : CueKind) (s : State) :
    (endSeek k s).ctu.value = s.ctu.value ∧ (endSeek k s).ctu.begun = s.ctu.begun ∧
    (endSeek k s).ctu.mArmed = s.ctu.mArmed ∧ (endSeek k s).ctu.writing = s.ctu.writing := by
  unfold endSeek; split <;> simp [recordCue]

/-- The seek as a state is entered: it runs where it waits for this search (R55). -/
def Seek.entered (n : TState) (k : Seek) : Seek :=
  if k.state = .waiting ∧ n = (match k.dir with | .fwd => .searchFwd | .rev => .searchRev) then { k with state := .running }
  else k

theorem Seek.entered_other {n : TState} {k : Seek} (h : k.state ≠ .waiting) : k.entered n = k := by
  simp [Seek.entered, h]

@[simp] theorem seekEntered_ctu (n : TState) (s : State) :
    (seekEntered n s).ctu = { s.ctu with seek := s.ctu.seek.entered n } := by
  unfold seekEntered Seek.entered
  dsimp only
  cases hd : s.ctu.seek.dir <;> dsimp only <;> split <;> simp [hd]

section
variable (o n : TState) (s : State)

@[simp] theorem ctuLeaveReading_ctu_kept :
    (ctuLeaveReading o s).ctu.value = s.ctu.value ∧ (ctuLeaveReading o s).ctu.begun = s.ctu.begun ∧
    (ctuLeaveReading o s).ctu.mArmed = s.ctu.mArmed ∧ (ctuLeaveReading o s).ctu.writing = s.ctu.writing ∧
    (ctuLeaveReading o s).ctu.cue = s.ctu.cue ∧ (ctuLeaveReading o s).ctu.seek = s.ctu.seek := by
  simp [ctuLeaveReading]

@[simp] theorem ctuEnterReading_ctu_kept :
    (ctuEnterReading o n s).ctu.value = s.ctu.value ∧ (ctuEnterReading o n s).ctu.begun = s.ctu.begun ∧
    (ctuEnterReading o n s).ctu.mArmed = s.ctu.mArmed ∧ (ctuEnterReading o n s).ctu.writing = s.ctu.writing ∧
    (ctuEnterReading o n s).ctu.cue = s.ctu.cue ∧ (ctuEnterReading o n s).ctu.seek = s.ctu.seek := by
  simp [ctuEnterReading]

@[simp] theorem ctuEnterWind_ctu_kept :
    (ctuEnterWind s).ctu.value = s.ctu.value ∧ (ctuEnterWind s).ctu.begun = s.ctu.begun ∧
    (ctuEnterWind s).ctu.mArmed = s.ctu.mArmed ∧ (ctuEnterWind s).ctu.writing = s.ctu.writing ∧
    (ctuEnterWind s).ctu.cue = s.ctu.cue ∧ (ctuEnterWind s).ctu.seek = s.ctu.seek := by
  unfold ctuEnterWind; split <;> simp [setUncertain]

@[simp] theorem leaveState_ctu_kept :
    (leaveState o n s).ctu.value = s.ctu.value ∧ (leaveState o n s).ctu.begun = s.ctu.begun ∧
    (leaveState o n s).ctu.mArmed = s.ctu.mArmed ∧ (leaveState o n s).ctu.seek = s.ctu.seek ∧
    (leaveState o n s).ctu.writing = (if o = .record then none else s.ctu.writing) ∧
    (leaveState o n s).ctu.cue = (if o = .record then s.ctu.aborted else s.ctu).cue := by
  unfold leaveState
  dsimp only
  by_cases hr : o = .record
  · simp only [hr, if_true]
    (repeat' split) <;> simp
  · simp only [hr, if_false]
    (repeat' split) <;> simp

@[simp] theorem arriveState_ctu_kept :
    (arriveState o n s).ctu.value = s.ctu.value ∧ (arriveState o n s).ctu.begun = s.ctu.begun ∧
    (arriveState o n s).ctu.mArmed = s.ctu.mArmed ∧ (arriveState o n s).ctu.writing = s.ctu.writing ∧
    (arriveState o n s).ctu.cue = s.ctu.cue ∧ (arriveState o n s).ctu.seek = s.ctu.seek.entered n := by
  unfold arriveState
  dsimp only
  (repeat' split) <;> simp

end

/-- CTU's record, but for the window and the wind, after a state is entered from another. -/
theorem enter_ctu {n : TState} {s : State} (k : Bool) (h : s.mec.state ≠ n) :
    (enter n k s).ctu.value = s.ctu.value ∧ (enter n k s).ctu.begun = s.ctu.begun ∧
    (enter n k s).ctu.mArmed = s.ctu.mArmed ∧
    (enter n k s).ctu.writing = (if s.mec.state = .record then none else s.ctu.writing) ∧
    (enter n k s).ctu.cue = (if s.mec.state = .record then s.ctu.aborted else s.ctu).cue ∧
    (enter n k s).ctu.seek = s.ctu.seek.entered n := by
  unfold enter
  dsimp only
  rw [if_neg h, if_neg h]
  (repeat' split) <;> simp [stallFollow, idleFollow, *]

theorem enterState_ctu {n : TState} {s : State} (h : s.mec.state ≠ n) :
    (enterState n s).ctu.value = s.ctu.value ∧ (enterState n s).ctu.begun = s.ctu.begun ∧
    (enterState n s).ctu.mArmed = s.ctu.mArmed ∧
    (enterState n s).ctu.writing = (if s.mec.state = .record then none else s.ctu.writing) ∧
    (enterState n s).ctu.cue = (if s.mec.state = .record then s.ctu.aborted else s.ctu).cue ∧
    (enterState n s).ctu.seek = s.ctu.seek.entered n := enter_ctu false h

@[simp] theorem startMotion_ctu (n : TState) (s : State) : (startMotion n s).ctu = (enterState n s).ctu := by
  simp [startMotion]

/-- A motion that begins outside RECORD leaves the counter, the writer and the cue record. -/
theorem routeMotion_ctu_kept {n : TState} {p : PendingTarget} {s : State} (h : s.mec.state ≠ n) (hr : s.mec.state ≠ .record) :
    (routeMotion n p s).ctu.value = s.ctu.value ∧ (routeMotion n p s).ctu.writing = s.ctu.writing ∧
    (routeMotion n p s).ctu.cue = s.ctu.cue := by
  obtain ⟨hv, -, -, hw, hc, -⟩ := enterState_ctu (n := n) (s := s.mapMec fun m => { m with pending := some p }) (by simpa)
  simp [routeMotion, hv, hw, hc, hr]

end Sys2Proof.Machine
end

section
/-! A stalled reel. -/

namespace Sys2Proof.Machine

theorem exec_reelStall (s : State) : exec .reelStall s = done (when (s.deckPowered && s.mec.stall) reelStalls s) := rfl

/-- The state in which MEC unthreads a tape whose reel stalls (R21). -/
def stallStops (s : State) : State :=
  endSeek .notFound (routeMotion .unthreading
    { target := .unthread, speed := s.mec.speed, grade := s.mec.grade, origin := s.mec.owner }
    (s.mapMec fun m => { m with reportCause := .stall }))

theorem reelStalls_threaded {s : State}
    (h : s.mec.state = .play ∨ s.mec.state = .searchFwd ∨ s.mec.state = .searchRev ∨ s.mec.state = .record) :
    reelStalls s = reportIf (s.mec.state == .record && s.mec.owner == .timer) .stallInRecord (stallStops s) := by
  rcases h with h | h | h | h <;> simp [reelStalls, stallStops, h]

theorem stallStops_reports (s : State) :
    (stallStops s).reports = s.reports ++ leaveReports s.mec.state .unthreading s.mec.owner := by
  simp [stallStops, entryReports_silent (n := .unthreading) rfl]

@[simp] theorem stallStops_frame (s : State) :
    (stallStops s).tun = s.tun ∧ (stallStops s).tar = s.tar ∧ (stallStops s).clk = s.clk ∧ (stallStops s).tsc = s.tsc ∧
    (stallStops s).pwr = s.pwr := by
  simp [stallStops]

/-- The motion that a stall begins, and what it is for. -/
theorem stallStops_mec (s : State) :
    (stallStops s).mec.state = .unthreading ∧ (stallStops s).mec.motionTimer = some 3600 ∧
    (stallStops s).mec.reportCause = .stall ∧ (stallStops s).mec.owner = s.mec.owner ∧
    (stallStops s).mec.pending.map PendingTarget.target = some .unthread := by
  simp [stallStops, motionLimit]

theorem stallStops_writing {s : State} (h : s.mec.state = .record) : (stallStops s).ctu.writing = none := by
  have hc := enterState_ctu (n := .unthreading)
    (s := (s.mapMec fun m => { m with reportCause := .stall }).mapMec fun m =>
      { m with pending := some { target := .unthread, speed := s.mec.speed, grade := s.mec.grade, origin := s.mec.owner } })
    (by simp [h])
  simp [stallStops, routeMotion, hc, h]

end Sys2Proof.Machine

namespace Sys2Proof.Proofs
open Sys2Proof.Machine

/-- Settles O25: the tape path unthreads, a wind rests, and a motion that is itself the way out ends in FAULT. -/
theorem reelStallUnthreadsOrFaults : Obligations.ReelStallUnthreadsOrFaults := by
  intro s hq hm hd
  have hp := deckPowered_on hm hd
  have hw (ht : s.mec.stall = true) : exec .reelStall s = done (reelStalls s) := by
    rw [exec_reelStall, hp, ht, Bool.and_self, when_true]
  obtain ⟨h1, h2, h3, -, h4⟩ := stallStops_mec s
  refine ⟨fun ht hs => ?_, fun ht hs ho a1 a2 a3 a4 => ?_, fun ht hs he => ?_, fun ht hs ha he => ?_, fun ht => ?_⟩
  · have hs' : s.mec.state.recordPair = false ∧ s.mec.state ≠ .record := by
      rcases hs with hs | hs | hs <;> rw [hs] <;> decide
    have hr : (stallStops s).reports = [] := by rw [stallStops_reports, leaveReports_none hs'.1, hq]; rfl
    rw [hw ht, reelStalls_threaded (by tauto), beq_false_of_ne hs'.2, Bool.false_and, reportIf_eq, done_quiet (by simpa using hr)]
    exact ⟨_, rfl, by simp [h1, h2, h3, h4]⟩
  · have hr : (stallStops s).reports = [.hostRecEnd] := by
      rw [stallStops_reports, ho, leaveReports_host (by rw [hs]; rfl) rfl, hq]; rfl
    rw [hw ht, reelStalls_threaded (by tauto), ho, show (Owner.host == .timer) = false from rfl, Bool.and_false, reportIf_eq,
      done_recEnd (by simpa using hr) (by constructor <;> simpa) (by simpa using hm)]
    exact ⟨_, rfl, by simp [h1, h2, h3, h4, stallStops_writing hs]⟩
  · have hst : reelStalls s = endSeek .notFound (enterState .unthreaded (s.mapMec fun m => { m with reportCause := .stall })) := by
      rcases hs with hs | hs <;> simp [reelStalls, hs]
    have hs' : s.mec.state.recordPair = false ∧ s.mec.state ≠ .unthreaded := by
      rcases hs with hs | hs <;> rw [hs] <;> decide
    have hrep := entryReports_rest (n := .unthreaded) (s := s.mapMec fun m => { m with reportCause := .stall })
      (by simp) (by simpa using hs'.2) (by simpa using hs'.1)
    rw [hw ht, hst, done_idle (l := [.rest]) (by simp [hrep, hq])
      (by simpa using idle_rest (by simpa using hm) (by simp [he])) (by decide)]
    exact ⟨_, rfl, by simp [TState.drumTurns]⟩
  · have hst : reelStalls s = enterFault .reelStall (endSeek .notFound s) := by
      rcases hs with hs | hs <;> simp [reelStalls, hs]
    have hin : (endSeek .notFound s).mec.state.inMotion := by rcases hs with hs | hs <;> simp [hs, TState.inMotion]
    have hf := enterFault_faulted .reelStall (endSeek .notFound s)
    rw [hw ht, hst, done_enterFault hin (by simpa using hq) (by simpa using hm) (by simpa using he) (by simpa using ha)]
    exact ⟨_, rfl, by simp [hf.state, hf.faultCause, enterFault_sticky]⟩
  · rw [exec_reelStall, ht, Bool.and_false, when_false, done_quiet hq]

end Sys2Proof.Proofs
end

section
/-! The leader sensors: where a lit sensor stops the tape, and the rewind at the end of it. -/

namespace Sys2Proof.Machine

theorem exec_endSensorLit (s : State) : exec .endSensorLit s = done (endLights s) := rfl

theorem exec_beginSensorLit (s : State) : exec .beginSensorLit s = done (beginLights s) := rfl

/-! ### The end sensor (R19) -/

/-- MEC as it meets a lit end sensor in a forward mode: the stall timer is stopped, the pending target goes (R19, R21). -/
def endMet (s : State) : State :=
  (stallFollow (s.mapPins fun p => { p with endLit := true })).mapMec
    fun m => { m with pending := none, reportCause := .tapeEnd }

@[simp] theorem endMet_frame (s : State) :
    (endMet s).srv = s.srv ∧ (endMet s).ctu = s.ctu ∧ (endMet s).tun = s.tun ∧ (endMet s).tar = s.tar ∧
    (endMet s).clk = s.clk ∧ (endMet s).tsc = s.tsc ∧ (endMet s).pwr = s.pwr ∧ (endMet s).reports = s.reports ∧
    (endMet s).pins = { s.pins with endLit := true } := by
  simp [endMet, stallFollow]

@[simp] theorem endMet_mec (s : State) :
    (endMet s).mec.state = s.mec.state ∧ (endMet s).mec.owner = s.mec.owner ∧ (endMet s).mec.pending = none ∧
    (endMet s).mec.endAction = s.mec.endAction ∧ (endMet s).mec.speed = s.mec.speed ∧
    (endMet s).mec.grade = s.mec.grade ∧ (endMet s).mec.reportCause = .tapeEnd := by
  simp [endMet, stallFollow]

theorem endLights_eq {s : State} (hm : s.pwr.mode = .on) (hd : s.pwr.deckUp = true) (hl : s.pins.endLit = false) :
    endLights s = endStop (stallFollow (s.mapPins fun p => { p with endLit := true })) := by
  unfold endLights
  rw [hl, Bool.not_false, when_true]
  exact when_powered hm hd

/-- The tape path stops in THREADED, and the end action is to be taken (R19). -/
theorem endLights_threaded {s : State} (hm : s.pwr.mode = .on) (hd : s.pwr.deckUp = true) (hl : s.pins.endLit = false)
    (hs : s.mec.state = .play ∨ s.mec.state = .searchFwd ∨ s.mec.state = .record) :
    endLights s = report .endAction (reportIf (s.mec.state == .record && s.mec.owner == .timer) .tapeEndInRecord
      (endSeek .notFound (enterState .threaded (endMet s)))) := by
  rw [endLights_eq hm hd hl]
  rcases hs with hs | hs | hs <;> simp [endStop, endMet, when, stallFollow, hs, TState.forward]

/-- WIND_FWD rests in UNTHREADED (R19); the end action comes before that rest. -/
theorem endLights_wind {s : State} (hm : s.pwr.mode = .on) (hd : s.pwr.deckUp = true) (hl : s.pins.endLit = false)
    (hs : s.mec.state = .windFwd) :
    endLights s = endSeek .notFound (enterState .unthreaded (report .endAction (endMet s))) := by
  rw [endLights_eq hm hd hl]
  simp [endStop, endMet, when, stallFollow, hs, TState.forward]

/-- The target of the end action REWIND, at the speed and grade in use (log 18). -/
def rewindTarget (m : Mec) : PendingTarget := { target := .windRev, speed := m.speed, grade := m.grade, origin := .host }

@[simp] theorem rewindTarget_target (m : Mec) : (rewindTarget m).target = .windRev := rfl

theorem applyEndAction_rewinds {s : State} (hm : s.pwr.mode = .on) (hd : s.pwr.deckUp = true)
    (hs : s.mec.state = .threaded ∨ s.mec.state = .unthreaded) (hp : s.mec.pending = none) (ho : s.mec.owner = .host)
    (he : s.mec.endAction = .rewind) : applyEndAction s = route (rewindTarget s.mec) s := by
  have hw := deckPowered_on hm hd
  rcases hs with hs | hs <;> simp [applyEndAction, rewindTarget, when, hw, hs, hp, ho, he]

/-- The route of the rewind from THREADED begins with UNTHREADING. -/
theorem route_rewind_threaded {p : PendingTarget} {s : State} (hp : p.target = .windRev) (hs : s.mec.state = .threaded) :
    route p s = routeMotion .unthreading p s := by
  rw [route_unthreads (by rw [hs]; rfl) (by rw [hp]; rfl), throughThreaded, if_pos hs]

/-- The reports that wait behind an end action REWIND in THREADED, all idle, are taken after the route has begun. -/
theorem settles_rewind {s : State} {rest : List Report} (h : s.reports = .endAction :: rest) (hm : s.pwr.mode = .on)
    (hd : s.pwr.deckUp = true) (hs : s.mec.state = .threaded) (hp : s.mec.pending = none) (ho : s.mec.owner = .host)
    (he : s.mec.endAction = .rewind)
    (hid : ∀ r ∈ rest, IdleReport (routeMotion .unthreading (rewindTarget s.mec) (s.awaits rest)) r) :
    Settles (rest.length + 1) s (routeMotion .unthreading (rewindTarget s.mec) (s.awaits rest)).heard := by
  refine settles_take h ?_
  change Settles _ (applyEndAction (s.awaits rest)) _
  rw [applyEndAction_rewinds (s := s.awaits rest) hm hd (.inl hs) hp ho he,
    route_rewind_threaded (s := s.awaits rest) rfl hs]
  refine settles_idle (l := rest) ?_ hid
  have hr : s.mec.state.recordPair = false := by rw [hs]; rfl
  simp [entryReports_silent (n := .unthreading) rfl, leaveReports_none hr]

/-- The end of the host's recording, before the other reports waiting. -/
theorem settles_recEnd_cons {n : Nat} {s t : State} {rest : List Report} (h : s.reports = .hostRecEnd :: rest)
    (hh : s.HostHolds) (ht : Settles n (tunerGivenBack (s.awaits (rest ++ [.downTest]))) t) :
    Settles (n + 1) s t := by
  refine settles_take h ?_
  have hh' : (s.awaits rest).HostHolds := ⟨hh.holder, hh.origin, hh.remembered, hh.syncWait⟩
  have he : takeReport .hostRecEnd (s.awaits rest) = tunerGivenBack (s.awaits (rest ++ [.downTest])) := hostRecordEnds_eq hh'
  rw [he]
  exact ht

/-! ### The begin sensor (R20) -/

/-- MEC as it meets a lit begin sensor in a reverse mode: the stall timer is stopped, the pending target goes (R20, R21). -/
def beginMet (s : State) : State :=
  (stallFollow (s.mapPins fun p => { p with beginLit := true })).mapMec
    fun m => { m with pending := none, reportCause := .tapeBegin }

@[simp] theorem beginMet_frame (s : State) :
    (beginMet s).srv = s.srv ∧ (beginMet s).ctu = s.ctu ∧ (beginMet s).tun = s.tun ∧ (beginMet s).tar = s.tar ∧
    (beginMet s).clk = s.clk ∧ (beginMet s).tsc = s.tsc ∧ (beginMet s).pwr = s.pwr ∧ (beginMet s).reports = s.reports ∧
    (beginMet s).pins = { s.pins with beginLit := true } ∧ (beginMet s).mec.state = s.mec.state ∧
    (beginMet s).mec.pending = none ∧ (beginMet s).mec.reportCause = .tapeBegin := by
  simp [beginMet, stallFollow]

theorem beginLights_eq {s : State} (hm : s.pwr.mode = .on) (hd : s.pwr.deckUp = true) (hl : s.pins.beginLit = false)
    (hs : s.mec.state = .searchRev ∨ s.mec.state = .windRev) :
    beginLights s = endSeek .notFound (setBegun true
      (enterState (if s.mec.state = .windRev then .unthreaded else .threaded) (beginMet s))) := by
  have hb : beginLights s = beginStop (stallFollow (s.mapPins fun p => { p with beginLit := true })) := by
    unfold beginLights
    rw [hl, Bool.not_false, when_true]
    exact when_powered hm hd
  rw [hb]
  rcases hs with hs | hs <;> simp [beginStop, beginMet, when, stallFollow, hs, TState.reverse]

@[simp] theorem setBegun_ctu (b : Bool) (s : State) : (setBegun b s).ctu = { s.ctu with begun := b } := by
  simp [setBegun]

end Sys2Proof.Machine
end

section
/-! O24, clause by clause. -/

namespace Sys2Proof.Machine

section
variable {s : State}

/-- What the end sensor leaves of a mode that plays: THREADED at rest, the end action yet to be taken. -/
structure EndStopped (s u : State) : Prop where
  state : u.mec.state = .threaded
  drum : u.mec.drum = false
  pending : u.mec.pending = none
  reportCause : u.mec.reportCause = .tapeEnd
  owner : u.mec.owner = s.mec.owner
  endAction : u.mec.endAction = s.mec.endAction
  speed : u.mec.speed = s.mec.speed
  grade : u.mec.grade = s.mec.grade
  pins : u.pins = { s.pins with endLit := true }
  tun : u.tun = s.tun
  tar : u.tar = s.tar
  clk : u.clk = s.clk
  tsc : u.tsc = s.tsc
  pwr : u.pwr = s.pwr

theorem endLights_stopped (hm : s.pwr.mode = .on) (hd : s.pwr.deckUp = true) (hl : s.pins.endLit = false)
    (hs : s.mec.state = .play ∨ s.mec.state = .searchFwd ∨ s.mec.state = .record) : EndStopped s (endLights s) := by
  rw [endLights_threaded hm hd hl hs]
  constructor <;> simp [TState.drumTurns]

theorem endLights_reports_playing (hm : s.pwr.mode = .on) (hd : s.pwr.deckUp = true) (hl : s.pins.endLit = false)
    (hs : s.mec.state = .play ∨ s.mec.state = .searchFwd) : (endLights s).reports = s.reports ++ [.endAction] := by
  have hr : s.mec.state.recordPair = false ∧ s.mec.state ≠ .record := by
    rcases hs with hs | hs <;> rw [hs] <;> decide
  rw [endLights_threaded hm hd hl (by tauto)]
  simp [report_eq, reportIf_eq, hr.2, entryReports_silent (n := .threaded) rfl, leaveReports_none hr.1]

theorem endLights_reports_record (hm : s.pwr.mode = .on) (hd : s.pwr.deckUp = true) (hl : s.pins.endLit = false)
    (hs : s.mec.state = .record) (ho : s.mec.owner = .host) :
    (endLights s).reports = s.reports ++ [.hostRecEnd, .endAction] := by
  rw [endLights_threaded hm hd hl (by tauto)]
  simp [report_eq, reportIf_eq, ho, entryReports_silent (n := .threaded) rfl,
    leaveReports_host (o := s.mec.state) (n := .threaded) (by rw [hs]; rfl) rfl]

/-- A recording that the end of the tape stops aborts its mark, and the counter stays. -/
theorem endLights_ctu (hm : s.pwr.mode = .on) (hd : s.pwr.deckUp = true) (hl : s.pins.endLit = false)
    (hs : s.mec.state = .record) (hk : s.ctu.seek.state = .idle) :
    (endLights s).ctu.writing = none ∧ (endLights s).ctu.value = s.ctu.value ∧ (endLights s).ctu.cue = s.ctu.aborted.cue := by
  obtain ⟨hv, -, -, hw, hc, hsk⟩ := enterState_ctu (n := .threaded) (s := endMet s) (by simp [hs])
  have hi : (enterState .threaded (endMet s)).ctu.seek.state = .idle := by
    simp [hsk, Seek.entered_other, hk]
  rw [endLights_threaded hm hd hl (by tauto), endSeek_idle hi]
  simp [hv, hw, hc, hs]

end

/-- From WIND_FWD, REWIND turns the tape at once (R10, R19). -/
theorem route_rewind_unthreaded {p : PendingTarget} {s : State} (hp : p.target = .windRev) (hs : s.mec.state = .unthreaded) :
    route p s = enterTarget p s :=
  route_winds (.inl hs) (.inr hp)

end Sys2Proof.Machine

namespace Sys2Proof.Proofs
open Sys2Proof.Machine

section
variable {s : State} (hq : s.reports = []) (hm : s.pwr.mode = .on) (hd : s.pwr.deckUp = true)
include hq hm hd

/-- The end of the tape in PLAY and SEARCH_FWD. -/
theorem end_playing (hl : s.pins.endLit = false) (hs : s.mec.state = .play ∨ s.mec.state = .searchFwd)
    (ho : s.mec.owner = .host) :
    (s.mec.endAction = .stop →
      ∃ t, exec .endSensorLit s = .next t ∧ t.mec.state = .threaded ∧ t.mec.drum = false ∧ t.mec.pending = none ∧
        t.mec.reportCause = .tapeEnd ∧ t.pins.endLit = true ∧ t.tun = s.tun ∧ t.tar = s.tar ∧ t.clk = s.clk ∧
        t.tsc = s.tsc) ∧
    (s.mec.endAction = .rewind →
      ∃ t, exec .endSensorLit s = .next t ∧ t.mec.state = .unthreading ∧ t.mec.motionTimer = some 3600 ∧
        t.mec.pending = some { target := .windRev, speed := s.mec.speed, grade := s.mec.grade, origin := .host } ∧
        t.mec.reportCause = .tapeEnd ∧ t.tun = s.tun ∧ t.tar = s.tar ∧ t.clk = s.clk ∧ t.tsc = s.tsc) := by
  have hu := endLights_stopped hm hd hl (s := s) (by tauto)
  have hr := endLights_reports_playing hm hd hl hs
  rw [hq] at hr
  refine ⟨fun he => ?_, fun he => ?_⟩
  · rw [exec_endSensorLit, done_idle hr (by simpa using idle_endAction (by simp [hu.endAction, he])) (by decide)]
    exact ⟨_, rfl, by simp [hu.state, hu.drum, hu.pending, hu.reportCause, hu.pins, hu.tun, hu.tar, hu.clk, hu.tsc]⟩
  · rw [exec_endSensorLit, done_of_settles (settles_rewind hr (by rw [hu.pwr, hm]) (by rw [hu.pwr, hd]) hu.state hu.pending
      (by rw [hu.owner, ho]) (by rw [hu.endAction, he]) nofun) (by decide)]
    exact ⟨_, rfl, by simp [rewindTarget, motionLimit, hu.reportCause, hu.speed, hu.grade, hu.tun, hu.tar, hu.clk, hu.tsc]⟩

/-- The end of the tape in a recording of the host. -/
theorem end_recording (hl : s.pins.endLit = false) (hs : s.mec.state = .record) (ho : s.mec.owner = .host)
    (hk : s.ctu.seek.state = .idle) (hh : s.HostHolds) :
    let ended (t : State) : Prop :=
      t.mec.reportCause = .tapeEnd ∧ t.mec.drum = false ∧ t.tar.holder = .none ∧ t.ctu.writing = none ∧
      t.ctu.value = s.ctu.value ∧
      (∀ w, s.ctu.writing = some w → t.ctu.cue = { kind := .aborted, code := some w.code, counter := s.ctu.value }) ∧
      t.tun = s.tun ∧ t.clk = s.clk ∧ t.tsc = s.tsc
    (s.mec.endAction = .stop →
      ∃ t, exec .endSensorLit s = .next t ∧ ended t ∧ t.mec.state = .threaded ∧ t.mec.pending = none) ∧
    (s.mec.endAction = .rewind →
      ∃ t, exec .endSensorLit s = .next t ∧ ended t ∧ t.mec.state = .unthreading ∧ t.mec.motionTimer = some 3600 ∧
        t.mec.pending.map PendingTarget.target = some .windRev) := by
  have hu := endLights_stopped hm hd hl (s := s) (by tauto)
  have hr := endLights_reports_record hm hd hl hs ho
  obtain ⟨hw, hv, hc⟩ := endLights_ctu hm hd hl hs hk
  have hh' : (endLights s).HostHolds := by
    obtain ⟨h1, h2, h3, h4⟩ := hh
    constructor <;> simpa [hu.tar]
  rw [hq] at hr
  refine ⟨fun he => ?_, fun he => ?_⟩
  · have hset := settles_recEnd_cons hr hh' (settles_idle (l := [.endAction, .downTest]) (by simp) (by
      simp only [List.mem_cons, List.not_mem_nil, or_false, forall_eq_or_imp, forall_eq]
      exact ⟨idle_endAction (by simp [hu.endAction, he]), idle_downTest (by simp [hu.pwr, hm])⟩))
    rw [exec_endSensorLit, done_of_settles hset (by decide)]
    refine ⟨_, rfl, ?_⟩
    simp +contextual [hu.state, hu.drum, hu.pending, hu.reportCause, hu.tun, hu.clk, hu.tsc, hw, hv, hc, Ctu.aborted_cue]
  · have hset := settles_recEnd_cons hr hh' (settles_rewind (rest := [.downTest]) (by simp) (by simp [hu.pwr, hm])
      (by simp [hu.pwr, hd]) (by simp [hu.state]) (by simp [hu.pending]) (by simp [hu.owner, ho])
      (by simp [hu.endAction, he]) (by simpa using idle_downTest (by simp [hu.pwr, hm])))
    have hk := routeMotion_ctu_kept (n := .unthreading) (p := rewindTarget (endLights s).mec)
      (s := (tunerGivenBack ((endLights s).awaits [.endAction, .downTest])).awaits [.downTest]) (by simp [hu.state])
      (by simp [hu.state])
    rw [exec_endSensorLit, done_of_settles hset (by decide)]
    refine ⟨_, rfl, ?_⟩
    simp +contextual [motionLimit, TState.drumTurns, hu.reportCause, hu.tun, hu.clk, hu.tsc, hw, hv,
      hc, hk, Ctu.aborted_cue]

/-- The end of the tape in WIND_FWD. -/
theorem end_winding (hl : s.pins.endLit = false) (hs : s.mec.state = .windFwd) (ho : s.mec.owner = .host)
    (he : s.pwr.entry = .none) (hb : s.pins.beginLit = false) :
    ∃ t, exec .endSensorLit s = .next t ∧ t.mec.reportCause = .tapeEnd ∧ t.mec.pending = none ∧
      t.mec.state = (if s.mec.endAction = .stop then TState.unthreaded else .windRev) ∧ t.tun = s.tun ∧ t.tar = s.tar ∧
      t.clk = s.clk ∧ t.tsc = s.tsc := by
  have hrest : entryReports .unthreaded (report .endAction (endMet s)) = [.rest] :=
    entryReports_rest (by simp) (by simp [hs]) (by simp [hs, TState.recordPair])
  obtain ⟨u, hu⟩ : ∃ u, u = enterState .unthreaded (report .endAction (endMet s)) := ⟨_, rfl⟩
  have hr : (endSeek .notFound u).reports = [.endAction, .rest] := by simp [hu, hrest, hq]
  have hst : u.mec.state = .unthreaded := by simp [hu]
  rw [exec_endSensorLit, endLights_wind hm hd hl hs, ← hu]
  cases ha : s.mec.endAction
  case stop =>
    rw [done_idle hr (by
      simp only [List.mem_cons, List.not_mem_nil, or_false, forall_eq_or_imp, forall_eq]
      exact ⟨idle_endAction (by simp [hu, ha]), idle_rest (by simp [hu, hm]) (by simp [hu, he])⟩) (by decide)]
    exact ⟨_, rfl, by simp [hu]⟩
  case rewind =>
    have hw : (enterTarget (rewindTarget u.mec) ((endSeek .notFound u).awaits [.rest])).reports = [.rest] := by
      rw [enterTarget_reports]
      simp [entryReports, leaveReports, arriveReports, rewindTarget, Target.stateOf, TState.recordPair, TState.forward,
        TState.reverse, hu, hb]
    have hset : Settles 2 (endSeek .notFound u)
        (enterTarget (rewindTarget u.mec) ((endSeek .notFound u).awaits [.rest])).heard := by
      refine settles_take hr ?_
      change Settles 1 (applyEndAction _) _
      rw [applyEndAction_rewinds (by simp [hu, hm]) (by simp [hu, hd]) (.inr (by simp [hst])) (by simp [hu])
        (by simp [hu, ho]) (by simp [hu, ha]), route_rewind_unthreaded rfl (by simp [hst])]
      simp only [awaits_frame, endSeek_frame]
      exact settles_rest hw (by simp [hu, hm]) (by simp [hu, he])
    rw [done_of_settles hset (by decide)]
    refine ⟨_, rfl, ?_⟩
    simp [enterTarget_mec, Mec.takesTarget, Target.stateOf, hu]

/-- The begin of the tape. -/
theorem begin_lit (hb : s.pins.beginLit = false) (hs : s.mec.state = .searchRev ∨ s.mec.state = .windRev)
    (he : s.mec.state = .windRev → s.pwr.entry = .none) :
    ∃ t, exec .beginSensorLit s = .next t ∧ t.mec.state = (if s.mec.state = .windRev then .unthreaded else .threaded) ∧
      t.mec.drum = false ∧ t.mec.pending = none ∧ t.mec.reportCause = .tapeBegin ∧ t.ctu.begun = true ∧
      t.ctu.value = s.ctu.value ∧ t.pins.beginLit = true ∧ t.tun = s.tun ∧ t.tar = s.tar ∧ t.clk = s.clk ∧ t.tsc = s.tsc := by
  rw [exec_beginSensorLit, beginLights_eq hm hd hb hs]
  rcases hs with hs | hs
  · have hc := enterState_ctu (n := .threaded) (s := beginMet s) (by simp [hs])
    have hr : entryReports .threaded (beginMet s) = [] := by
      rw [entryReports_silent rfl, leaveReports_none (by simp [hs, TState.recordPair])]
    rw [if_neg (by simp [hs]), done_quiet (by simp [hr, hq])]
    refine ⟨_, rfl, ?_⟩
    simp [hc, hs, TState.drumTurns]
  · have hc := enterState_ctu (n := .unthreaded) (s := beginMet s) (by simp [hs])
    have hr : entryReports .unthreaded (beginMet s) = [.rest] :=
      entryReports_rest (by simp) (by simp [hs]) (by simp [hs, TState.recordPair])
    rw [if_pos hs, done_idle (l := [.rest]) (by simp [hr, hq])
      (by simpa using idle_rest (by simp [hm]) (by simp [he hs])) (by decide)]
    refine ⟨_, rfl, ?_⟩
    simp [hc, hs, TState.drumTurns]

end

/-- Settles O24, from the mode that each sensor stops. -/
theorem sensorsStopTheTape : Obligations.SensorsStopTheTape := by
  refine ⟨fun s hq hm hd => ⟨fun hl hs ho => end_playing hq hm hd hl hs ho, fun hl hs ho hk h1 h2 h3 h4 =>
    end_recording hq hm hd hl hs ho hk ⟨h1, h2, h3, h4⟩, fun hl hs ho he hb => end_winding hq hm hd hl hs ho he hb,
    fun hl => ?_⟩, fun s hq hm hd => ⟨fun hb hs => ?_, fun hb hs he => ?_, fun hb => ?_⟩⟩
  · rw [exec_endSensorLit, endLights, hl, Bool.not_true, when_false, done_quiet hq]
  · simpa [hs] using begin_lit hq hm hd hb (.inl hs) (by simp [hs])
  · obtain ⟨t, ht, h1, -, h2⟩ := begin_lit hq hm hd hb (.inr hs) fun _ => he
    exact ⟨t, ht, by simpa [hs] using h1, h2⟩
  · rw [exec_beginSensorLit, beginLights, hb, Bool.not_true, when_false, done_quiet hq]

end Sys2Proof.Proofs
end

section
/-! SUPPORT. A rebuild of the plan that finds no occurrence to draw, and a command whose reports do no more than rebuild. -/

namespace Sys2Proof.Machine

/-! ### A rebuild with nothing to draw (R159) -/

/-- No occurrence is active, and none can be drawn: the clock is UNSET or the slots call for nothing. -/
structure State.DrawsNothing (s : State) : Prop where
  active : s.tsc.active = none
  draws : s.clk.state = .unset ∨ ∀ n, drawSlot s n = []

/-- Two states that differ in no more than the plan, the pending notices, the free values and the reports waiting. -/
structure PlanOnly (s t : State) : Prop where
  mec : t.mec = s.mec
  srv : t.srv = s.srv
  ctu : t.ctu = s.ctu
  tpe : t.tpe = s.tpe
  tun : t.tun = s.tun
  tar : t.tar = s.tar
  dld : t.dld = s.dld
  clk : t.clk = s.clk
  pwr : t.pwr = s.pwr
  pins : t.pins = s.pins
  sans : t.lnk.sansNotices = s.lnk.sansNotices
  tsc : t.tsc = { s.tsc with plan := t.tsc.plan }

section
variable {s t u : State}

theorem PlanOnly.refl (s : State) : PlanOnly s s := ⟨rfl, rfl, rfl, rfl, rfl, rfl, rfl, rfl, rfl, rfl, rfl, rfl⟩

theorem PlanOnly.trans (h : PlanOnly s t) (h' : PlanOnly t u) : PlanOnly s u := by
  constructor
  case tsc => rw [h'.tsc, h.tsc]
  all_goals simp [h.mec, h.srv, h.ctu, h.tpe, h.tun, h.tar, h.dld, h.clk, h.pwr, h.pins, h.sans, h'.mec, h'.srv, h'.ctu,
    h'.tpe, h'.tun, h'.tar, h'.dld, h'.clk, h'.pwr, h'.pins, h'.sans]

theorem PlanOnly.awaits (h : PlanOnly s t) (l : List Report) : PlanOnly s (t.awaits l) :=
  ⟨h.mec, h.srv, h.ctu, h.tpe, h.tun, h.tar, h.dld, h.clk, h.pwr, h.pins, h.sans, h.tsc⟩

theorem PlanOnly.slots (h : PlanOnly s t) : t.tsc.slots = s.tsc.slots := by rw [h.tsc]

theorem PlanOnly.active (h : PlanOnly s t) : t.tsc.active = s.tsc.active := by rw [h.tsc]

theorem PlanOnly.slot (h : PlanOnly s t) (n : Nat) : t.slot n = s.slot n := by simp only [State.slot, h.slots]

theorem PlanOnly.stickySet (h : PlanOnly s t) (f : Sticky) : t.stickySet f = s.stickySet f := by
  rw [State.stickySet, State.stickySet, Lnk.sticky_of_sans h.sans]

/-- What a slot calls for depends on the slot, the clock and the skip list. -/
theorem drawSlot_congr {n : Nat} (hl : t.slot n = s.slot n) (hc : t.clk = s.clk) (hk : t.tsc.skip = s.tsc.skip) :
    drawSlot t n = drawSlot s n := by
  simp only [drawSlot, hl, hc, hk]

theorem State.DrawsNothing.of_planOnly (hd : s.DrawsNothing) (h : PlanOnly s t) : t.DrawsNothing := by
  refine ⟨by rw [h.active, hd.active], ?_⟩
  rcases hd.draws with hu | hn
  · exact .inl (by rw [h.clk, hu])
  · exact .inr fun n => by rw [drawSlot_congr (h.slot n) h.clk (by rw [h.tsc]), hn]

theorem State.DrawsNothing.selectPlan (h : s.DrawsNothing) : selectPlan s = [] := by
  have hf : (if s.clk.state = .unset then [] else (List.range 16).flatMap (drawSlot s)) = [] := by
    rcases h.draws with hu | hn
    · rw [if_pos hu]
    · split
      · rfl
      · simp [hn]
  have ha : s.activeEntry = none := by simp [State.activeEntry, h.active]
  simp [Machine.selectPlan, hf, ha, sortPlan]

/-- The plan that is drawn is empty. -/
theorem State.DrawsNothing.drawPlan (h : s.DrawsNothing) :
    drawPlan s = { (s.mapTsc fun t => { t with plan := [] }) with fresh := s.fresh + 1 } := by
  simp [Machine.drawPlan, h.selectPlan, conflictPass, fitPass, fitWalk, sortPlan]

theorem trimTaken_idle (h : s.tsc.active = none) : trimTaken s = s := by
  simp [trimTaken, h]

/-- An empty plan arms nothing. -/
theorem armingTest_nil (h : s.tsc.plan = []) : armingTest s = s := by
  simp [armingTest, h, raiseIf, State.mapTsc]
  simp [← h]

theorem State.DrawsNothing.rebuild (h : s.DrawsNothing) : rebuild s = raise .plan (Machine.drawPlan s) := by
  rw [Machine.rebuild, trimTaken_idle, armingTest_nil]
  · simp [h.drawPlan]
  · simpa [h.drawPlan] using h.active

/-- The rebuild empties the plan, and does nothing else. -/
theorem State.DrawsNothing.rebuild_spec (h : s.DrawsNothing) :
    PlanOnly s (Machine.rebuild s) ∧ (Machine.rebuild s).tsc.plan = [] ∧ (Machine.rebuild s).reports = s.reports := by
  rw [h.rebuild]
  refine ⟨?_, by simp [h.drawPlan], by simp [h.drawPlan]⟩
  constructor <;> simp [h.drawPlan]

end

/-! ### Reports that do no more than rebuild -/

/-- Where nothing can be drawn, reports that are rebuilds or find nothing to do only empty the plan. -/
theorem settles_rebuilds {s : State} {l : List Report} (h : s.reports = l) (hn : s.DrawsNothing)
    (hl : ∀ r ∈ l, r = .rebuild ∨ ∀ t, PlanOnly s t → IdleReport t r) :
    ∃ t, Settles l.length s t ∧ PlanOnly s t ∧ (.rebuild ∈ l → t.tsc.plan = []) := by
  suffices hg : ∀ u, PlanOnly s u → u.reports = l →
      ∃ t, Settles l.length u t ∧ PlanOnly s t ∧ (.rebuild ∈ l ∨ u.tsc.plan = [] → t.tsc.plan = []) by
    obtain ⟨t, ht, hp, he⟩ := hg s (.refl s) h
    exact ⟨t, ht, hp, fun hr => he (.inl hr)⟩
  clear h
  induction l with
  | nil => exact fun u hu hq => ⟨u, .quiet hq, hu, by simp⟩
  | cons r rest ih =>
    intro u hu hq
    have ih' := ih fun x hx => hl x (by simp [hx])
    rcases hl r (by simp) with rfl | hi
    · obtain ⟨hp, hpl, hrep⟩ := (hn.of_planOnly (hu.awaits rest)).rebuild_spec
      obtain ⟨t, ht, htp, he⟩ := ih' (rebuild (u.awaits rest)) ((hu.awaits rest).trans hp) (by simp [hrep])
      exact ⟨t, settles_take hq ht, htp, fun _ => he (.inr hpl)⟩
    · obtain ⟨t, ht, htp, he⟩ := ih' (u.awaits rest) (hu.awaits rest) (by simp)
      have hr : takeReport r (u.awaits rest) = u.awaits rest := hi u hu rest
      refine ⟨t, settles_take hq (by rw [hr]; exact ht), htp, fun hx => he ?_⟩
      rcases hx with hx | hx
      · rcases List.mem_cons.mp hx with rfl | hx
        · exact .inr (by
            have hb := ((hn.of_planOnly (hu.awaits rest)).rebuild_spec).2.1
            rw [show rebuild (u.awaits rest) = u.awaits rest from hr] at hb
            simpa using hb)
        · exact .inl hx
      · exact .inr (by simpa using hx)

end Sys2Proof.Machine
end

section
/-! SUPPORT. The mode switch reports a position: what the completion of each motion makes of MEC, and how the command ends. -/

namespace Sys2Proof.Machine

theorem exec_motionComplete (p : ModePos) (s : State) : exec (.motionComplete p) s = done (switchReads p s) := rfl

/-- The mode switch reads a position. -/
def State.reads (p : ModePos) (s : State) : State := s.mapPins fun q => { q with mode := p }

@[simp] theorem reads_frame (p : ModePos) (s : State) :
    (s.reads p).mec = s.mec ∧ (s.reads p).srv = s.srv ∧ (s.reads p).ctu = s.ctu ∧ (s.reads p).tpe = s.tpe ∧
    (s.reads p).tun = s.tun ∧ (s.reads p).tar = s.tar ∧ (s.reads p).clk = s.clk ∧ (s.reads p).tsc = s.tsc ∧
    (s.reads p).pwr = s.pwr ∧ (s.reads p).lnk = s.lnk ∧ (s.reads p).reports = s.reports ∧
    (s.reads p).pins = { s.pins with mode := p } := by
  simp [State.reads]

theorem switchReads_eq {p : ModePos} {s : State} (hm : s.pwr.mode = .on) (hd : s.pwr.deckUp = true) :
    switchReads p s = modeSwitch p (s.reads p) := by
  unfold switchReads
  exact when_powered hm hd

/-! ### How the command ends -/

/-- A deck in ON with no standby entry staged, whose events are taken at once. -/
structure State.Awake (s : State) : Prop where
  quiet : s.reports = []
  mode : s.pwr.mode = .on
  deckUp : s.pwr.deckUp = true
  entry : s.pwr.entry = .none

section
variable {p : ModePos} {s u : State} {P : State → Prop}

/-- The completion makes no report, or one of a rest that nothing waits for. -/
theorem completes_idle (h : s.Awake) (hu : modeSwitch p (s.reads p) = u) (hq : u.reports = [] ∨ u.reports = [.rest])
    (hP : ∀ t, t.mec = u.mec → t.ctu = u.ctu → t.tpe = u.tpe → t.tsc = s.tsc → P t) :
    ∃ t, exec (.motionComplete p) s = .next t ∧ P t ∧ t.tun = s.tun ∧ t.tar = s.tar ∧ t.clk = s.clk ∧ t.pwr = s.pwr := by
  have hfr := modeSwitch_frame p (s.reads p)
  rw [hu] at hfr
  obtain ⟨htun, htar, -, hclk, htsc, hpwr, -, -⟩ := hfr
  have hn : exec (.motionComplete p) s = .next (transmit u.heard) := by
    rw [exec_motionComplete, switchReads_eq h.mode h.deckUp, hu]
    rcases hq with hq | hq
    · exact done_of_settles (settles_quiet hq) (by decide)
    · exact done_of_settles (settles_rest hq (by simp [hpwr, h.mode]) (by simp [hpwr, h.entry])) (by decide)
  exact ⟨_, hn, hP _ (by simp) (by simp) (by simp) (by simp [htsc]), by simp [htun], by simp [htar], by simp [hclk],
    by simp [hpwr]⟩

/-- The completion reports rebuilds that find nothing to draw. -/
theorem completes_rebuilds (h : s.Awake) (hd : s.DrawsNothing) (hu : modeSwitch p (s.reads p) = u)
    (hq : ∀ r ∈ u.reports, r = .rebuild ∨ r = .rest) (hr : .rebuild ∈ u.reports)
    (hn : u.reports.length ≤ Config.reportBound)
    (hP : ∀ t, t.mec = u.mec → t.ctu = u.ctu → t.srv = u.srv → t.tpe = u.tpe → t.tsc.slots = s.tsc.slots →
      t.tsc.plan = [] → P t) :
    ∃ t, exec (.motionComplete p) s = .next t ∧ P t ∧ t.tun = s.tun ∧ t.tar = s.tar ∧ t.clk = s.clk ∧ t.pwr = s.pwr := by
  have hfr := modeSwitch_frame p (s.reads p)
  rw [hu] at hfr
  obtain ⟨htun, htar, -, hclk, htsc, hpwr, -, -⟩ := hfr
  simp only [reads_frame] at htun htar hclk htsc hpwr
  have hdu : u.DrawsNothing := by
    refine ⟨by rw [htsc, hd.active], hd.draws.imp (by rw [hclk]; exact id) fun hx n => ?_⟩
    rw [drawSlot_congr (by simp only [State.slot, htsc]) hclk (by rw [htsc]), hx]
  obtain ⟨t, ht, hp, hpl⟩ := settles_rebuilds (s := u) rfl hdu fun r hr => (hq r hr).imp id fun he t ht => by
    subst he
    exact idle_rest (by rw [ht.pwr, hpwr, h.mode]) (by rw [ht.pwr, hpwr, h.entry]; decide)
  refine ⟨transmit t, ?_, hP _ (by simp [hp.mec]) (by simp [hp.ctu]) (by simp [hp.srv]) (by simp [hp.tpe])
    (by simp [hp.slots, htsc]) (by simp [hpl hr]), by simp [hp.tun, htun], by simp [hp.tar, htar], by simp [hp.clk, hclk],
    by simp [hp.pwr, hpwr]⟩
  rw [exec_motionComplete, switchReads_eq h.mode h.deckUp, hu]
  exact done_of_settles ht hn

end

/-! ### The end of a motion (R5, R24) -/

section
variable {n : TState} {s : State}

theorem motionEnds_mec (n : TState) (s : State) :
    (motionEnds n s).mec = Mec.enters n false s.pins { s.mec with motionTimer := none } := by
  simp [motionEnds]

/-- A motion that ends in a state of rest reports the rest. -/
theorem motionEnds_reports_rest (hn : n = .empty ∨ n = .unthreaded) (h : s.mec.state.inMotion) :
    (motionEnds n s).reports = s.reports ++ [.rest] := by
  have hs : s.mec.state ≠ n ∧ s.mec.state.recordPair = false := by
    revert h
    rcases hn with rfl | rfl <;> cases s.mec.state <;> decide
  have hr := entryReports_rest (n := n) (s := s.mapMec fun m => { m with motionTimer := none })
    (by tauto) (by simpa using hs.1) (by simpa using hs.2)
  simp [motionEnds, hr]

theorem motionEnds_reports_threaded (h : s.mec.state.inMotion) : (motionEnds .threaded s).reports = s.reports := by
  have hs : s.mec.state.recordPair = false := by
    revert h
    cases s.mec.state <;> decide
  simp [motionEnds, entryReports_silent (n := .threaded) rfl, leaveReports_none hs]

theorem leaveState_tpe {o n : TState} (ho : o.measures = false) (hw : o.isWind = false) :
    (leaveState o n s).tpe = s.tpe := by
  unfold leaveState
  dsimp only
  rw [ho, hw]
  (repeat' split) <;> simp_all

theorem arriveState_tpe {o n : TState} (hn : n.isWind = false) : (arriveState o n s).tpe = s.tpe := by
  unfold arriveState
  dsimp only
  rw [hn]
  (repeat' split) <;> simp_all

/-- Between states that neither measure nor wind, the tape's record stays. -/
theorem enterState_tpe (ho : s.mec.state.measures = false) (hw : s.mec.state.isWind = false) (hn : n.isWind = false) :
    (enterState n s).tpe = s.tpe := by
  unfold enterState enter
  dsimp only
  (repeat' split) <;> simp [stallFollow, idleFollow, leaveState_tpe ho hw, arriveState_tpe hn]

end

end Sys2Proof.Machine
end

section
/-! Motions that complete with nothing pending. -/

namespace Sys2Proof.Machine

section
variable {p : ModePos} {q : PendingTarget} {s : State}

theorem proceed_none (h : s.mec.pending = none) : proceed s = s := by simp [proceed, h]

theorem proceed_some (h : s.mec.pending = some q) (hm : s.mec.state.inMotion = false) : proceed s = route q s := by
  simp [proceed, h, hm]

/-! ### Which motion a position completes (R5, R24) -/

theorem modeSwitch_threading (h : s.mec.state = .threading) : modeSwitch .thread s = proceed (motionEnds .threaded s) := by
  simp [modeSwitch, h]

theorem modeSwitch_unthreading (h : s.mec.state = .unthreading) : modeSwitch .inn s = proceed (motionEnds .unthreaded s) := by
  simp [modeSwitch, h]

theorem modeSwitch_loading (h : s.mec.state = .loading) : modeSwitch .inn s = loadingDone s := by
  simp [modeSwitch, h]

theorem modeSwitch_toOut (h : s.mec.state = .ejecting ∨ s.mec.state = .recovery ∧ s.mec.move = .toOut) :
    modeSwitch .out s = settleEmpty s := by
  rcases h with h | ⟨h, hv⟩
  · simp [modeSwitch, h]
  · simp [modeSwitch, h, hv]

theorem modeSwitch_toIn (h : s.mec.state = .recovery) (hv : s.mec.move = .toIn) :
    modeSwitch .inn s = settleUnthreaded s := by
  simp [modeSwitch, h, hv]

/-- A position that is not the motion's own leaves the motion in flight. -/
theorem modeSwitch_other
    (h : s.mec.state = .threading ∧ p ≠ .thread ∨ s.mec.state = .unthreading ∧ p ≠ .inn ∨
      s.mec.state = .loading ∧ p ≠ .inn ∨ s.mec.state = .ejecting ∧ p ≠ .out) : modeSwitch p s = s := by
  rcases h with ⟨h, hp⟩ | ⟨h, hp⟩ | ⟨h, hp⟩ | ⟨h, hp⟩ <;> simp [modeSwitch, h, hp]

theorem stays_in_motion (hs : s.Awake)
    (h : s.mec.state = .threading ∧ p ≠ .thread ∨ s.mec.state = .unthreading ∧ p ≠ .inn ∨
      s.mec.state = .loading ∧ p ≠ .inn ∨ s.mec.state = .ejecting ∧ p ≠ .out) :
    exec (.motionComplete p) s = .next (transmit { s with pins := { s.pins with mode := p } }) := by
  rw [exec_motionComplete, switchReads_eq hs.mode hs.deckUp, modeSwitch_other (by simpa using h),
    done_quiet (by simpa using hs.quiet)]
  rfl

/-- At rest in a state: the motion timer is stopped, nothing is pending. -/
def State.RestsIn (n : TState) (t : State) : Prop := t.mec.state = n ∧ t.mec.motionTimer = none ∧ t.mec.pending = none

/-- What the position switch leads to, in the records that a completion does not touch as they were. -/
def SwitchLeads (p : ModePos) (s : State) (P : State → Prop) : Prop :=
  ∃ t, exec (.motionComplete p) s = .next t ∧ P t ∧ t.tun = s.tun ∧ t.tar = s.tar ∧ t.clk = s.clk ∧ t.pwr = s.pwr

/-- What the tab switch says of the cassette. -/
def Pins.sensed (p : Pins) : Tab := if p.tab then .present else .absent

/-! ### With nothing pending -/

section
variable (hs : s.Awake) (hp : s.mec.pending = none)
include hs hp

theorem threading_done (h : s.mec.state = .threading) :
    SwitchLeads .thread s fun t => t.RestsIn .threaded ∧ t.mec.drum = false ∧ t.tsc = s.tsc := by
  have hu : modeSwitch .thread (s.reads .thread) = motionEnds .threaded (s.reads .thread) := by
    rw [modeSwitch_threading (by simp [h]), proceed_none (by simp [motionEnds_mec, hp])]
  have hr := motionEnds_reports_threaded (s := s.reads .thread) (by simp [h, TState.inMotion])
  refine completes_idle hs hu (.inl (by simp [hr, hs.quiet])) fun t hm _ _ ht => ⟨?_, ?_, ht⟩
  · simp [State.RestsIn, hm, motionEnds_mec, hp]
  · simp [hm, motionEnds_mec, TState.drumTurns]

theorem unthreading_done (h : s.mec.state = .unthreading) :
    SwitchLeads .inn s fun t => t.RestsIn .unthreaded ∧ t.tsc = s.tsc := by
  have hu : modeSwitch .inn (s.reads .inn) = motionEnds .unthreaded (s.reads .inn) := by
    rw [modeSwitch_unthreading (by simp [h]), proceed_none (by simp [motionEnds_mec, hp])]
  have hr := motionEnds_reports_rest (s := s.reads .inn) (n := .unthreaded) (.inr rfl) (by simp [h, TState.inMotion])
  refine completes_idle hs hu (.inr (by simp [hr, hs.quiet])) fun t hm _ _ ht => ⟨?_, ht⟩
  simp [State.RestsIn, hm, motionEnds_mec, hp]

theorem recovery_done (h : s.mec.state = .recovery) (hv : s.mec.move = .toIn) (hc : s.pins.cassette = true) :
    SwitchLeads .inn s fun t => t.RestsIn .unthreaded ∧ t.mec.tab = s.pins.sensed ∧ t.ctu.value = s.ctu.value ∧
      t.tpe = s.tpe ∧ t.tsc = s.tsc := by
  have hu : modeSwitch .inn (s.reads .inn) = senseTab (motionEnds .unthreaded (s.reads .inn)) := by
    rw [modeSwitch_toIn (by simp [h]) (by simp [hv]), settleUnthreaded, proceed_none (by simp [senseTab, motionEnds_mec, hc, hp])]
  have hr := motionEnds_reports_rest (s := s.reads .inn) (n := .unthreaded) (.inr rfl) (by simp [h, TState.inMotion])
  have hk := enterState_ctu (n := .unthreaded) (s := (s.reads .inn).mapMec fun m => { m with motionTimer := none }) (by simp [h])
  have ht := enterState_tpe (n := .unthreaded) (s := (s.reads .inn).mapMec fun m => { m with motionTimer := none })
    (by simp [h, TState.measures]) (by simp [h, TState.isWind]) rfl
  refine completes_idle hs hu (.inr (by simp [hr, hs.quiet])) fun t hm hct htp hts => ⟨?_, ?_, ?_, ?_, hts⟩
  · simp [State.RestsIn, hm, senseTab, motionEnds_mec, hc, hp]
  · simp [hm, senseTab, motionEnds_mec, hc, Pins.sensed]
  · simp [hct, motionEnds, hk]
  · simp [htp, motionEnds, ht]

end

end

end Sys2Proof.Machine
end

section
/-! Motions that change the cassette: what belongs to it is reset, and the plan rebuilt (R5, R24, R77). -/

namespace Sys2Proof.Machine

section
variable {q : PendingTarget} {s : State}

@[simp] theorem tpeCassetteReset_tpe (s : State) : (tpeCassetteReset s).tpe = Tpe.reset := by
  simp [tpeCassetteReset]

@[simp] theorem tpeCassetteReset_reports (s : State) :
    (tpeCassetteReset s).reports = s.reports ++ if s.tpe.profile = .unknown then [] else [.rebuild] := by
  simp [tpeCassetteReset, reportIf_eq]

/-- LOADING is complete: UNTHREADED, the tab sensed, counter, servo and tape records as for a new cassette. -/
def loaded (s : State) : State :=
  report .rebuild (tpeCassetteReset (srvLoaded (ctuLoaded (senseTab (motionEnds .unthreaded s)))))

/-- EMPTY is reached: the tab is not known, the match disarmed, the tape record reset. -/
def ejected (s : State) : State :=
  report .rebuild (tpeCassetteReset (disarmMatch ((motionEnds .empty s).mapMec fun m => { m with tab := .unknown })))

theorem loadingDone_eq (s : State) : loadingDone s = proceed (loaded s) := rfl

theorem settleEmpty_eq (s : State) : settleEmpty s = proceed (ejected s) := rfl

theorem loaded_mec (hc : s.pins.cassette = true) :
    (loaded s).mec =
      { Mec.enters .unthreaded false s.pins { s.mec with motionTimer := none } with tab := s.pins.sensed } := by
  simp [loaded, senseTab, motionEnds_mec, hc, Pins.sensed]

theorem ejected_mec (s : State) :
    (ejected s).mec =
      { Mec.enters .empty false s.pins { s.mec with motionTimer := none } with tab := .unknown } := by
  simp [ejected, motionEnds_mec]

/-- A list of reports in which a rest may stand before one or two rebuilds. -/
structure Rebuilds (l : List Report) : Prop where
  only : ∀ r ∈ l, r = .rebuild ∨ r = .rest
  some : .rebuild ∈ l
  short : l.length ≤ Config.reportBound

theorem rebuilds_of_reset (c : Prop) [Decidable c] :
    Rebuilds ([.rest] ++ (if c then [] else [.rebuild]) ++ [.rebuild]) := by
  by_cases h : c
  · rw [if_pos h]
    exact ⟨by simp, by simp, by decide⟩
  · rw [if_neg h]
    exact ⟨by simp, by simp, by decide⟩

theorem loaded_reports (hq : s.reports = []) (h : s.mec.state.inMotion) : Rebuilds (loaded s).reports := by
  have hr := motionEnds_reports_rest (s := s) (n := .unthreaded) (.inr rfl) h
  rw [hq] at hr
  simpa [loaded, hr] using rebuilds_of_reset _

theorem ejected_reports (hq : s.reports = []) (h : s.mec.state.inMotion) : Rebuilds (ejected s).reports := by
  have hr := motionEnds_reports_rest (s := s) (n := .empty) (.inl rfl) h
  rw [hq] at hr
  simpa [ejected, hr] using rebuilds_of_reset _

/-- The counter after LOADING (R45, R48). -/
theorem loaded_ctu (s : State) :
    (loaded s).ctu.value = 0 ∧ (loaded s).ctu.begun = false ∧ (loaded s).ctu.uncertain = false ∧ (loaded s).ctu.window = [] := by
  simp [loaded, ctuLoaded, setSide]

/-- The grade after LOADING (R39). -/
theorem loaded_srv (s : State) : (loaded s).srv.detected = some .full ∧ (loaded s).srv.basis = .full := by
  simp [loaded, srvLoaded, setDetected]

@[simp] theorem loaded_tpe (s : State) : (loaded s).tpe = Tpe.reset := by simp [loaded]

@[simp] theorem ejected_tpe (s : State) : (ejected s).tpe = Tpe.reset := by simp [ejected]

@[simp] theorem ejected_mArmed (s : State) : (ejected s).ctu.mArmed = false := by simp [ejected, disarmMatch]

/-- The completion leads to a state that has the reports of a cassette's change and no more. -/
theorem leads_rebuilds {p : ModePos} {u : State} {P : State → Prop} (hs : s.Awake) (hd : s.DrawsNothing)
    (hu : modeSwitch p (s.reads p) = u) (hq : Rebuilds u.reports)
    (hP : ∀ t, t.mec = u.mec → t.ctu = u.ctu → t.srv = u.srv → t.tpe = u.tpe → t.tsc.slots = s.tsc.slots →
      t.tsc.plan = [] → P t) : SwitchLeads p s P :=
  completes_rebuilds hs hd hu hq.only hq.some hq.short hP

/-! ### With nothing pending -/

section
variable (hs : s.Awake) (hd : s.DrawsNothing) (hp : s.mec.pending = none)
include hs hd hp

theorem loading_done (h : s.mec.state = .loading) (hc : s.pins.cassette = true) :
    SwitchLeads .inn s fun t => t.RestsIn .unthreaded ∧ t.mec.tab = s.pins.sensed ∧ t.ctu.value = 0 ∧ t.ctu.begun = false ∧
      t.ctu.uncertain = false ∧ t.ctu.window = [] ∧ t.srv.detected = some .full ∧ t.srv.basis = .full ∧
      t.tpe = Tpe.reset ∧ t.tsc.slots = s.tsc.slots ∧ t.tsc.plan = [] := by
  have hm := loaded_mec (s := s.reads .inn) (by simpa using hc)
  have hu : modeSwitch .inn (s.reads .inn) = loaded (s.reads .inn) := by
    rw [modeSwitch_loading (by simp [h]), loadingDone_eq, proceed_none (by simp [hm, hp])]
  refine leads_rebuilds hs hd hu (loaded_reports (by simpa using hs.quiet) (by simp [h, TState.inMotion]))
    fun t h1 h2 h3 h4 h5 h6 => ?_
  have hc := loaded_ctu (s.reads .inn)
  have hv := loaded_srv (s.reads .inn)
  rw [h1, h2, h3, h4]
  exact ⟨by simp [State.RestsIn, h1, hm, hp], by simp [hm, Pins.sensed], hc.1, hc.2.1, hc.2.2.1, hc.2.2.2, hv.1, hv.2,
    loaded_tpe _, h5, h6⟩

theorem eject_done (h : s.mec.state = .ejecting ∨ s.mec.state = .recovery ∧ s.mec.move = .toOut) :
    SwitchLeads .out s fun t => t.RestsIn .empty ∧ t.mec.tab = .unknown ∧ t.ctu.mArmed = false ∧ t.tpe = Tpe.reset ∧
      t.tsc.slots = s.tsc.slots ∧ t.tsc.plan = [] := by
  have hm := ejected_mec (s.reads .out)
  have hin : s.mec.state.inMotion := by rcases h with h | ⟨h, -⟩ <;> rw [h] <;> rfl
  have hu : modeSwitch .out (s.reads .out) = ejected (s.reads .out) := by
    rw [modeSwitch_toOut (by simpa using h), settleEmpty_eq, proceed_none (by simp [hm, hp])]
  refine leads_rebuilds hs hd hu (ejected_reports (by simpa using hs.quiet) (by simpa using hin))
    fun t h1 h2 h3 h4 h5 h6 => ?_
  rw [h1, h2, h4]
  exact ⟨by simp [State.RestsIn, h1, hm, hp], by simp [hm], ejected_mArmed _, ejected_tpe _, h5, h6⟩

end

end

end Sys2Proof.Machine
end

section
/-! Motions that complete with a target of the host pending: MEC proceeds toward it (R7, R10). -/

namespace Sys2Proof.Machine

section
variable {p : ModePos} {q : PendingTarget} {s : State}

/-- Outside a recording a forward mode is entered without a report, while the end sensor is dark. -/
theorem entryReports_forward {n : TState} (he : s.pins.endLit = false) (hr : s.mec.state.recordPair = false)
    (hn : n = .play ∨ n = .searchFwd ∨ n = .windFwd) : entryReports n s = [] := by
  rcases hn with rfl | rfl | rfl <;>
    simp [entryReports, leaveReports_none hr, arriveReports, he, TState.recordPair, TState.reverse]

/-- A motion begins from UNTHREADED without a report of its own. -/
theorem routeMotion_quiet {n : TState} (hn : n.silent) (hu : s.mec.state = .unthreaded) :
    (routeMotion n q s).reports = s.reports := by
  rw [routeMotion_reports, entryReports_silent hn, hu, leaveReports_none rfl, List.append_nil]

/-- A target of the host is pending under the host, no spin-up is in progress, and the end sensor is dark. -/
structure State.HostPends (q : PendingTarget) (s : State) : Prop where
  pending : s.mec.pending = some q
  origin : q.origin = .host
  owner : s.mec.owner = .host
  spin : s.mec.spin = false
  dark : s.pins.endLit = false

/-- In motion toward a position, with this target still pending. -/
def State.GoesOn (n : TState) (limit : Nat) (q : PendingTarget) (t : State) : Prop :=
  t.mec.state = n ∧ t.mec.motionTimer = some limit ∧ t.mec.pending = some q

variable {P : State → Prop} (hs : s.Awake) (hp : s.HostPends q)
include hs hp

/-! ### From THREADING -/

theorem threading_leads (h : s.mec.state = .threading) {u : State} (hu : route q (motionEnds .threaded (s.reads .thread)) = u)
    (hq : u.reports = []) (hP : ∀ t, t.mec = u.mec → P t) : SwitchLeads .thread s P := by
  refine completes_idle hs (u := u) ?_ (.inl hq) fun t hm _ _ _ => hP t hm
  rw [modeSwitch_threading (by simp [h]), proceed_some (q := q) (by simp [motionEnds_mec, hp.pending])
    (by simp [motionEnds_mec, TState.inMotion]), hu]

omit hp in
theorem threading_quiet (h : s.mec.state = .threading) : (motionEnds .threaded (s.reads .thread)).reports = [] := by
  rw [motionEnds_reports_threaded (by simp [h, TState.inMotion])]
  simpa using hs.quiet

theorem threading_plays (h : s.mec.state = .threading) (ht : q.target = .play) :
    SwitchLeads .thread s fun t => t.RestsIn .play ∧ t.mec.drum = true := by
  have hr := entryReports_forward (s := motionEnds .threaded (s.reads .thread)) (n := .play) (by simp [hp.dark])
    (by simp [motionEnds_mec, TState.recordPair]) (.inl rfl)
  refine threading_leads hs hp h (route_enters (by simp [motionEnds_mec, TState.isThreaded]) (by rw [ht]; rfl))
    (by simp [enterTarget_reports, ht, Target.stateOf, hr, threading_quiet hs h]) fun t hm => ?_
  simp [State.RestsIn, hm, enterTarget_mec, ht, Target.stateOf, motionEnds_mec, Mec.takesTarget, TState.drumTurns]

theorem threading_spins (h : s.mec.state = .threading) (ht : q.target.isRecord) (htab : s.mec.tab ≠ .absent) :
    SwitchLeads .thread s fun t => t.mec.state = .threaded ∧ t.mec.spin = true ∧ t.mec.drum = true ∧
      t.mec.motionTimer = none ∧ t.mec.pending = some q ∧ t.mec.grade = q.grade := by
  have htab' : (motionEnds .threaded (s.reads .thread)).mec.tab ≠ .absent := by simpa [motionEnds_mec] using htab
  have hu : route q (motionEnds .threaded (s.reads .thread)) = beginSpinUp q (motionEnds .threaded (s.reads .thread)) := by
    rw [route_spins (by simp [motionEnds_mec, TState.playing]) ht, throughThreaded, if_pos (by simp [motionEnds_mec])]
  refine threading_leads hs hp h hu (by rw [beginSpinUp_reports htab', threading_quiet hs h]) fun t hm => ?_
  simp [hm, beginSpinUp_mec htab', motionEnds_mec]

theorem threading_protected (h : s.mec.state = .threading) (ht : q.target.isRecord) (htab : s.mec.tab = .absent) :
    SwitchLeads .thread s fun t => t.RestsIn .threaded ∧ t.mec.reportCause = .refused .tabProtected := by
  have htab' : (motionEnds .threaded (s.reads .thread)).mec.tab = .absent := by simpa [motionEnds_mec] using htab
  have hu : route q (motionEnds .threaded (s.reads .thread)) =
      enterState .threaded (dropTarget q .tabProtected (motionEnds .threaded (s.reads .thread))) := by
    rw [route_spins (by simp [motionEnds_mec, TState.playing]) ht, throughThreaded, if_pos (by simp [motionEnds_mec]),
      beginSpinUp, if_pos htab']
  refine threading_leads hs hp h hu ?_ fun t hm => ?_
  · simp [entryReports, motionEnds_mec, hp.origin, threading_quiet hs h]
  · simp [State.RestsIn, hm, motionEnds_mec]

theorem threading_leaves (h : s.mec.state = .threading) (ht : q.target.leavesPath) :
    SwitchLeads .thread s (State.GoesOn .unthreading 3600 q) := by
  have hu : route q (motionEnds .threaded (s.reads .thread)) =
      routeMotion .unthreading q (motionEnds .threaded (s.reads .thread)) := by
    rw [route_unthreads (by simp [motionEnds_mec, TState.isThreaded]) ht, throughThreaded, if_pos (by simp [motionEnds_mec])]
  refine threading_leads hs hp h hu ?_ fun t hm => ?_
  · simp [entryReports_silent (n := .unthreading) rfl, motionEnds_mec, leaveReports, TState.recordPair,
      threading_quiet hs h]
  · simp [State.GoesOn, hm, motionLimit]

/-! ### From UNTHREADING -/

theorem unthreading_leads (h : s.mec.state = .unthreading) {u : State}
    (hu : route q (motionEnds .unthreaded (s.reads .inn)) = u) (hq : u.reports = [.rest]) (hP : ∀ t, t.mec = u.mec → P t) :
    SwitchLeads .inn s P := by
  refine completes_idle hs (u := u) ?_ (.inr hq) fun t hm _ _ _ => hP t hm
  rw [modeSwitch_unthreading (by simp [h]), proceed_some (q := q) (by simp [motionEnds_mec, hp.pending])
    (by simp [motionEnds_mec, TState.inMotion]), hu]

omit hp in
theorem unthreading_rest (h : s.mec.state = .unthreading) : (motionEnds .unthreaded (s.reads .inn)).reports = [.rest] := by
  rw [motionEnds_reports_rest (.inr rfl) (by simp [h, TState.inMotion])]
  simp [hs.quiet]

theorem unthreading_unthreads (h : s.mec.state = .unthreading) (ht : q.target = .unthread) :
    SwitchLeads .inn s (State.RestsIn .unthreaded) := by
  refine unthreading_leads hs hp h (u := targetReached (motionEnds .unthreaded (s.reads .inn))) ?_ ?_ fun t hm => ?_
  · simp [route, routeUnthreaded, ht, motionEnds_mec]
  · simp [targetReached, unthreading_rest hs h]
  · simp [State.RestsIn, hm, motionEnds_mec]

theorem unthreading_winds (h : s.mec.state = .unthreading) (ht : q.target = .windFwd) :
    SwitchLeads .inn s (State.RestsIn .windFwd) := by
  have hr := entryReports_forward (s := motionEnds .unthreaded (s.reads .inn)) (n := .windFwd) (by simp [hp.dark])
    (by simp [motionEnds_mec, TState.recordPair]) (by simp)
  refine unthreading_leads hs hp h (route_winds (.inl (by simp [motionEnds_mec])) (.inl ht)) ?_ fun t hm => ?_
  · simp [enterTarget_reports, ht, Target.stateOf, hr, unthreading_rest hs h]
  · simp [State.RestsIn, hm, enterTarget_mec, ht, Target.stateOf, motionEnds_mec, Mec.takesTarget]

theorem unthreading_threads (h : s.mec.state = .unthreading) (ht : q.target = .play) :
    SwitchLeads .inn s (State.GoesOn .threading 3600 q) := by
  refine unthreading_leads hs hp h (route_threads (.inl (by simp [motionEnds_mec])) (.inl (by rw [ht]; rfl))
    (by simp [ht, Target.isRecord])) ?_ fun t hm => ?_
  · rw [routeMotion_quiet rfl (by simp [motionEnds_mec]), unthreading_rest hs h]
  · simp [State.GoesOn, hm, motionLimit]

theorem unthreading_ejects (h : s.mec.state = .unthreading) (ht : q.target = .eject) :
    SwitchLeads .inn s (State.GoesOn .ejecting 6000 q) := by
  refine unthreading_leads hs hp h (route_ejects (.inl (by simp [motionEnds_mec])) ht) ?_ fun t hm => ?_
  · rw [routeMotion_quiet rfl (by simp [motionEnds_mec]), unthreading_rest hs h]
  · simp [State.GoesOn, hm, motionLimit]

/-! ### From LOADING and EJECTING -/

variable (hd : s.DrawsNothing)
include hd

theorem loading_leads (h : s.mec.state = .loading) {u : State} (hc : s.pins.cassette = true)
    (hu : route q (loaded (s.reads .inn)) = u) (hq : u.reports = (loaded (s.reads .inn)).reports)
    (hP : ∀ t, t.mec = u.mec → P t) : SwitchLeads .inn s P := by
  have hm := loaded_mec (s := s.reads .inn) (by simpa using hc)
  refine leads_rebuilds hs hd (u := u) ?_ ?_ fun t hm _ _ _ _ _ => hP t hm
  · rw [modeSwitch_loading (by simp [h]), loadingDone_eq, proceed_some (q := q) (by simp [hm, hp.pending])
      (by simp [hm, TState.inMotion]), hu]
  · rw [hq]
    exact loaded_reports (by simpa using hs.quiet) (by simp [h, TState.inMotion])

theorem loading_threads (h : s.mec.state = .loading) (hc : s.pins.cassette = true) (ht : q.target = .play) :
    SwitchLeads .inn s (State.GoesOn .threading 3600 q) := by
  have hm := loaded_mec (s := s.reads .inn) (by simpa using hc)
  refine loading_leads hs hp hd h hc (route_threads (.inl (by simp [hm])) (.inl (by rw [ht]; rfl))
    (by simp [ht, Target.isRecord])) (routeMotion_quiet rfl (by simp [hm])) fun t hm => ?_
  simp [State.GoesOn, hm, motionLimit]

theorem loading_protected (h : s.mec.state = .loading) (hc : s.pins.cassette = true) (ht : q.target = .record)
    (htab : s.pins.tab = false) :
    SwitchLeads .inn s fun t => t.RestsIn .unthreaded ∧ t.mec.reportCause = .refused .tabProtected := by
  have hm := loaded_mec (s := s.reads .inn) (by simpa using hc)
  refine loading_leads hs hp hd h hc (u := dropTarget q .tabProtected (loaded (s.reads .inn))) ?_ ?_ fun t hm' => ?_
  · simp [route, routeUnthreaded, ht, hm, Pins.sensed, htab]
  · simp [hp.origin]
  · simp [State.RestsIn, hm', hm]

theorem ejecting_leads (h : s.mec.state = .ejecting) {u : State} (hu : route q (ejected (s.reads .out)) = u)
    (hq : u.reports = (ejected (s.reads .out)).reports) (hP : ∀ t, t.mec = u.mec → P t) : SwitchLeads .out s P := by
  have hm := ejected_mec (s.reads .out)
  refine leads_rebuilds hs hd (u := u) ?_ ?_ fun t hm _ _ _ _ _ => hP t hm
  · rw [modeSwitch_toOut (.inl (by simp [h])), settleEmpty_eq, proceed_some (q := q) (by simp [hm, hp.pending])
      (by simp [hm, TState.inMotion]), hu]
  · rw [hq]
    exact ejected_reports (by simpa using hs.quiet) (by simp [h, TState.inMotion])

theorem ejecting_rests (h : s.mec.state = .ejecting) (ht : q.target = .unthread ∨ q.target = .eject) :
    SwitchLeads .out s (State.RestsIn .empty) := by
  have hm := ejected_mec (s.reads .out)
  refine ejecting_leads hs hp hd h (u := targetReached (ejected (s.reads .out))) ?_ (by simp [targetReached])
    fun t hm' => ?_
  · rcases ht with ht | ht <;> simp [route, ht, hm]
  · simp [State.RestsIn, hm', hm]

theorem ejecting_drops (h : s.mec.state = .ejecting) (ht : q.target = .play) :
    SwitchLeads .out s fun t => t.RestsIn .empty ∧ t.mec.reportCause = .refused .noCassette := by
  have hm := ejected_mec (s.reads .out)
  refine ejecting_leads hs hp hd h (u := dropTarget q .noCassette (ejected (s.reads .out))) ?_ (by simp [hp.origin])
    fun t hm' => ?_
  · simp [route, ht, hm]
  · simp [State.RestsIn, hm', hm]

end

end Sys2Proof.Machine

namespace Sys2Proof.Proofs
open Sys2Proof.Machine

/-- Settles O21: the completion of each motion, and the next stage toward each pending target. -/
theorem motionsComplete : Obligations.MotionsComplete := by
  intro s hq hm hd he completes rests goesOn sensed stays
  have hs : s.Awake := ⟨hq, hm, hd, he⟩
  refine ⟨fun hp => ⟨fun h => ⟨threading_done hs hp h, fun p hn => stays_in_motion hs (.inl ⟨h, hn⟩)⟩,
    fun h => ⟨unthreading_done hs hp h, fun p hn => stays_in_motion hs (.inr (.inl ⟨h, hn⟩))⟩,
    fun h p hn => stays_in_motion hs (.inr (.inr (.inl ⟨h, hn⟩))),
    fun h p hn => stays_in_motion hs (.inr (.inr (.inr ⟨h, hn⟩))),
    fun ha hu => ⟨fun h hc => loading_done hs ⟨ha, .inl hu⟩ hp h hc, fun h => eject_done hs ⟨ha, .inl hu⟩ hp h⟩,
    fun h hv hc => recovery_done hs hp h hv hc⟩, fun q hpq ho how hspin hl => ?_⟩
  have hp : s.HostPends q := ⟨hpq, ho, how, hspin, hl⟩
  refine ⟨fun h => ⟨fun ht => threading_plays hs hp h ht, fun ht => ?_, fun ht => ?_⟩,
    fun h => ⟨fun ht => unthreading_unthreads hs hp h ht, fun ht => unthreading_winds hs hp h ht,
      fun ht => unthreading_threads hs hp h ht, fun ht => unthreading_ejects hs hp h ht⟩,
    fun ha hu => ⟨fun h hc => ⟨fun ht => loading_threads hs hp ⟨ha, .inl hu⟩ h hc ht,
        fun ht htab => loading_protected hs hp ⟨ha, .inl hu⟩ h hc ht htab⟩,
      fun h => ⟨fun ht => ejecting_rests hs hp ⟨ha, .inl hu⟩ h ht, fun ht => ejecting_drops hs hp ⟨ha, .inl hu⟩ h ht⟩⟩⟩
  · have hrec : q.target.isRecord := by rcases ht with ht | ht <;> rw [ht] <;> rfl
    exact ⟨fun htab => threading_spins hs hp h hrec htab, fun htab => threading_protected hs hp h hrec htab⟩
  · exact threading_leaves hs hp h (by rcases ht with ht | ht | ht | ht <;> rw [ht] <;> rfl)

end Sys2Proof.Proofs
end

section
/-! DECK_GO STOP under the host, from each kind of state (R11). -/

namespace Sys2Proof.Machine

section
variable {m o : Byte} {s : State} (hl : s.Listens) (hq : s.reports = [])
  (ho : s.mec.owner = .host)
include hl hq ho

theorem stop_playing (hs : s.mec.state = .play ∨ s.mec.state = .still ∨ s.mec.state = .searchFwd ∨ s.mec.state = .searchRev) :
    StopLeads m o s fun t => t.mec.AtRest .threaded ∧ t.tar = s.tar := by
  have hs' : s.mec.state.stopsThreaded ∧ s.mec.state.recordPair = false ∧ s.mec.state ≠ .fault := by
    rcases hs with hs | hs | hs | hs <;> rw [hs] <;> decide
  obtain ⟨hst, hr, hf⟩ := hs'
  obtain ⟨hrest, hrep⟩ := stop_threads (o := o) hst
  rw [hq, leaveReports_none hr] at hrep
  obtain ⟨t, ht, ⟨hm, htar⟩, h⟩ := stop_of_quiet (m := m) hl hf ho rfl (.inl hrep)
  exact ⟨t, ht, ⟨hm ▸ hrest, htar⟩, h⟩

theorem stop_recording (hs : s.mec.state = .record ∨ s.mec.state = .recordPause) (hh : s.HostHolds) :
    StopLeads m o s fun t => t.mec.AtRest .threaded ∧ t.tar.holder = .none := by
  have hs' : s.mec.state.stopsThreaded ∧ s.mec.state.recordPair ∧ s.mec.state ≠ .fault := by
    rcases hs with hs | hs <;> rw [hs] <;> decide
  obtain ⟨hst, hr, hf⟩ := hs'
  obtain ⟨hrest, hrep⟩ := stop_threads (o := o) hst
  rw [hq, ho, leaveReports_host hr rfl] at hrep
  obtain ⟨t, ht, ⟨hm, htar⟩, h⟩ := stop_of_recEnd (m := m) hl hf ho rfl hh hrep
  exact ⟨t, ht, ⟨hm ▸ hrest, htar⟩, h⟩

theorem stop_spinning (hs : s.mec.state = .threaded) (hspin : s.mec.spin = true) :
    StopLeads m o s fun t => t.mec.AtRest .threaded ∧ t.tar = s.tar := by
  have hu := stopTransport_endsSpin (s := deckGoReady 0 o 0 s) (by simpa using hs) (by simpa using hspin)
  obtain ⟨t, ht, ⟨hm, htar⟩, h⟩ := stop_of_quiet (m := m) hl (by simp [hs]) ho hu
    (.inl (by simp [entryReports, hs, hq]))
  exact ⟨t, ht, ⟨by simp [Mec.AtRest, hm, TState.drumTurns], htar⟩, h⟩

theorem stop_winding (hs : s.mec.state = .windFwd ∨ s.mec.state = .windRev) (he : s.pwr.entry = .none)
    (hspin : s.mec.spin = false) (hp : s.mec.pending = none) :
    StopLeads m o s fun t => t.mec.AtRest .unthreaded ∧ t.tar = s.tar := by
  have hs' : s.mec.state.isWind ∧ s.mec.state.recordPair = false ∧ s.mec.state ≠ .fault ∧ s.mec.state ≠ .unthreaded := by
    rcases hs with hs | hs <;> rw [hs] <;> decide
  obtain ⟨hw, hr, hf, hn⟩ := hs'
  have hu := stopTransport_brakes (s := deckGoReady 0 o 0 s) (by simpa using hw)
  have hrep := entryReports_rest (n := .unthreaded) (s := deckGoReady 0 o 0 s) (by simp) (by simpa) (by simpa)
  obtain ⟨t, ht, ⟨hm, htar⟩, h⟩ := stop_of_quiet (m := m) hl hf ho hu (.inr ⟨by rw [enterState_reports, hrep]; simp [hq], he⟩)
  exact ⟨t, ht, ⟨by simp [Mec.AtRest, hm, TState.drumTurns, hspin, hp], htar⟩, h⟩

theorem stop_resting (hs : s.mec.state = .empty ∨ s.mec.state = .unthreaded ∨ (s.mec.state = .threaded ∧ s.mec.spin = false)) :
    StopLeads m o s fun t => t.mec = (deckGoReady 0 o 0 s).mec ∧ t.tar = s.tar := by
  have hf : s.mec.state ≠ .fault := by rcases hs with hs | hs | ⟨hs, -⟩ <;> simp [hs]
  have hu := stopTransport_rests (s := deckGoReady 0 o 0 s) (by simp only [deckGoReady_mec]; tauto)
  exact stop_of_quiet hl hf ho hu (.inl (by simpa using hq))

theorem stop_moving (hs : s.mec.state = .loading ∨ s.mec.state = .threading ∨ s.mec.state = .unthreading ∨
      s.mec.state = .ejecting) :
    StopLeads m o s fun t => t.mec = { (deckGoReady 0 o 0 s).mec with pending := none } ∧ t.tar = s.tar := by
  have hs' : s.mec.state.inMotion ∧ s.mec.state ≠ .fault := by
    rcases hs with hs | hs | hs | hs <;> rw [hs] <;> decide
  have hu := stopTransport_motion (s := deckGoReady 0 o 0 s) (by simpa using hs'.1)
  rw [← loseTarget_mec]
  exact stop_of_quiet hl hs'.2 ho hu (.inl (by simpa using hq))

end

end Sys2Proof.Machine
end

section
/-! SUPPORT. The end of an occurrence (R152, R175, R177): the slot's result, the deck given back, and the plan rebuilt with
nothing left to draw. -/

namespace Sys2Proof.Machine

/-! ### The slots -/

section
variable {s t : State} {n m : Nat}

theorem slot_of_slots (h : t.tsc.slots = s.tsc.slots) (n : Nat) : t.slot n = s.slot n := by simp only [State.slot, h]

theorem slot_mapSlot_same (f : Slot → Slot) (h : n < 16) : (mapSlot n f s).slot n = f (s.slot n) := by
  simp [State.slot, mapSlot, h]

theorem slot_mapSlot_ne (f : Slot → Slot) (h : m ≠ n) : (mapSlot n f s).slot m = s.slot m := by
  simp [State.slot, mapSlot, Vector.getElem?_setIfInBounds_ne h.symm]

@[simp] theorem mapSlot_tsc (n : Nat) (f : Slot → Slot) (s : State) :
    (mapSlot n f s).tsc.active = s.tsc.active ∧ (mapSlot n f s).tsc.plan = s.tsc.plan ∧
    (mapSlot n f s).tsc.skip = s.tsc.skip ∧ (mapSlot n f s).tsc.shadow = s.tsc.shadow ∧
    (mapSlot n f s).tsc.restored = s.tsc.restored := by
  simp [mapSlot]

/-- The side records of a slot at an ending (R152). -/
def Slot.ended (r : Result) (l : Slot) : Slot :=
  { l with result := some r, count := if r.outcome.completes then min 255 (l.count + 1) else l.count }

/-- What a slot calls for depends on its own fields, and not on the records of its past. -/
theorem drawSlot_ended {r : Result} (hl : t.slot n = (s.slot n).ended r ∨ t.slot n = s.slot n) (hc : t.clk = s.clk)
    (hk : t.tsc.skip = s.tsc.skip) : drawSlot t n = drawSlot s n := by
  rcases hl with hl | hl
  · unfold drawSlot
    rw [hl, hc, hk]
    rfl
  · exact drawSlot_congr hl hc hk

/-! ### The result is written (R152) -/

@[simp] theorem writeResult_tsc (n : Nat) (r : Result) (s : State) :
    (writeResult n r s).tsc = { (mapSlot n (Slot.ended r) s).tsc with lastEnded := n } := by
  unfold writeResult
  dsimp only
  split <;> simp <;> rfl

theorem writeResult_sticky {r : Result} (hf : r.outcome.fails) (n : Nat) (s : State) :
    (writeResult n r s).stickySet .occurrenceFailed = true := by
  unfold writeResult
  dsimp only
  rw [if_pos hf]
  simpa [State.stickySet, raise_eq] using setSticky_set .occurrenceFailed (mapSlot n _ s)

/-- The result an ending writes (R152); the actual stop is the reading where the ending is taken in RECORD (log 25). -/
def resultOf (a : Active) (o : OccOutcome) (s : State) : Result :=
  { date := a.date, outcome := o, run := a.run.map (stopNow s), doubtful := a.doubtful, noSignal := a.noSignal }

theorem closeActive_eq (a : Active) (o : OccOutcome) (s : State) :
    closeActive a o s = (writeResult a.slot (resultOf a o s) s).mapTsc fun t =>
      { t with active := none, plan := t.plan.filter fun e => !e.is a.slot a.date } := rfl

/-! ### The deck is given back (R177) -/

/-- A stop that TSC asks for in a recording brings the tape to THREADED (R11, R17). -/
theorem timerTarget_stop (h : s.mec.state.recordPair) (g : Grade) :
    timerTarget .stop g s = enterState .threaded (s.mapMec fun m => { m with spin := false, pending := none }) := by
  have hs : s.mec.state ≠ .fault ∧ s.mec.state ≠ .empty ∧ s.mec.state ≠ .ejecting ∧ s.mec.state.stopsThreaded := by
    revert h
    cases s.mec.state <;> decide
  obtain ⟨h1, h2, h3, h4⟩ := hs
  simp [timerTarget, h1, Target.isRecord, stopTransport_threads h4]

/-- The tape of a recording stops as the deck is given back; from any other state nothing is asked of MEC. -/
def recordingStops (s : State) : State :=
  if s.mec.state.recordPair then enterState .threaded (s.mapMec fun m => { m with spin := false, pending := none }) else s

@[simp] theorem recordingStops_frame (s : State) :
    (recordingStops s).tun = s.tun ∧ (recordingStops s).tar = s.tar ∧ (recordingStops s).clk = s.clk ∧
    (recordingStops s).tsc = s.tsc ∧ (recordingStops s).pwr = s.pwr ∧
    (recordingStops s).lnk.sansNotices = s.lnk.sansNotices := by
  unfold recordingStops
  split <;> simp

theorem recordingStops_state (s : State) :
    (recordingStops s).mec.state = if s.mec.state.recordPair then .threaded else s.mec.state := by
  unfold recordingStops
  split <;> simp

theorem recordingStops_reports (ho : s.mec.owner = .timer) :
    (recordingStops s).reports = s.reports ++ if s.mec.state = .record then [.leftRecord] else [] := by
  unfold recordingStops
  split
  · simp [entryReports_silent (n := .threaded) rfl, ho, leaveReports_timer]
  · rename_i h
    have : s.mec.state ≠ .record := by intro h'; simp [h', TState.recordPair] at h
    simp [this]

/-- The timer owns the deck and holds the tuner, for which nothing else waits, in ON. -/
structure State.TimerHolds (s : State) : Prop where
  owner : s.mec.owner = .timer
  holder : s.tar.holder = .record
  remembered : s.tar.remembered = false
  syncWait : s.tar.syncWait = false
  mode : s.pwr.mode = .on

/-- The release as it is taken in ON: the tuner, the tape, the transport, the context. -/
theorem releaseDeck_eq {o : OccOutcome} (h : s.TimerHolds) :
    releaseDeck o s = report .released
      ((releaseTransport (recordingStops (tunerGivenBack (report .downTest s)))).mapTsc fun t =>
        { t with restored := if o.abrupt || t.shadow.isNone then t.restored else t.shadow, shadow := none }) := by
  have hr : startReturn s = s := by simp [startReturn, h.mode]
  have hst : ∀ u : State, (if u.mec.state.recordPair then timerTarget .stop u.mec.grade u else u) = recordingStops u := by
    intro u
    unfold recordingStops
    split
    · rename_i hp
      exact timerTarget_stop hp _
    · rfl
  unfold releaseDeck
  rw [if_pos h.owner, hr, releaseRecord_eq h.holder h.remembered h.syncWait]
  dsimp only
  rw [hst]

theorem releaseDeck_reports {o : OccOutcome} (h : s.TimerHolds) :
    (releaseDeck o s).reports =
      s.reports ++ [.downTest] ++ (if s.mec.state = .record then [.leftRecord] else []) ++ [.released] := by
  rw [releaseDeck_eq h]
  simp [recordingStops_reports (s := tunerGivenBack (report .downTest s)) (by simp [h.owner])]

/-! ### The ending as a whole (R175) -/

/-- The active occurrence is the whole plan, and the slots call for nothing else. -/
structure State.Alone (a : Active) (s : State) : Prop where
  active : s.tsc.active = some a
  plan : ∀ e ∈ s.tsc.plan, e.is a.slot a.date = true
  slot : a.slot < 16
  draws : ∀ n, drawSlot s n = []

/-- What the ending of an occurrence leaves, where nothing follows it. -/
structure Over (a : Active) (o : OccOutcome) (s t : State) : Prop where
  active : t.tsc.active = none
  plan : t.tsc.plan = []
  ended : t.slot a.slot = (s.slot a.slot).ended (resultOf a o s)
  others : ∀ n, n ≠ a.slot → t.slot n = s.slot n
  shadow : t.tsc.shadow = none
  restored : t.tsc.restored = if o.abrupt || s.tsc.shadow.isNone then s.tsc.restored else s.tsc.shadow
  owner : t.mec.owner = .host
  state : t.mec.state = if s.mec.state.recordPair then .threaded else s.mec.state
  kept : s.mec.state.recordPair = false → t.mec = { s.mec with owner := .host, idle := t.mec.idle }
  holder : t.tar.holder = .none
  clk : t.clk = s.clk
  tun : t.tun = s.tun
  pwr : t.pwr = s.pwr
  sticky : o.fails → t.stickySet .occurrenceFailed = true

theorem Over.of_planOnly {a : Active} {o : OccOutcome} {u : State} (h : Over a o s t) (hp : PlanOnly t u)
    (he : u.tsc.plan = []) : Over a o s u := by
  refine ⟨by rw [hp.active, h.active], he, by rw [hp.slot, h.ended], fun n hn => by rw [hp.slot, h.others n hn],
    by rw [hp.tsc, h.shadow], by rw [hp.tsc, h.restored], by rw [hp.mec, h.owner], by rw [hp.mec, h.state],
    fun hr => by rw [hp.mec]; exact h.kept hr, by rw [hp.tar, h.holder], by rw [hp.clk, h.clk], by rw [hp.tun, h.tun],
    by rw [hp.pwr, h.pwr], fun hf => by rw [hp.stickySet, h.sticky hf]⟩

/-- The state after the result is written and the deck given back. -/
theorem released_over {a : Active} {o : OccOutcome} (ha : s.Alone a) (h : s.TimerHolds) :
    Over a o s (releaseDeck o (closeActive a o s)) ∧
      (releaseDeck o (closeActive a o s)).reports =
        s.reports ++ [.downTest] ++ (if s.mec.state = .record then [.leftRecord] else []) ++ [.released] := by
  have hc : (closeActive a o s).TimerHolds :=
    ⟨by simp [h.owner], by simp [h.holder], by simp [h.remembered], by simp [h.syncWait], by simp [h.mode]⟩
  refine ⟨?_, by rw [releaseDeck_reports hc]; simp⟩
  have hslots : (releaseDeck o (closeActive a o s)).tsc.slots = (mapSlot a.slot (Slot.ended (resultOf a o s)) s).tsc.slots := by
    rw [releaseDeck_eq hc]
    simp [closeActive_eq]
  constructor
  case ended => rw [slot_of_slots hslots, slot_mapSlot_same _ ha.slot]
  case others =>
    intro n hn
    rw [slot_of_slots hslots, slot_mapSlot_ne _ hn]
  case plan =>
    rw [releaseDeck_eq hc]
    simpa [closeActive_eq] using ha.plan
  case kept =>
    intro hr
    rw [releaseDeck_eq hc]
    simp [closeActive_eq, recordingStops, hr, releaseTransport, idleFollow]
  case sticky =>
    intro hf
    have hw := writeResult_sticky (r := resultOf a o s) hf a.slot s
    have hs : (releaseDeck o (closeActive a o s)).lnk.sansNotices = (writeResult a.slot (resultOf a o s) s).lnk.sansNotices := by
      rw [releaseDeck_eq hc]
      simp [closeActive_eq]
    rw [State.stickySet, Lnk.sticky_of_sans hs]
    exact hw
  case state =>
    rw [releaseDeck_eq hc]
    simp [closeActive_eq, recordingStops_state, releaseTransport, idleFollow]
  all_goals
    rw [releaseDeck_eq hc]
    simp [closeActive_eq, releaseTransport, idleFollow]

theorem endActive_over {a : Active} {o : OccOutcome} (ha : s.Alone a) (h : s.TimerHolds) :
    Over a o s (endActive o s) ∧
      (endActive o s).reports =
        s.reports ++ [.downTest] ++ (if s.mec.state = .record then [.leftRecord] else []) ++ [.released] := by
  have hsucc : (closeActive a o s).successor o = none := by
    have hp : (closeActive a o s).tsc.plan = [] := by simpa [closeActive_eq] using ha.plan
    simp [State.successor, hp]
  have he : endActive o s = rebuild (releaseDeck o (closeActive a o s)) := by
    simp [endActive, ha.active, hsucc]
  obtain ⟨hover, hrep⟩ := released_over (o := o) ha h
  have hn : (releaseDeck o (closeActive a o s)).DrawsNothing := by
    refine ⟨hover.active, .inr fun n => ?_⟩
    have hl : (releaseDeck o (closeActive a o s)).slot n = (s.slot n).ended (resultOf a o s) ∨
        (releaseDeck o (closeActive a o s)).slot n = s.slot n := by
      by_cases hn : n = a.slot
      · subst hn
        exact .inl hover.ended
      · exact .inr (hover.others n hn)
    rw [drawSlot_ended hl hover.clk ?_, ha.draws]
    rw [releaseDeck_eq ⟨by simp [h.owner], by simp [h.holder], by simp [h.remembered], by simp [h.syncWait], by simp [h.mode]⟩]
    simp [closeActive_eq]
  obtain ⟨hp, hpl, hr⟩ := hn.rebuild_spec
  rw [he]
  exact ⟨hover.of_planOnly hp hpl, by rw [hr, hrep]⟩

end

end Sys2Proof.Machine
end

section
/-! SUPPORT. The ending of an occurrence as a command takes it: at once, or by a report that follows the leaving of RECORD. -/

namespace Sys2Proof.Machine

section
variable {s t u : State} {a : Active} {o : OccOutcome}

/-! ### Reports on a deck that is free again -/

theorem idle_leftRecord (ha : s.tsc.active = none) : IdleReport s .leftRecord := by
  intro rest
  simp [takeReport, recordLeft, mapActive, State.mapTsc, ha]
  simp [← ha]

theorem idle_released (ha : s.tsc.active = none) (ho : s.mec.owner = .host) (hm : s.pwr.mode = .on)
    (he : s.pwr.entry = .none) : IdleReport s .released := by
  intro rest
  simp [takeReport, occurrenceReleased, ha, ho, hm, he]

/-! ### The facts of an ending, through what cannot change them -/

theorem planOnly_heard (s : State) : PlanOnly s s.heard := (PlanOnly.refl s).awaits []

theorem Over.heard (h : Over a o s t) : Over a o s t.heard := h.of_planOnly (planOnly_heard t) h.plan

theorem Over.transmit (h : Over a o s t) : Over a o s (transmit t) :=
  ⟨by simp [h.active], by simp [h.plan], by simp [h.ended], fun n hn => by simp [h.others n hn], by simp [h.shadow],
    by simp [h.restored], by simp [h.owner], by simp [h.state], fun hr => by simpa using h.kept hr, by simp [h.holder],
    by simp [h.clk], by simp [h.tun], by simp [h.pwr], fun hf => by simp [h.sticky hf]⟩

/-- The state an ending starts from counts by its transport, clock, tuner, power and timer records alone. -/
theorem Over.congr (h : Over a o u t) (hmec : u.mec = s.mec) (hclk : u.clk = s.clk) (htun : u.tun = s.tun)
    (hpwr : u.pwr = s.pwr) (hslots : u.tsc.slots = s.tsc.slots) (hshadow : u.tsc.shadow = s.tsc.shadow)
    (hrestored : u.tsc.restored = s.tsc.restored) : Over a o s t := by
  have hr : resultOf a o u = resultOf a o s := by simp only [resultOf, funext_iff.2 fun r => show stopNow u r = stopNow s r by
    simp only [stopNow, hmec, hclk]]
  have hsl := slot_of_slots hslots
  exact ⟨h.active, h.plan, by rw [h.ended, hr, hsl], fun n hn => by rw [h.others n hn, hsl], h.shadow,
    by rw [h.restored, hshadow, hrestored], h.owner, by rw [h.state, hmec], fun hp => by rw [← hmec]; exact h.kept (by rwa [hmec]),
    h.holder, by rw [h.clk, hclk], by rw [h.tun, htun], by rw [h.pwr, hpwr], h.sticky⟩

/-! ### How the command ends -/

/-- After an ending all reports find nothing to do, but for an end action that may be waiting. -/
theorem settles_over (ha : s.Alone a) (h : s.TimerHolds) (he : s.pwr.entry = .none)
    (hid : ∀ r ∈ s.reports, IdleReport (endActive o s) r) :
    Settles (endActive o s).reports.length (endActive o s) (endActive o s).heard := by
  obtain ⟨hover, hrep⟩ := endActive_over (o := o) ha h
  have hm : (endActive o s).pwr.mode = .on := by rw [hover.pwr, h.mode]
  refine settles_idle rfl fun r hr => ?_
  rw [hrep] at hr
  simp only [List.mem_append, List.mem_singleton] at hr
  rcases hr with ((hr | rfl) | hr) | rfl
  · exact hid r hr
  · exact idle_downTest hm
  · split at hr
    · cases List.mem_singleton.mp hr
      exact idle_leftRecord hover.active
    · cases hr
  · exact idle_released hover.active hover.owner hm (by rw [hover.pwr, he])

/-- An ending that the command decides at once. -/
theorem done_endActive (hq : s.reports = []) (ha : s.Alone a) (h : s.TimerHolds) (he : s.pwr.entry = .none) :
    ∃ t, done (endActive o s) = .next t ∧ Over a o s t := by
  obtain ⟨hover, hrep⟩ := endActive_over (o := o) ha h
  refine ⟨_, done_of_settles (settles_over ha h he (by simp [hq])) ?_, hover.heard.transmit⟩
  rw [hrep, hq]
  split <;> decide

/-- An ending that a report leads to, in a state that is no recording. -/
theorem settles_cause {c : Report} {rest : List Report} (hq : s.reports = c :: rest) (ha : s.Alone a) (h : s.TimerHolds)
    (he : s.pwr.entry = .none) (hs : s.mec.state.recordPair = false) (hc : takeReport c (s.awaits rest) = endActive o (s.awaits rest))
    (hr : rest = [] ∨ rest = [.endAction] ∧ s.mec.endAction = .stop) :
    ∃ n t, n ≤ 5 ∧ Settles n s t ∧ Over a o s t := by
  have ha' : (s.awaits rest).Alone a := ⟨ha.active, ha.plan, ha.slot, ha.draws⟩
  have h' : (s.awaits rest).TimerHolds := ⟨h.owner, h.holder, h.remembered, h.syncWait, h.mode⟩
  obtain ⟨hover, hrep⟩ := endActive_over (o := o) ha' h'
  have hset : Settles (endActive o (s.awaits rest)).reports.length (endActive o (s.awaits rest)) (endActive o (s.awaits rest)).heard := by
    refine settles_over ha' h' he fun r hx => ?_
    rcases hr with rfl | ⟨rfl, hact⟩
    · simp at hx
    · cases List.mem_singleton.mp hx
      refine idle_endAction ?_
      have hk := hover.kept (by simpa using hs)
      rw [hk]
      simp [hact]
  refine ⟨_, _, ?_, settles_take hq (by rw [hc]; exact hset), hover.heard.congr rfl rfl rfl rfl rfl rfl rfl⟩
  have hne : s.mec.state ≠ .record := by intro hx; simp [hx, TState.recordPair] at hs
  rw [hrep]
  rcases hr with rfl | ⟨rfl, -⟩ <;> simp [hne]

/-- The record of an occurrence for which RECORD is left (R171, R174). -/
def Active.leftAt (now : Nat) (a : Active) : Active := { a with run := a.run.map fun r => { r with stop := some now } }

/-- An ending that is reported as RECORD is left: the actual stop is the reading then (log 25). -/
theorem settles_left_then {c : Report} {rest : List Report} (hq : s.reports = .leftRecord :: c :: rest) (ha : s.Alone a)
    (h : s.TimerHolds) (he : s.pwr.entry = .none) (hs : s.mec.state.recordPair = false)
    (hc : ∀ u : State, u.tsc.active = some (a.leftAt s.clk.reading) → takeReport c u = endActive o u)
    (hr : rest = [] ∨ rest = [.endAction] ∧ s.mec.endAction = .stop) :
    ∃ n t, n ≤ 6 ∧ Settles n s t ∧ Over (a.leftAt s.clk.reading) o s t := by
  have hact : (recordLeft (s.awaits (c :: rest))).tsc.active = some (a.leftAt s.clk.reading) := by
    simp [recordLeft, mapActive, ha.active, Active.leftAt]
  have ha' : (recordLeft (s.awaits (c :: rest))).Alone (a.leftAt s.clk.reading) := by
    refine ⟨hact, by simpa [recordLeft, mapActive, Active.leftAt] using ha.plan, ha.slot, fun n => ?_⟩
    rw [drawSlot_congr (s := s) (slot_of_slots (by simp [recordLeft, mapActive]) n) (by simp) (by simp [recordLeft, mapActive]), ha.draws]
  have h' : (recordLeft (s.awaits (c :: rest))).TimerHolds :=
    ⟨by simp [h.owner], by simp [h.holder], by simp [h.remembered], by simp [h.syncWait], by simp [h.mode]⟩
  obtain ⟨n, t, hn, hset, hover⟩ := settles_cause (o := o) (rest := rest) (by simp) ha' h' (by simpa using he)
    (by simpa using hs) (hc _ (by simpa using hact)) (by simpa using hr)
  refine ⟨n + 1, t, by omega, settles_take hq hset, ?_⟩
  exact hover.congr (by simp) (by simp) (by simp) (by simp) (by simp [recordLeft, mapActive]) (by simp [recordLeft, mapActive])
    (by simp [recordLeft, mapActive])

/-- The same, to the end of the command. -/
theorem done_left_then {c : Report} {rest : List Report} (hq : s.reports = .leftRecord :: c :: rest) (ha : s.Alone a)
    (h : s.TimerHolds) (he : s.pwr.entry = .none) (hs : s.mec.state.recordPair = false)
    (hc : ∀ u : State, u.tsc.active = some (a.leftAt s.clk.reading) → takeReport c u = endActive o u)
    (hr : rest = [] ∨ rest = [.endAction] ∧ s.mec.endAction = .stop) :
    ∃ t, done s = .next t ∧ Over (a.leftAt s.clk.reading) o s t := by
  obtain ⟨n, t, hn, hset, hover⟩ := settles_left_then hq ha h he hs hc hr
  exact ⟨transmit t, done_of_settles hset (by unfold Config.reportBound; omega), hover.transmit⟩

/-- An ending that the command reports, from a state that is no recording. -/
theorem done_cause {c : Report} (hq : s.reports = [c]) (ha : s.Alone a) (h : s.TimerHolds) (he : s.pwr.entry = .none)
    (hs : s.mec.state.recordPair = false) (hc : takeReport c s.heard = endActive o s.heard) :
    ∃ t, done s = .next t ∧ Over a o s t := by
  obtain ⟨n, t, hn, hset, hover⟩ := settles_cause (o := o) hq ha h he hs hc (.inl rfl)
  exact ⟨transmit t, done_of_settles hset (by unfold Config.reportBound; omega), hover.transmit⟩

/-- An occurrence in one of the states a cause asks for is ended by it (R178). -/
theorem endWhile_eq {states : List OccState} (ha : s.tsc.active = some a) (hs : states.contains a.state = true) :
    endWhile states o s = endActive o s := by
  simp only [endWhile, withActive, ha, hs, if_true]

end

end Sys2Proof.Machine
end

section
/-! DECK_GO STOP under the timer: the active occurrence ends STOPPED (R11, R178). -/

namespace Sys2Proof.Machine

section
variable {s : State} {a : Active} {e : PlanEntry} {m o : Byte}

/-- What the clauses of O17 say of the deck at rest. -/
def RestsAs (n : TState) (s t : State) : Prop :=
  t.mec.state = n ∧ t.mec.drum = false ∧ t.mec.spin = false ∧ t.mec.pending = none ∧ t.tun = s.tun ∧ t.clk = s.clk

/-- What O17 says of the occurrence that STOP ends. -/
def StoppedAs (a : Active) (run : Option RunInfo) (s t : State) : Prop :=
  RestsAs .threaded s t ∧ t.mec.owner = .host ∧ t.tar.holder = .none ∧ t.tsc.active = none ∧ t.tsc.plan = [] ∧
    t.tsc.shadow = none ∧ t.tsc.restored = s.tsc.restored ∧
    (t.slot a.slot).result =
      some { date := a.date, outcome := .stopped, run := run, doubtful := a.doubtful, noSignal := a.noSignal } ∧
    (t.slot a.slot).count = (s.slot a.slot).count ∧ (∀ n, n ≠ a.slot → t.slot n = s.slot n)

/-- The state in which TSC takes the STOP: the tape has come to rest. -/
def timerStopped (o : Byte) (s : State) : State :=
  reply (.deckGo .stop s.mec.state) (report .hostStop (stopTransport (deckGoReady 0 o 0 s)))

theorem exec_timerStop (hl : s.Listens) (ho : s.mec.owner = .timer) (hs : s.mec.state.stopsThreaded) :
    exec (.deckGoStop m 0 0 o 0) s = done (timerStopped o s) := by
  have hf : s.mec.state ≠ .fault := by intro hf; simp [hf, TState.stopsThreaded] at hs
  rw [exec_deckGoStop_taken hl hf, ho]
  rfl

@[simp] theorem timerStopped_frame (o : Byte) (s : State) :
    (timerStopped o s).tun = s.tun ∧ (timerStopped o s).tar = s.tar ∧ (timerStopped o s).clk = s.clk ∧
    (timerStopped o s).tsc = s.tsc ∧ (timerStopped o s).pwr = s.pwr := by
  simp [timerStopped]

@[simp] theorem timerStopped_slot (o : Byte) (s : State) (n : Nat) : (timerStopped o s).slot n = s.slot n :=
  slot_of_slots (by simp) n

theorem timerStopped_mec (ho : s.mec.owner = .timer) (hs : s.mec.state.stopsThreaded) :
    (timerStopped o s).mec.AtRest .threaded ∧ (timerStopped o s).mec.owner = .timer := by
  refine ⟨by simpa [timerStopped] using (stop_threads (o := o) hs).1, ?_⟩
  have hs' : (deckGoReady 0 o 0 s).mec.state.stopsThreaded := by rwa [deckGoReady_mec]
  rw [timerStopped, stopTransport_threads hs']
  simp [ho]

theorem timerStopped_reports (hq : s.reports = []) (ho : s.mec.owner = .timer) (hs : s.mec.state.stopsThreaded) :
    (timerStopped o s).reports = (if s.mec.state = .record then [.leftRecord] else []) ++ [.hostStop] := by
  have hr := (stop_threads (o := o) hs).2
  rw [hq, ho, leaveReports_timer, List.nil_append] at hr
  simp only [timerStopped, reply_frame, report_reports, hr]

/-- The timer records alone: an occurrence that is the whole plan (R161). -/
theorem alone_of_plan (ha : s.tsc.active = some a) (hp : s.tsc.plan = [e]) (hslot : e.slot = a.slot) (hdate : e.date = a.date)
    (hs : a.slot < 16) (hd : ∀ n, drawSlot s n = []) : s.Alone a :=
  ⟨ha, by simp [hp, PlanEntry.is, hslot, hdate], hs, hd⟩

theorem timerStopped_alone (h : s.Alone a) : (timerStopped o s).Alone a :=
  ⟨by simpa using h.active, by simpa using h.plan, h.slot, fun n => by
    rw [drawSlot_congr (s := s) (timerStopped_slot o s n) (by simp) (by simp), h.draws]⟩

theorem timerStopped_holds (h : s.TimerHolds) (hs : s.mec.state.stopsThreaded) : (timerStopped o s).TimerHolds :=
  ⟨(timerStopped_mec h.owner hs).2, by simp [h.holder], by simp [h.remembered], by simp [h.syncWait], by simp [h.mode]⟩

theorem stopped_of_over {b : Active} {t : State} (hs : s.mec.state.stopsThreaded) (ho : s.mec.owner = .timer)
    (hb : b.slot = a.slot ∧ b.date = a.date ∧ b.doubtful = a.doubtful ∧ b.noSignal = a.noSignal)
    (h : Over b .stopped (timerStopped o s) t) : StoppedAs a b.run s t := by
  obtain ⟨⟨hst, hdrum, hspin, hpend⟩, -⟩ := timerStopped_mec (o := o) ho hs
  obtain ⟨hslot, hdate, hdoubt, hsig⟩ := hb
  have hk := h.kept (by rw [hst]; rfl)
  have hend := h.ended
  rw [timerStopped_slot, hslot] at hend
  have hstop : stopNow (timerStopped o s) = id := by
    funext r
    simp [stopNow, hst]
  refine ⟨⟨by rw [hk, hst], by rw [hk, hdrum], by rw [hk, hspin], by rw [hk, hpend], by simp [h.tun], by simp [h.clk]⟩,
    h.owner, h.holder, h.active, h.plan, h.shadow, by simp [h.restored, OccOutcome.abrupt], ?_, ?_, fun n hn => ?_⟩
  · simp [hend, Slot.ended, resultOf, hdate, hdoubt, hsig, hstop]
  · simp [hend, Slot.ended, resultOf, OccOutcome.completes]
  · rw [h.others n (by rwa [hslot]), timerStopped_slot]

/-- STOP in RECORD: the actual stop is the reading. -/
theorem stop_timer_record (hl : s.Listens) (hq : s.reports = []) (ha : s.Alone a) (h : s.TimerHolds) (he : s.pwr.entry = .none)
    (hs : s.mec.state = .record) (hst : a.state = .recording) :
    ∃ t, exec (.deckGoStop m 0 0 o 0) s = .next t ∧ StoppedAs a (a.run.map fun r => { r with stop := some s.clk.reading }) s t := by
  have hs' : s.mec.state.stopsThreaded := by rw [hs]; rfl
  have hr := timerStopped_reports (o := o) hq h.owner hs'
  rw [if_pos hs] at hr
  obtain ⟨⟨hth, -⟩, -⟩ := timerStopped_mec (o := o) h.owner hs'
  rw [exec_timerStop hl h.owner hs']
  obtain ⟨t, ht, hover⟩ := done_left_then (s := timerStopped o s) (o := .stopped) hr (timerStopped_alone ha)
    (timerStopped_holds h hs') (by simp [he]) (by rw [hth]; rfl)
    (fun u hu => endWhile_eq hu (by simp [Active.leftAt, hst, activeStates])) (.inl rfl)
  refine ⟨t, ht, ?_⟩
  have hclk : (timerStopped o s).clk = s.clk := by simp
  rw [hclk] at hover
  exact stopped_of_over (a := a) (b := a.leftAt s.clk.reading) hs' h.owner ⟨rfl, rfl, rfl, rfl⟩ hover

/-- STOP in RECORD_PAUSE: the run stays as it is. -/
theorem stop_timer_pause (hl : s.Listens) (hq : s.reports = []) (ha : s.Alone a) (h : s.TimerHolds) (he : s.pwr.entry = .none)
    (hs : s.mec.state = .recordPause) (hst : a.state = .arming ∨ a.state = .labelWait ∨ a.state = .labelBreak) :
    ∃ t, exec (.deckGoStop m 0 0 o 0) s = .next t ∧ StoppedAs a a.run s t := by
  have hs' : s.mec.state.stopsThreaded := by rw [hs]; rfl
  have hr := timerStopped_reports (o := o) hq h.owner hs'
  rw [if_neg (by simp [hs])] at hr
  obtain ⟨⟨hth, -⟩, -⟩ := timerStopped_mec (o := o) h.owner hs'
  rw [exec_timerStop hl h.owner hs']
  obtain ⟨t, ht, hover⟩ := done_cause (s := timerStopped o s) (o := .stopped) hr (timerStopped_alone ha)
    (timerStopped_holds h hs') (by simp [he]) (by rw [hth]; rfl)
    (endWhile_eq (timerStopped_alone ha).active (by rcases hst with hst | hst | hst <;> rw [hst] <;> rfl))
  exact ⟨t, ht, stopped_of_over (a := a) hs' h.owner ⟨rfl, rfl, rfl, rfl⟩ hover⟩

end

end Sys2Proof.Machine

namespace Sys2Proof.Proofs
open Sys2Proof.Machine

/-- Settles O17: under the host each kind of state by its own lemma, under the timer the ending of the occurrence. -/
theorem deckGoStopRests : Obligations.DeckGoStopRests := by
  intro m o s hl hq _ rests
  refine ⟨fun ho => ⟨fun hs => ?_, fun hs hspin => ?_, fun hs he hspin hp => ?_, fun hs h1 h2 h3 h4 => ?_, fun hs => ?_,
    fun hs => ?_⟩, ?_⟩
  · obtain ⟨t, ht, ⟨⟨h1, h2, h3, h4⟩, h5⟩, h6, h7, h8, h9⟩ := stop_playing (m := m) (o := o) hl hq ho hs
    exact ⟨t, ht, ⟨h1, h2, h3, h4, h6, h7⟩, h5, h8, h9⟩
  · obtain ⟨t, ht, ⟨⟨h1, h2, h3, h4⟩, h5⟩, h6, h7, h8, h9⟩ := stop_spinning (m := m) (o := o) hl hq ho hs hspin
    exact ⟨t, ht, ⟨h1, h2, h3, h4, h6, h7⟩, h5, h8, h9⟩
  · obtain ⟨t, ht, ⟨⟨h1, h2, h3, h4⟩, h5⟩, h6, h7, h8, h9⟩ := stop_winding (m := m) (o := o) hl hq ho hs he hspin hp
    exact ⟨t, ht, ⟨h1, h2, h3, h4, h6, h7⟩, h5, h8, h9⟩
  · obtain ⟨t, ht, ⟨⟨a1, a2, a3, a4⟩, h5⟩, h6, h7, h8, h9⟩ := stop_recording (m := m) (o := o) hl hq ho hs ⟨h1, h2, h3, h4⟩
    exact ⟨t, ht, ⟨a1, a2, a3, a4, h6, h7⟩, h5, h8, h9⟩
  · obtain ⟨t, ht, ⟨hm, h5⟩, h6, h7, h8, h9⟩ := stop_resting (m := m) (o := o) hl hq ho hs
    exact ⟨t, ht, by simp [hm], by simp [hm], by simp [hm], h6, h5, h7, h8, h9⟩
  · obtain ⟨t, ht, ⟨hm, -⟩, -⟩ := stop_moving (m := m) (o := o) hl hq ho hs
    exact ⟨t, ht, by simp [hm], by simp [hm], by simp [hm]⟩
  · intro a e ho ha hp hslot hdate hn hd he hh hr hw hdraw stopped
    have hal := alone_of_plan ha hp hslot hdate hn hdraw
    have hto : s.TimerHolds := ⟨ho, hh, hr, hw, linkAwake_mode hl.1⟩
    exact ⟨fun hs hst => stop_timer_record hl hq hal hto he hs hst, fun hs hst => stop_timer_pause hl hq hal hto he hs hst⟩

end Sys2Proof.Proofs
end

section
/-! SUPPORT. CUE_SEEK: its fields, its refusals, and the state in which MEC is asked for the search (R55). -/

namespace Sys2Proof.Machine

theorem checked_nil (act : State → State) (s : State) : checked [] act s = act s := rfl

theorem checked_cons (n : Nat) (b : Bool) (l : List (Nat × Bool)) (act : State → State) (s : State) :
    checked ((n, b) :: l) act s = if b = true then refuseField n s else checked l act s := by
  cases b <;> rfl

theorem flagOf_bit {b : Byte} (h : b = 0 ∨ b = 1) (fresh n : Nat) : flagOf fresh n b = decide (b = 1) := by
  rcases h with rfl | rfl <;> rfl

theorem exec_cueSeek (dir limit em kp kind sp slot dp day rp : Byte) (low high : BitVec 16) (s : State) :
    exec (.cueSeek dir limit em kp kind sp slot dp day rp low high) s =
      done (arrives 0x14 (reqCueSeek dir limit em kp kind sp slot dp day rp low high) s) := rfl

/-- CUE_SEEK's fields as they are read (R55). -/
def seekFields (dir limit em kp kind sp slot dp day rp : Byte) (low high : BitVec 16) : SeekRequest :=
  { dir := if dir = 0 then .fwd else .rev, limit := limit.toNat, endPlay := em == 1,
    kind := if kp = 1 then some (if kind = 0 then .host else .timed) else none,
    slot := if sp = 1 then some slot.toNat else none, day := if dp = 1 then some day.toNat else none,
    range := if rp = 1 then some (low.toNat, high.toNat) else none }

/-- R55's checks after the fields, and the seek that passes them. -/
def seekTested (r : SeekRequest) (s : State) : State :=
  match seekRefusal s with
  | some x => refuse x s
  | none => seekTaken r s

theorem seekTested_refused {r : SeekRequest} {s : State} {x : Reason} (h : seekRefusal s = some x) :
    seekTested r s = refuse x s := by simp [seekTested, h]

theorem seekTested_taken {r : SeekRequest} {s : State} (h : seekRefusal s = none) : seekTested r s = seekTaken r s := by
  simp [seekTested, h]

/-- CUE_SEEK, its presence flags being 0 or 1: the field checks in their order, then R55's others. -/
theorem reqCueSeek_eq {dir limit em kp kind sp slot dp day rp : Byte} {low high : BitVec 16} (hk : kp = 0 ∨ kp = 1)
    (hs : sp = 0 ∨ sp = 1) (hd : dp = 0 ∨ dp = 1) (hr : rp = 0 ∨ rp = 1) (s : State) :
    reqCueSeek dir limit em kp kind sp slot dp day rp low high s =
      if 1 < dir.toNat then refuseField 1 s else if 1 < em.toNat then refuseField 3 s
      else if kp = 1 ∧ 1 < kind.toNat then refuseField 4 s
      else if sp = 1 ∧ (15 < slot.toNat ∨ (kp = 1 ∧ kind = 0)) then refuseField 5 s
      else if dp = 1 ∧ (day.toNat = 0 ∨ 31 < day.toNat ∨ (kp = 1 ∧ kind = 0)) then refuseField 6 s
      else if rp = 1 ∧ (high.toNat < low.toNat ∨ 32767 < high.toNat ∨ (kp = 1 ∧ kind = 1)) then refuseField 7 s
      else seekTested (seekFields dir limit em kp kind sp slot dp day rp low high) s := by
  unfold reqCueSeek
  simp only [flagOf_bit hk, flagOf_bit hs, flagOf_bit hd, flagOf_bit hr, checked_cons, checked_nil, above, outside,
    decide_eq_true_eq, Bool.and_eq_true, Bool.or_eq_true, beq_iff_eq, Nat.lt_one_iff, or_assoc, seekFields, seekTested] <;> rfl

/-! ### A seek that is taken -/

/-- The search state of a direction. -/
def Dir.search : Dir → TState
  | .fwd => .searchFwd
  | .rev => .searchRev

/-- The search target of a direction. -/
def Dir.target : Dir → Target
  | .fwd => .searchFwd
  | .rev => .searchRev

theorem seekFields_dir (dir limit em kp kind sp slot dp day rp : Byte) (low high : BitVec 16) :
    (seekFields dir limit em kp kind sp slot dp day rp low high).dir.search = (if dir = 0 then .searchFwd else .searchRev) ∧
    (seekFields dir limit em kp kind sp slot dp day rp low high).dir.target = (if dir = 0 then .searchFwd else .searchRev) := by
  by_cases h : dir = 0
  · subst h
    exact ⟨rfl, rfl⟩
  · simp only [seekFields, if_neg h]
    exact ⟨rfl, rfl⟩

/-- The seek a request stores. -/
def SeekRequest.seek (r : SeekRequest) (st : SeekState) : Seek :=
  { state := st, kind := r.kind, slot := r.slot, day := r.day, range := r.range, dir := r.dir, limit := r.limit, passed := 0,
    endPlay := r.endPlay }

/-- The state in which a seek asks MEC for its search: one under way is ABANDONED, the new one stored, the idle timer stopped. -/
def seekReady (r : SeekRequest) (s : State) : State :=
  ((endSeek .abandoned s).mapCtu fun c =>
    { c with seek := r.seek (if s.mec.state = r.dir.search then .running else .waiting) }).mapMec
      fun m => { m with idle := false }

/-- The search a seek asks for, at x15 (R55). -/
def seekTarget (r : SeekRequest) (s : State) : PendingTarget :=
  { target := r.dir.target, speed := .x15, grade := s.mec.grade, origin := .host }

theorem seekTaken_eq (r : SeekRequest) (s : State) :
    seekTaken r s = replyAccepted .empty (execTarget (seekTarget r s) (seekReady r s)) := by
  have hs : (endSeek .abandoned s).mec = s.mec := by simp
  obtain ⟨dir, limit, endPlay, kind, slot, day, range⟩ := r
  cases dir <;>
    simp only [seekTaken, seekReady, seekTarget, hostTarget, hs, Dir.search, Dir.target, SeekRequest.seek, State.mapCtu_mec] <;> rfl

section
variable (r : SeekRequest) (s : State)

@[simp] theorem seekReady_frame :
    (seekReady r s).srv = s.srv ∧ (seekReady r s).tpe = s.tpe ∧ (seekReady r s).tun = s.tun ∧ (seekReady r s).tar = s.tar ∧
    (seekReady r s).clk = s.clk ∧ (seekReady r s).tsc = s.tsc ∧ (seekReady r s).pwr = s.pwr ∧
    (seekReady r s).pins = s.pins ∧ (seekReady r s).reports = s.reports ∧
    (seekReady r s).mec = { s.mec with idle := false } := by
  simp [seekReady]

@[simp] theorem seekReady_seek :
    (seekReady r s).ctu.seek = r.seek (if s.mec.state = r.dir.search then .running else .waiting) := by
  simp [seekReady]

/-- A seek under way leaves its cue record (R57). -/
theorem seekReady_cue {r : SeekRequest} {s : State} (h : s.ctu.seek.state ≠ .idle) :
    (seekReady r s).ctu.cue = { kind := .abandoned, code := none, counter := s.ctu.value } := by
  simp [seekReady, endSeek, h, recordCue]

@[simp] theorem seekTarget_target : (seekTarget r s).target = r.dir.target := rfl
@[simp] theorem seekTarget_speed : (seekTarget r s).speed = .x15 := rfl
@[simp] theorem seekTarget_origin : (seekTarget r s).origin = .host := rfl

end

@[simp] theorem Dir.target_stateOf (d : Dir) : d.target.stateOf = d.search := by cases d <;> rfl
@[simp] theorem Dir.target_plays (d : Dir) : d.target.plays = true := by cases d <;> rfl
@[simp] theorem Dir.target_isSearch (d : Dir) : d.target.isSearch = true := by cases d <;> rfl

@[simp] theorem Dir.target_isRecord (d : Dir) : d.target.isRecord = false := by cases d <;> rfl

/-- A search is no recording and no rest. -/
theorem Dir.search_kinds (d : Dir) :
    d.search.recordPair = false ∧ d.search ≠ .empty ∧ d.search ≠ .unthreaded ∧ d.search ≠ .fault := by
  cases d <;> decide

/-- A seek that waits for a search runs when that search is entered (R55). -/
theorem seek_entered (r : SeekRequest) (st : SeekState) (h : st ≠ .idle) :
    (r.seek st).entered r.dir.search = r.seek .running := by
  unfold Seek.entered SeekRequest.seek
  cases r.dir <;> cases st <;> simp [Dir.search] at h ⊢

/-- Another state leaves the seek as it is. -/
theorem seek_entered_ne {r : SeekRequest} {n : TState} (st : SeekState) (h : n ≠ .searchFwd ∧ n ≠ .searchRev) :
    (r.seek st).entered n = r.seek st := by
  unfold Seek.entered SeekRequest.seek
  cases r.dir <;> simp [h.1, h.2]

/-! ### The tracking mode stays as states are entered -/

@[simp] theorem drumStop_srvMode (s : State) : (drumStop s).srv.mode = s.srv.mode := by simp [drumStop]

@[simp] theorem srvEnterPlay_mode (s : State) : (srvEnterPlay s).srv.mode = s.srv.mode := by
  unfold srvEnterPlay
  dsimp only
  split <;> simp [sweepRestart, *]

@[simp] theorem setDetected_mode (g : Grade) (s : State) : (setDetected g s).srv.mode = s.srv.mode := by simp [setDetected]

@[simp] theorem srvEnterRecord_mode (s : State) : (srvEnterRecord s).srv.mode = s.srv.mode := by
  unfold srvEnterRecord
  dsimp only
  split <;> simp

@[simp] theorem leaveState_srv (o n : TState) (s : State) : (leaveState o n s).srv = s.srv := by
  unfold leaveState
  dsimp only
  (repeat' split) <;> simp [ctuLeaveReading]

@[simp] theorem arriveState_mode (o n : TState) (s : State) : (arriveState o n s).srv.mode = s.srv.mode := by
  unfold arriveState
  dsimp only
  (repeat' split) <;> simp

@[simp] theorem enter_mode (n : TState) (k : Bool) (s : State) : (enter n k s).srv.mode = s.srv.mode := by
  unfold enter
  dsimp only
  (repeat' split) <;> simp [stallFollow, idleFollow]

@[simp] theorem enterState_mode (n : TState) (s : State) : (enterState n s).srv.mode = s.srv.mode := enter_mode n false s

end Sys2Proof.Machine
end

section
/-! CUE_SEEK, from each kind of state (R55). -/

namespace Sys2Proof.Machine

section
variable {r : SeekRequest} {s u : State} {st : SeekState}

/-- What a seek leaves of the seek and cue records, the owner, the end action and the tracking mode. -/
structure SeekKept (r : SeekRequest) (st : SeekState) (s u : State) : Prop where
  seek : u.ctu.seek = r.seek st
  cue : s.ctu.seek.state ≠ .idle → s.mec.state = .record ∨ u.ctu.cue = { kind := .abandoned, code := none, counter := s.ctu.value }
  owner : u.mec.owner = s.mec.owner
  endAction : u.mec.endAction = s.mec.endAction
  mode : u.srv.mode = s.srv.mode

/-! ### What MEC's operations keep of it -/

/-- The search is entered, or is the present state, and the seek runs. -/
theorem kept_of_enters : SeekKept r .running s (enterTarget (seekTarget r s) (seekReady r s)) := by
  by_cases h : s.mec.state = r.dir.search
  · have he : enterTarget (seekTarget r s) (seekReady r s) =
        (seekReady r s).mapMec fun m => { m with pending := none, speed := .x15 } := by
      simp [enterTarget, h]
    rw [he]
    exact ⟨by simp [h], fun hk => .inr (by simp [seekReady_cue hk]), by simp, by simp, by simp⟩
  · have he : enterTarget (seekTarget r s) (seekReady r s) =
        enterState r.dir.search ((seekReady r s).mapMec fun m => { m with pending := none, speed := .x15 }) := by
      simp [enterTarget, h]
    obtain ⟨-, -, -, -, hc, hk⟩ := enterState_ctu (n := r.dir.search)
      (s := (seekReady r s).mapMec fun m => { m with pending := none, speed := .x15 }) (by simpa)
    rw [he]
    refine ⟨?_, fun hi => ?_, by simp, by simp, by simp⟩
    · rw [hk]
      simp only [State.mapMec_ctu, seekReady_seek, if_neg h]
      exact seek_entered r .waiting (by decide)
    · by_cases hr : s.mec.state = .record
      · exact .inl hr
      · exact .inr (by rw [hc]; simp [hr, seekReady_cue hi])

/-- A motion toward the search begins, and the seek waits. -/
theorem kept_of_motion (p : PendingTarget) (hs : s.mec.state = .unthreaded ∨ s.mec.state.isWind) :
    SeekKept r .waiting s (routeMotion .threading p (seekReady r s)) := by
  have hs' : s.mec.state ≠ .threading ∧ s.mec.state ≠ .record ∧ s.mec.state ≠ r.dir.search := by
    revert hs
    cases s.mec.state <;> cases r.dir <;> decide
  obtain ⟨hth, hrec, hsearch⟩ := hs'
  obtain ⟨-, -, -, -, hc, hk⟩ := enterState_ctu (n := .threading)
    (s := (seekReady r s).mapMec fun m => { m with pending := some p }) (by simpa)
  refine ⟨?_, fun hi => .inr ?_, by simp, by simp, by simp [routeMotion, startMotion]⟩
  · simp [routeMotion, hk, hsearch, seek_entered_ne]
  · simp [routeMotion, hc, hrec, seekReady_cue hi]

/-- In a motion the search becomes pending, and the seek waits. -/
theorem kept_of_pending (p : PendingTarget) (hs : s.mec.state.inMotion) :
    SeekKept r .waiting s (makePending p (seekReady r s)) := by
  have hs' : s.mec.state ≠ r.dir.search := by
    revert hs
    cases s.mec.state <;> cases r.dir <;> decide
  exact ⟨by simp [hs'], fun hi => .inr (by simp [seekReady_cue hi]), by simp, by simp, by simp⟩

/-! ### How the command ends -/

/-- The command is taken: it leads to a seek in a state, the records that a route does not touch as they were. -/
def SeekLeads (i : Instr) (r : SeekRequest) (st : SeekState) (s : State) (P : State → Prop) : Prop :=
  ∃ t, exec i s = .next t ∧ P t ∧ t.ctu.seek = r.seek st ∧
    (s.ctu.seek.state ≠ .idle → s.mec.state = .record ∨
      t.ctu.cue = { kind := .abandoned, code := none, counter := s.ctu.value }) ∧
    t.mec.owner = .host ∧ t.mec.endAction = s.mec.endAction ∧ t.srv.mode = s.srv.mode ∧ t.tun = s.tun ∧ t.clk = s.clk ∧
    t.tsc = s.tsc ∧ t.pwr = s.pwr

/-- A seek of the host that passes all checks. -/
structure SeekTaken (i : Instr) (r : SeekRequest) (s : State) : Prop where
  exec : exec i s = done (seekTaken r (s.mapLnk fun l => { l with buffer := some 0x14 }))
  quiet : s.reports = []
  mode : s.pwr.mode = .on
  owner : s.mec.owner = .host
  spin : s.mec.spin = false
  dark : s.pins.dark

variable {i : Instr} {P : State → Prop}

/-- The state in which the request is held. -/
def seekHeld (s : State) : State := s.mapLnk fun l => { l with buffer := some 0x14 }

@[simp] theorem seekHeld_frame (s : State) :
    (seekHeld s).mec = s.mec ∧ (seekHeld s).srv = s.srv ∧ (seekHeld s).ctu = s.ctu ∧ (seekHeld s).tun = s.tun ∧
    (seekHeld s).tar = s.tar ∧ (seekHeld s).clk = s.clk ∧ (seekHeld s).tsc = s.tsc ∧ (seekHeld s).pwr = s.pwr ∧
    (seekHeld s).pins = s.pins ∧ (seekHeld s).reports = s.reports := by
  simp [seekHeld]

theorem seekLeads_of_quiet (h : SeekTaken i r s) (hu : execTarget (seekTarget r (seekHeld s)) (seekReady r (seekHeld s)) = u)
    (hq : u.reports = []) (hk : SeekKept r st (seekHeld s) u) (hP : ∀ t : State, t.mec = u.mec → P t) :
    SeekLeads i r st s fun t => P t ∧ t.tar = s.tar := by
  have hfr := execTarget_frame (seekTarget r (seekHeld s)) (seekReady r (seekHeld s))
  rw [hu] at hfr
  obtain ⟨htun, htar, -, hclk, htsc, hpwr, -, -⟩ := hfr
  have hc := hk.cue
  simp only [seekHeld_frame] at hc
  have hn : exec i s = .next (transmit (replyAccepted .empty u)) := by
    rw [h.exec, seekTaken_eq]
    exact (congrArg (fun v => done (replyAccepted .empty v)) hu).trans (done_quiet (by simpa using hq))
  refine ⟨_, hn, ⟨hP _ (by simp), by simp [htar]⟩, by simp [hk.seek], by simpa using hc, ?_⟩
  simp [hk.owner, hk.endAction, hk.mode, h.owner, htun, hclk, htsc, hpwr]

theorem seekLeads_of_recEnd (h : SeekTaken i r s) (hu : execTarget (seekTarget r (seekHeld s)) (seekReady r (seekHeld s)) = u)
    (hq : u.reports = [.hostRecEnd]) (hh : s.HostHolds) (hk : SeekKept r st (seekHeld s) u)
    (hP : ∀ t : State, t.mec = u.mec → P t) : SeekLeads i r st s fun t => P t ∧ t.tar.holder = .none := by
  have hfr := execTarget_frame (seekTarget r (seekHeld s)) (seekReady r (seekHeld s))
  rw [hu] at hfr
  obtain ⟨htun, htar, -, hclk, htsc, hpwr, -, -⟩ := hfr
  have hc := hk.cue
  simp only [seekHeld_frame] at hc
  have hh' : (replyAccepted .empty u).HostHolds := by
    obtain ⟨h1, h2, h3, h4⟩ := hh
    constructor <;> simpa [htar]
  have hn : exec i s = .next (transmit (tunerGivenBack (replyAccepted .empty u)).heard) := by
    rw [h.exec, seekTaken_eq]
    exact (congrArg (fun v => done (replyAccepted .empty v)) hu).trans
      (done_recEnd (by simpa using hq) hh' (by simp [hpwr, h.mode]))
  refine ⟨_, hn, ⟨hP _ (by simp), by simp⟩, by simp [hk.seek], by simpa using hc, ?_⟩
  simp [hk.owner, hk.endAction, hk.mode, h.owner, htun, hclk, htsc, hpwr]

/-! ### From each kind of state -/

/-- In the search a seek asked for. -/
def InSearch (d : Dir) (t : State) : Prop := t.mec.state = d.search ∧ t.mec.speed = .x15 ∧ t.mec.pending = none

/-- On the way to it. -/
def TowardSearch (d : Dir) (t : State) : Prop :=
  t.mec.pending.map (fun p => (p.target, p.speed, p.origin)) = some (d.target, Speed.x15, Owner.host)

theorem search_entered (h : SeekTaken i r s) (hs : s.mec.state.isThreaded) :
    let u := enterTarget (seekTarget r (seekHeld s)) (seekReady r (seekHeld s))
    execTarget (seekTarget r (seekHeld s)) (seekReady r (seekHeld s)) = u ∧
      u.reports = (if s.mec.state.recordPair then [.hostRecEnd] else []) ∧
      ∀ t : State, t.mec = u.mec → InSearch r.dir t := by
  have hm : s.mec.state.inMotion = false := by revert hs; cases s.mec.state <;> decide
  refine ⟨?_, ?_, fun t ht => ?_⟩
  · rw [execTarget_route (by simpa using hm) (by simpa using h.spin)]
    exact route_enters (by simpa using hs) (by simp)
  · obtain ⟨hn, hn'⟩ := r.dir.search_kinds
    rw [enterTarget_reports, seekTarget_target, Dir.target_stateOf,
      entryReports_host (by simpa using h.owner) (by simpa using h.dark) hn hn']
    simp [h.quiet]
  · rw [InSearch, ht, enterTarget_mec]
    split
    · rename_i heq
      simpa [Mec.takesTarget] using heq
    · simp [Mec.takesTarget]

theorem seek_playing (h : SeekTaken i r s) (hs : s.mec.state.playing) :
    SeekLeads i r .running s fun t => InSearch r.dir t ∧ t.tar = s.tar := by
  obtain ⟨-, hrp, hth⟩ := ready_of_playing hs
  obtain ⟨hu, hq, hP⟩ := search_entered h hth
  rw [hrp] at hq
  exact seekLeads_of_quiet h hu hq kept_of_enters hP

theorem seek_recording (h : SeekTaken i r s) (hs : s.mec.state.recordPair) (hh : s.HostHolds) :
    SeekLeads i r .running s fun t => InSearch r.dir t ∧ t.tar.holder = .none := by
  obtain ⟨-, hth⟩ := ready_of_recordPair hs
  obtain ⟨hu, hq, hP⟩ := search_entered h hth
  rw [if_pos hs] at hq
  exact seekLeads_of_recEnd h hu hq hh kept_of_enters hP

theorem seek_threads (h : SeekTaken i r s) (hs : s.mec.state = .unthreaded ∨ s.mec.state.isWind) :
    SeekLeads i r .waiting s fun t =>
      (t.mec.state = .threading ∧ t.mec.motionTimer = some 3600 ∧ TowardSearch r.dir t) ∧ t.tar = s.tar := by
  obtain ⟨-, hrp⟩ := ready_of_unthreaded hs
  have hm : s.mec.state.inMotion = false := by revert hs; cases s.mec.state <;> decide
  refine seekLeads_of_quiet h (u := routeMotion .threading (seekTarget r (seekHeld s)) (seekReady r (seekHeld s))) ?_ ?_
    (kept_of_motion _ (by simpa using hs)) fun t ht => ?_
  · rw [execTarget_route (by simpa using hm) (by simpa using h.spin)]
    exact route_threads (by simpa using hs) (.inl (by simp)) (by simp)
  · rw [routeMotion_reports, entryReports_silent rfl, leaveReports_none (by simpa using hrp)]
    simp [h.quiet]
  · simp [ht, motionLimit, TowardSearch]

theorem seek_waits (h : SeekTaken i r s) (hs : s.mec.state.inMotion) :
    SeekLeads i r .waiting s fun t =>
      (t.mec.state = s.mec.state ∧ t.mec.motionTimer = s.mec.motionTimer ∧ TowardSearch r.dir t) ∧ t.tar = s.tar := by
  refine seekLeads_of_quiet h (u := makePending (seekTarget r (seekHeld s)) (seekReady r (seekHeld s))) ?_ ?_
    (kept_of_pending _ (by simpa using hs)) fun t ht => ?_
  · exact execTarget_waits (by simpa using hs)
  · simp [h.quiet]
  · simp [ht, TowardSearch]

end

end Sys2Proof.Machine

namespace Sys2Proof.Proofs
open Sys2Proof.Machine

/-- Settles O19: the fields in their order, R55's other checks, and the search from each kind of state. -/
theorem cueSeekSearches : Obligations.CueSeekSearches := by
  intro dir limit em kp kind sp slot dp day rp low high s hl hq hk hs hd hr sought refused host bad1 bad3 bad4 bad5 bad6 bad7
  have hreq := reqCueSeek_eq (dir := dir) (limit := limit) (em := em) (kind := kind) (slot := slot) (day := day) (low := low)
    (high := high) hk hs hd hr
  have refuses : ∀ {x : Reply}, (∀ l, reqCueSeek dir limit em kp kind sp slot dp day rp low high { s with lnk := l } =
      reply x { s with lnk := l }) → exec sought s = .next (transmit (s.answering 0x14 x)) :=
    fun h => done_refused hl hq h
  refine ⟨fun h1 => refuses fun l => ?_, fun h1 h3 => refuses fun l => ?_, fun h1 h3 h4 => refuses fun l => ?_,
    fun h1 h3 h4 h5 => refuses fun l => ?_, fun h1 h3 h4 h5 h6 => refuses fun l => ?_,
    fun h1 h3 h4 h5 h6 h7 => refuses fun l => ?_, fun h1 h3 h4 h5 h6 h7 => ?_⟩
  · rw [hreq, if_pos h1]
    rfl
  · rw [hreq, if_neg h1, if_pos h3]
    rfl
  · rw [hreq, if_neg h1, if_neg h3, if_pos h4]
    rfl
  · rw [hreq, if_neg h1, if_neg h3, if_neg h4, if_pos h5]
    rfl
  · rw [hreq, if_neg h1, if_neg h3, if_neg h4, if_neg h5, if_pos h6]
    rfl
  · rw [hreq, if_neg h1, if_neg h3, if_neg h4, if_neg h5, if_neg h6, if_pos h7]
    rfl
  have hpass : ∀ u : State, reqCueSeek dir limit em kp kind sp slot dp day rp low high u =
      seekTested (seekFields dir limit em kp kind sp slot dp day rp low high) u := fun u => by
    rw [hreq, if_neg h1, if_neg h3, if_neg h4, if_neg h5, if_neg h6, if_neg h7]
  have refusal : ∀ {x : Reason}, seekRefusal s = some x → exec sought s = .next (transmit (s.answering 0x14 (.refused x 0))) := by
    intro x hx
    refine refuses fun l => ?_
    have hx' : seekRefusal { s with lnk := l } = some x := hx
    rw [hpass, seekTested_refused hx']
    rfl
  refine ⟨fun hf => refusal (by simp [seekRefusal, hf]), fun hf ho => refusal (by simp [seekRefusal, hf, ho]),
    fun ho hst => refusal ?_, fun ho hspin he hb => ?_⟩
  · rcases hst with hst | hst <;> simp [seekRefusal, hst, ho]
  · have taken (hn : seekRefusal s = none) :
        SeekTaken sought (seekFields dir limit em kp kind sp slot dp day rp low high) s := by
      refine ⟨?_, hq, linkAwake_mode hl.1, ho, hspin, he, hb⟩
      have hn' : seekRefusal (s.mapLnk fun l => { l with buffer := some 0x14 }) = none := hn
      rw [exec_cueSeek, arrives_listened hl, hpass, seekTested_taken hn']
    obtain ⟨hsearch, htarget⟩ := seekFields_dir dir limit em kp kind sp slot dp day rp low high
    refine ⟨fun hst => ?_, fun hst a1 a2 a3 a4 => ?_, fun hst => ?_, fun hst => ?_⟩
    · have hst' : s.mec.state.playing := by rcases hst with h | h | h | h | h <;> rw [h] <;> rfl
      have hn : seekRefusal s = none := by rcases hst with h | h | h | h | h <;> simp [seekRefusal, h, ho]
      have hg := seek_playing (taken hn) hst'
      simp only [InSearch, hsearch] at hg
      exact hg
    · have hst' : s.mec.state.recordPair := by rcases hst with h | h <;> rw [h] <;> rfl
      have hn : seekRefusal s = none := by rcases hst with h | h <;> simp [seekRefusal, h, ho]
      have hg := seek_recording (taken hn) hst' ⟨a1, a2, a3, a4⟩
      simp only [InSearch, hsearch] at hg
      exact hg
    · have hst' : s.mec.state = .unthreaded ∨ s.mec.state.isWind := by
        rcases hst with h | h | h <;> simp [h, TState.isWind]
      have hn : seekRefusal s = none := by rcases hst with h | h | h <;> simp [seekRefusal, h, ho]
      have hg := seek_threads (taken hn) hst'
      simp only [TowardSearch, htarget, and_assoc] at hg
      exact hg
    · have hst' : s.mec.state.inMotion := by rcases hst with h | h | h | h <;> rw [h] <;> rfl
      have hn : seekRefusal s = none := by rcases hst with h | h | h | h <;> simp [seekRefusal, h, ho]
      have hg := seek_waits (taken hn) hst'
      simp only [TowardSearch, htarget, and_assoc] at hg
      exact hg

end Sys2Proof.Proofs
end

section
/-! SUPPORT. RECOVERY: what it clears, and the three ways it goes on, which the switches tell (R23, R24). -/

namespace Sys2Proof.Machine

/-! ### A counter block that writes and seeks nothing -/

theorem leaveState_waiting {o n : TState} {s : State} (h : s.ctu.writing = none) :
    (leaveState o n s).ctu.waiting = s.ctu.waiting := by
  unfold leaveState
  dsimp only
  by_cases hr : o = .record
  · simp only [hr, if_true]
    (repeat' split) <;> simp [ctuLeaveReading, Ctu.aborted_of_none h]
  · simp only [hr, if_false]
    (repeat' split) <;> simp [ctuLeaveReading]

theorem arriveState_waiting {o n : TState} {s : State} : (arriveState o n s).ctu.waiting = s.ctu.waiting := by
  have hwind : ∀ u : State, (ctuEnterWind u).ctu.waiting = u.ctu.waiting := fun u => by
    unfold ctuEnterWind; split <;> simp [setUncertain]
  unfold arriveState
  dsimp only
  (repeat' split) <;> simp [ctuEnterReading, hwind]

theorem enterState_waiting {n : TState} {s : State} (h : s.ctu.writing = none) :
    (enterState n s).ctu.waiting = s.ctu.waiting := by
  unfold enterState enter
  dsimp only
  (repeat' split) <;> simp [stallFollow, idleFollow, leaveState_waiting h, arriveState_waiting]

/-- No mark is in writing or waits for it, no seek is under way, and the match is not armed. -/
structure Ctu.Idle (c : Ctu) : Prop where
  writing : c.writing = none
  waiting : c.waiting = none
  seek : c.seek.state = .idle
  mArmed : c.mArmed = false

/-- A state is entered with the counter block idle: it stays so, and the counter as it is. -/
theorem Ctu.Idle.enterState {n : TState} {s : State} (h : s.ctu.Idle) :
    (Machine.enterState n s).ctu.Idle ∧ (Machine.enterState n s).ctu.value = s.ctu.value := by
  by_cases hs : s.mec.state = n
  · have he : (Machine.enterState n s).ctu = s.ctu := by
      unfold Machine.enterState enter
      (repeat' split) <;> simp_all [stallFollow, idleFollow]
    rw [he]
    exact ⟨h, rfl⟩
  · obtain ⟨hv, -, ha, hw, -, hk⟩ := enterState_ctu hs
    refine ⟨⟨?_, by rw [enterState_waiting h.writing, h.waiting], ?_, by rw [ha, h.mArmed]⟩, hv⟩
    · rw [hw, h.writing, ite_self]
    · rw [hk, Seek.entered_other (by rw [h.seek]; decide), h.seek]

/-! ### What RECOVERY clears -/

/-- The drum, the spin-up, the target and the fault are gone, and the host owns the transport. -/
structure Mec.Cleared (m : Mec) : Prop where
  owner : m.owner = .host
  pending : m.pending = none
  faultCause : m.faultCause = .none
  drum : m.drum = false
  spin : m.spin = false

theorem recoveryClear_mec (s : State) :
    (recoveryClear false s).mec.Cleared ∧ (recoveryClear false s).mec.state = .recovery ∧
    (recoveryClear false s).mec.reportCause = s.mec.reportCause ∧ (recoveryClear false s).mec.motionTimer = none ∧
    (recoveryClear false s).mec.tab = s.mec.tab := by
  have hp : (recoveryClear false s).mec.pending = none := by cases h : s.mec.pending <;> simp [recoveryClear, h]
  exact ⟨⟨by simp [recoveryClear], hp, by simp [recoveryClear], by simp [recoveryClear, TState.drumTurns],
    by simp [recoveryClear]⟩, by simp [recoveryClear], by simp [recoveryClear], by simp [recoveryClear], by simp [recoveryClear]⟩

/-- Reports that a power-on deck with nothing to draw or to give back takes without a trace. -/
def Report.light (r : Report) : Prop := r = .hostRecEnd ∨ r = .rest ∨ r = .rebuild ∨ r = .visitTest

theorem recoveryClear_reports (s : State) :
    (recoveryClear false s).reports = s.reports ++ if s.mec.state.recordPair then [.hostRecEnd] else [] := by
  rw [recoveryClear, enterState_reports, entryReports_silent (by rfl)]
  cases h : s.mec.state.recordPair
  · simp [leaveReports_none h]
  · simp [leaveReports_host h (n := .recovery) (by rfl)]

/-- RECOVERY has taken over: what is cleared is clear, and the rest is as it was. -/
structure Recovers (s t : State) : Prop where
  cleared : t.mec.Cleared
  reportCause : t.mec.reportCause = s.mec.reportCause
  idle : t.ctu.Idle
  value : t.ctu.value = s.ctu.value
  sans : t.lnk.sansNotices = s.lnk.sansNotices
  frame : t.tun = s.tun ∧ t.tar = s.tar ∧ t.clk = s.clk ∧ t.tsc = s.tsc ∧ t.pwr = s.pwr
  reports : ∃ l, t.reports = s.reports ++ l ∧ (∀ r ∈ l, r.light) ∧ l.length ≤ 4

section
variable {s : State}

theorem recovers_clear (h : s.ctu.Idle) : Recovers s (recoveryClear false s) := by
  obtain ⟨hc, -, hr, -⟩ := recoveryClear_mec s
  have hi : (s.mapMec fun m =>
      { m with motionTimer := none, spin := false, faultCause := .none,
               pending := match m.pending with
                 | some p => if false && p.origin == .timer then some p else none
                 | none => none,
               owner := if false then m.owner else .host }).ctu.Idle := h
  obtain ⟨hidle, hval⟩ := hi.enterState (n := .recovery)
  refine ⟨hc, hr, hidle, hval, by simp [recoveryClear], by simp [recoveryClear], _, recoveryClear_reports s, ?_, ?_⟩
  · split <;> simp [Report.light]
  · split <;> simp

theorem recoveryMove_mec (mv : RecoveryMove) (limit : Nat) (s : State) :
    (recoveryMove mv limit s).mec =
      { s.mec with move := mv, motionTimer := some limit, stall := (recoveryMove mv limit s).mec.stall } := by
  simp [recoveryMove, stallFollow]

/-- The mode motor is driven (R24). -/
theorem recovers_move (h : s.ctu.Idle) (mv : RecoveryMove) (limit : Nat) :
    Recovers s (recoveryMove mv limit (recoveryClear false s)) := by
  have hr := recovers_clear h
  obtain ⟨h1, h2, h3, h4, h5⟩ := hr.cleared
  refine ⟨?_, by rw [recoveryMove_mec]; exact hr.reportCause, by simpa using hr.idle, by simpa using hr.value,
    by simpa using hr.sans, by simp, by simpa using hr.reports⟩
  rw [recoveryMove_mec]
  exact ⟨h1, h2, h3, h4, h5⟩

/-- A state of rest is entered from RECOVERY. -/
theorem recovers_motionEnds {n : TState} (h : s.ctu.Idle) (hn : n = .empty ∨ n = .unthreaded) :
    Recovers s (motionEnds n (recoveryClear false s)) ∧
    ∃ l, (motionEnds n (recoveryClear false s)).reports = s.reports ++ l ∧ (∀ r ∈ l, r.light) ∧ l.length ≤ 2 := by
  have hr := recovers_clear h
  obtain ⟨h1, h2, h3, h4, h5⟩ := hr.cleared
  have hi : ((recoveryClear false s).mapMec fun m => { m with motionTimer := none }).ctu.Idle := hr.idle
  obtain ⟨hidle, hval⟩ := hi.enterState (n := n)
  have hq : (motionEnds n (recoveryClear false s)).reports =
      s.reports ++ ((if s.mec.state.recordPair then [.hostRecEnd] else []) ++ [.rest]) := by
    rw [motionEnds_reports_rest hn (by simp [(recoveryClear_mec s).2.1, TState.inMotion]), recoveryClear_reports,
      List.append_assoc]
  have hl : ∀ r ∈ (if s.mec.state.recordPair then [Report.hostRecEnd] else []) ++ [.rest], r.light := by
    split <;> simp [Report.light]
  have hd : n.drumTurns = false := by rcases hn with rfl | rfl <;> rfl
  refine ⟨⟨?_, ?_, hidle, hval.trans hr.value, ?_, ?_, _, hq, hl, ?_⟩, _, hq, hl, ?_⟩
  · rw [motionEnds_mec]
    exact ⟨by simpa using h1, by simpa using h2, by simpa using h3, by simp [hd], by simpa using h5⟩
  · rw [motionEnds_mec]; simpa using hr.reportCause
  · simpa [motionEnds] using hr.sans
  · simp [motionEnds, recoveryClear]
  · split <;> simp
  · split <;> simp

/-- RECOVERY settles in UNTHREADED (R24). -/
theorem recovers_unthreaded (h : s.ctu.Idle) (hc : s.pins.cassette = true) :
    Recovers s (settleUnthreaded (recoveryClear false s)) ∧
    (settleUnthreaded (recoveryClear false s)).mec.state = .unthreaded ∧
    (settleUnthreaded (recoveryClear false s)).mec.motionTimer = none ∧
    (settleUnthreaded (recoveryClear false s)).mec.tab = s.pins.sensed := by
  obtain ⟨hr, -⟩ := recovers_motionEnds h (n := .unthreaded) (.inr rfl)
  have hc' : (motionEnds .unthreaded (recoveryClear false s)).pins.cassette = true := by
    simpa [motionEnds, recoveryClear] using hc
  have hm : (senseTab (motionEnds .unthreaded (recoveryClear false s))) =
      (motionEnds .unthreaded (recoveryClear false s)).mapMec fun m => { m with tab := s.pins.sensed } := by
    rw [senseTab, if_pos hc']
    simp [Pins.sensed, motionEnds, recoveryClear]
  have hp : settleUnthreaded (recoveryClear false s) =
      (motionEnds .unthreaded (recoveryClear false s)).mapMec fun m => { m with tab := s.pins.sensed } := by
    rw [settleUnthreaded, hm, proceed_none (by simpa using hr.cleared.pending)]
  obtain ⟨h1, h2, h3, h4, h5⟩ := hr.cleared
  rw [hp]
  exact ⟨⟨⟨h1, h2, h3, h4, h5⟩, hr.reportCause, hr.idle, hr.value, hr.sans, hr.frame, hr.reports⟩,
    by simp [motionEnds_mec], by simp [motionEnds_mec], by simp⟩

/-- EMPTY is reached with one or two rebuilds more. -/
theorem ejected_adds (s : State) : ∃ k, (ejected s).reports = (motionEnds .empty s).reports ++ k ∧
    (∀ r ∈ k, r = .rebuild) ∧ k.length ≤ 2 := by
  by_cases h : (motionEnds .empty s).tpe.profile = .unknown
  · exact ⟨[.rebuild], by simp [ejected, disarmMatch, h], by simp, by decide⟩
  · exact ⟨[.rebuild, .rebuild], by simp [ejected, disarmMatch, h], by simp, by decide⟩

/-- RECOVERY settles in EMPTY (R24, R77). -/
theorem recovers_empty (h : s.ctu.Idle) :
    Recovers s (settleEmpty (recoveryClear false s)) ∧
    (settleEmpty (recoveryClear false s)).mec.state = .empty ∧
    (settleEmpty (recoveryClear false s)).mec.motionTimer = none ∧
    (settleEmpty (recoveryClear false s)).mec.tab = .unknown ∧
    (settleEmpty (recoveryClear false s)).tpe = Tpe.reset := by
  obtain ⟨hr, l, hl, hli, hlen⟩ := recovers_motionEnds h (n := .empty) (.inl rfl)
  obtain ⟨h1, h2, h3, h4, h5⟩ := hr.cleared
  have hp : settleEmpty (recoveryClear false s) = ejected (recoveryClear false s) := by
    rw [settleEmpty_eq, proceed_none]
    simpa [ejected, tpeCassetteReset, motionEnds_mec] using h2
  rw [hp]
  have hm : (ejected (recoveryClear false s)).mec =
      { (motionEnds .empty (recoveryClear false s)).mec with tab := .unknown } := by
    simp [ejected]
  obtain ⟨k, hk, hki, hklen⟩ := ejected_adds (recoveryClear false s)
  have hq : (ejected (recoveryClear false s)).reports = s.reports ++ (l ++ k) := by rw [hk, hl, List.append_assoc]
  refine ⟨⟨?_, ?_, ?_, ?_, ?_, ?_, _, hq, ?_, ?_⟩, ?_, ?_, ?_, ejected_tpe _⟩
  · rw [hm]; exact ⟨h1, h2, h3, h4, h5⟩
  · rw [hm]; exact hr.reportCause
  · exact ⟨by simpa [ejected, disarmMatch] using hr.idle.writing, by simpa [ejected, disarmMatch] using hr.idle.waiting,
      by simpa [ejected, disarmMatch] using hr.idle.seek, by simp⟩
  · simpa [ejected, disarmMatch] using hr.value
  · simpa [ejected, disarmMatch, tpeCassetteReset] using hr.sans
  · simp [ejected, disarmMatch]
  · intro r hx
    exact (List.mem_append.mp hx).elim (hli r) fun hx => .inr (.inr (.inl (hki r hx)))
  · rw [List.length_append]
    omega
  · simp [hm, motionEnds_mec]
  · simp [hm, motionEnds_mec]
  · simp [hm]

end

end Sys2Proof.Machine
end

section
/-! RESTART: what the blocks clear, how RECOVERY goes on, and the obligation about it (R25, R203). -/

namespace Sys2Proof.Machine

/-! ### The blocks before and after the transport's part -/

/-- The tuner, the counter and the report cause are cleared. -/
def restartReady (s : State) : State := (ctuRestart (tarRestart s)).mapMec fun m => { m with reportCause := .none }

/-- The blocks that follow the transport: servo, tape, data lines, clock and power. -/
def restartEnds (s : State) : State :=
  report .rebuild (enterOn .restart (clkDropCandidate (retuned (tpeRestart (srvRestart s)))))

theorem restartBlocks_eq {s : State} (ha : s.tsc.active = none) :
    restartBlocks s = restartEnds (enterRecovery false (s.mec.state == .ejecting) (restartReady s)) := by
  have he : endAbruptly .restarted (ctuRestart (tarRestart s)) = ctuRestart (tarRestart s) := by
    simp [endAbruptly, ha]
  simp only [restartBlocks, he, restartReady, restartEnds]

@[simp] theorem setHolder_tar (h : Holder) (s : State) : (setHolder h s).tar = { s.tar with holder := h } := by
  simp [setHolder]

@[simp] theorem setHolder_sans (h : Holder) (s : State) : (setHolder h s).lnk.sansNotices = s.lnk.sansNotices := by
  simp only [setHolder, raiseIf_sans, State.mapTar_lnk]

@[simp] theorem tarEndsScan_sans (c : EndCause) (s : State) :
    (tarEndsScan c s).lnk.sansNotices = s.lnk.sansNotices := by
  unfold tarEndsScan; split <;> simp [scanEnd]

@[simp] theorem tarEndsScan_tun (c : EndCause) (s : State) :
    (tarEndsScan c s).tun.presets = s.tun.presets ∧ (tarEndsScan c s).tun.scan.state = .idle := by
  unfold tarEndsScan; split <;> simp [scanEnd, *]

section
variable {s : State}

/-- Where no SYNC holds or waits, TAR's part makes no report. -/
theorem tarRestart_eq (h : s.tar.syncs = false) : tarRestart s = tarClear (tarEndsScan .stopped s) := by
  simp [tarRestart, abandonSync, reportIf, h]

/-- The state in which RECOVERY begins. -/
theorem restartReady_spec (h : s.tar.syncs = false) :
    (restartReady s).mec = { s.mec with reportCause := .none } ∧ (restartReady s).ctu.Idle ∧
    (restartReady s).ctu.value = s.ctu.value ∧ (restartReady s).tar.holder = .none ∧
    (restartReady s).tar.hostWait = none ∧ (restartReady s).tun.presets = s.tun.presets ∧
    (restartReady s).tun.scan.state = .idle ∧ (restartReady s).reports = s.reports ∧ (restartReady s).pins = s.pins ∧
    (restartReady s).clk = s.clk ∧ (restartReady s).tsc = s.tsc ∧ (restartReady s).pwr = s.pwr ∧
    (restartReady s).lnk.sansNotices = s.lnk.sansNotices := by
  have hi : (restartReady s).ctu.Idle := by
    constructor <;> simp [restartReady, ctuRestart]
  refine ⟨?_, hi, ?_, ?_⟩ <;> simp [restartReady, ctuRestart, tarRestart_eq h, tarClear]

/-- Where the deck domains are powered already, only the return timer stops (R187). -/
theorem deckPowerUp_up (hd : s.pwr.deckUp = true) :
    deckPowerUp s = s.mapPwr fun p => { p with deckUp := true, returnTimer := false } := by
  simp [deckPowerUp, hd]

/-- ON is entered with the deck domains powered: the transport stays, and CLK tests for a visit. -/
theorem enterOn_deckUp (c : PowerCause) (hd : s.pwr.deckUp = true) :
    (enterOn c s).mec = s.mec ∧ (enterOn c s).ctu = s.ctu ∧ (enterOn c s).tpe = s.tpe ∧
    (enterOn c s).pwr.mode = .on ∧ (enterOn c s).pwr.lastCause = c ∧ (enterOn c s).pwr.entry = .none ∧
    (enterOn c s).reports = s.reports ++ [.visitTest] ∧ (enterOn c s).lnk.sansNotices = s.lnk.sansNotices := by
  rw [enterOn, deckPowerUp_up (by simpa [setPower] using hd)]
  simp [setPower]

/-- What the servo, the tape, the data lines and the clock do, before ON is entered. -/
theorem beforeOn_spec (s : State) :
    let u := clkDropCandidate (retuned (tpeRestart (srvRestart s)))
    u.mec = s.mec ∧ u.ctu = s.ctu ∧ u.tpe.profile = s.tpe.profile ∧ u.clk = { s.clk with candidate := none } ∧
      u.pwr = s.pwr ∧ u.reports = s.reports ∧ u.lnk.sansNotices = s.lnk.sansNotices := by
  have hprofile : (tpeRestart (srvRestart s)).tpe.profile = s.tpe.profile := by simp [tpeRestart, mapReels, srvRestart]
  have hsans : (retuned (tpeRestart (srvRestart s))).lnk.sansNotices = s.lnk.sansNotices := by
    simp [retuned, assemblyRestart, captureEmpty, withdraw, Lnk.sansNotices]
  simp [clkDropCandidate, hprofile, hsans]

/-- The blocks that follow leave the transport, and put PWR in ON. -/
theorem restartEnds_spec (hd : s.pwr.deckUp = true) :
    (restartEnds s).mec = s.mec ∧ (restartEnds s).ctu = s.ctu ∧ (restartEnds s).tun = s.tun ∧ (restartEnds s).tar = s.tar ∧
    (restartEnds s).tpe.profile = s.tpe.profile ∧ (restartEnds s).clk = { s.clk with candidate := none } ∧
    (restartEnds s).tsc = s.tsc ∧ (restartEnds s).pwr.mode = .on ∧ (restartEnds s).pwr.lastCause = .restart ∧
    (restartEnds s).pwr.entry = .none ∧ (restartEnds s).reports = s.reports ++ [.visitTest, .rebuild] ∧
    (restartEnds s).lnk.sansNotices = s.lnk.sansNotices := by
  obtain ⟨hm, hc, hp, hk, hw, hq, hl⟩ := beforeOn_spec s
  obtain ⟨h1, h2, h3, h4, h5, h6, h7, h8⟩ :=
    enterOn_deckUp (s := clkDropCandidate (retuned (tpeRestart (srvRestart s)))) .restart (by rw [hw, hd])
  simp only [restartEnds, report_reports]
  refine ⟨h1.trans hm, h2.trans hc, ?_, ?_, ?_, ?_, ?_, h4, h5, h6, ?_, h8.trans hl⟩
  · simp [clkDropCandidate]
  · simp [clkDropCandidate]
  · exact (congrArg Tpe.profile h3).trans hp
  · simpa using hk
  · simp [clkDropCandidate]
  · rw [h7, hq, List.append_assoc]
    rfl

end

/-! ### How the command ends -/

/-- With the tuner free, PWR in ON and no entry staged, sync disabled, these reports are rebuilds or find nothing to do. -/
theorem idle_of_light {s : State} {r : Report} (hr : r.light) (hh : s.tar.holder = .none) (hm : s.pwr.mode = .on)
    (he : s.pwr.entry = .none) (hy : s.clk.syncOn = false) : r = .rebuild ∨ IdleReport s r := by
  rcases hr with rfl | rfl | rfl | rfl
  · refine .inr fun rest => ?_
    simp [takeReport, hostRecordEnds, releaseRecord, hh]
  · exact .inr (idle_rest hm (by simp [he]))
  · exact .inl rfl
  · refine .inr fun rest => ?_
    simp [takeReport, visitTest, State.visitDue, hy]

/-- What the obligation asks of the state in which RESTART is received. -/
structure State.Restarts (s : State) : Prop where
  listens : s.Listens
  quiet : s.reports = []
  cassette : s.pins.cassette = true
  active : s.tsc.active = none
  unset : s.clk.state = .unset
  syncOff : s.clk.syncOn = false
  syncs : s.tar.syncs = false
  deckUp : s.pwr.deckUp = true

/-- The blocks after a RESTART, but for where RECOVERY goes. -/
structure Restarted (s t : State) : Prop where
  sticky : t.lnk.sticky = 0
  reported : t.lnk.reported = 0
  mask : t.lnk.mask = s.lnk.mask
  cleared : t.mec.Cleared
  reportCause : t.mec.reportCause = .none
  holder : t.tar.holder = .none
  hostWait : t.tar.hostWait = none
  presets : t.tun.presets = s.tun.presets
  scan : t.tun.scan.state = .idle
  value : t.ctu.value = s.ctu.value
  idle : t.ctu.Idle
  clk : t.clk = { s.clk with candidate := none }
  slots : t.tsc.slots = s.tsc.slots
  mode : t.pwr.mode = .on
  lastCause : t.pwr.lastCause = .restart
  entry : t.pwr.entry = .none

/-- The request is held and the flags are clear, before the blocks restart. -/
def restartHeld (s : State) : State := s.mapLnk fun l => { l with buffer := some 0x04, sticky := 0, reported := 0 }

@[simp] theorem restartHeld_frame (s : State) :
    (restartHeld s).mec = s.mec ∧ (restartHeld s).ctu = s.ctu ∧ (restartHeld s).tun = s.tun ∧
    (restartHeld s).tar = s.tar ∧ (restartHeld s).clk = s.clk ∧ (restartHeld s).tsc = s.tsc ∧
    (restartHeld s).pwr = s.pwr ∧ (restartHeld s).pins = s.pins ∧ (restartHeld s).reports = s.reports := by
  simp [restartHeld]

theorem exec_restart {s : State} (h : s.Restarts) : exec .restart s =
    done (replyOk .status (restartEnds (enterRecovery false (s.mec.state == .ejecting) (restartReady (restartHeld s))))) := by
  change done (arrives 0x04 reqRestart s) = _
  rw [arrives_listened h.listens]
  change done (replyOk .status (restartBlocks (restartHeld s))) = _
  rw [restartBlocks_eq (by simpa using h.active)]
  simp

/-- RECOVERY goes on to a state, and RESTART with it. -/
theorem restart_leads {s u : State} (h : s.Restarts)
    (hu : enterRecovery false (s.mec.state == .ejecting) (restartReady (restartHeld s)) = u)
    (hr : Recovers (restartReady (restartHeld s)) u) :
    ∃ t, exec .restart s = .next t ∧ t.mec = u.mec ∧ t.tpe.profile = u.tpe.profile ∧ Restarted s t := by
  obtain ⟨-, -, h3, h4, h5, h6, h7, h8, -, h10, h11, h12, h13⟩ := restartReady_spec (s := restartHeld s) (by simpa using h.syncs)
  obtain ⟨htun, htar, hclk, htsc, hpwr⟩ := hr.frame
  obtain ⟨l, hl, hlight, hlen⟩ := hr.reports
  obtain ⟨e1, e2, e3, e4, e5, e6, e7, e8, e9, e10, e11, e12⟩ :=
    restartEnds_spec (s := u) (by simp [hpwr, h12, h.deckUp])
  simp only [restartHeld_frame] at h3 h6 h8 h10 h11 h12
  have hends : (replyOk .status (restartEnds u)).reports = l ++ [.visitTest, .rebuild] := by
    simp [e11, hl, h8, h.quiet]
  have hdraws : (replyOk .status (restartEnds u)).DrawsNothing :=
    ⟨by simp [e7, htsc, h11, h.active], .inl (by simp [e6, hclk, h10, h.unset])⟩
  obtain ⟨t, ht, hp, -⟩ := settles_rebuilds hends hdraws fun r hx => by
    have hlr : r.light := by
      rcases List.mem_append.mp hx with hx | hx
      · exact hlight r hx
      · revert hx; simp only [Report.light]; aesop
    by_cases hrb : r = .rebuild
    · exact .inl hrb
    · refine .inr fun v hv => (idle_of_light hlr ?_ ?_ ?_ ?_).resolve_left hrb
      · simp [hv.tar, e4, htar, h4]
      · simp [hv.pwr, e8]
      · simp [hv.pwr, e10]
      · simp [hv.clk, e6, hclk, h10, h.syncOff]
  have hx : exec .restart s = .next (transmit t) := by
    rw [exec_restart h, hu]
    exact done_of_settles ht (by simp only [List.length_append, List.length_cons, List.length_nil]; unfold Config.reportBound; omega)
  have hs : (restartEnds u).lnk.sansNotices = (restartHeld s).lnk.sansNotices := (e12.trans hr.sans).trans h13
  have hsticky : t.lnk.sticky = 0 :=
    ((Lnk.sticky_of_sans hp.sans).trans (by simp [replyOk, reply_eq])).trans (Lnk.sticky_of_sans hs)
  have hreported : t.lnk.reported = 0 :=
    ((Lnk.reported_of_sans hp.sans).trans (by simp [replyOk, reply_eq])).trans (Lnk.reported_of_sans hs)
  have hmask : t.lnk.mask = s.lnk.mask :=
    ((Lnk.mask_of_sans hp.sans).trans (by simp [replyOk, reply_eq])).trans (Lnk.mask_of_sans hs : _ = (restartHeld s).lnk.mask)
  have hmec : t.mec = u.mec := by simp [hp.mec, e1]
  have hctu : t.ctu = u.ctu := by simp [hp.ctu, e2]
  refine ⟨transmit t, hx, by simp [hmec], by simp [hp.tpe, e5], ?_⟩
  exact {
    sticky := by simp [hsticky]
    reported := transmit_reported hreported
    mask := by simp [hmask]
    cleared := by simpa [hmec] using hr.cleared
    reportCause := by simp [hmec, hr.reportCause, (restartReady_spec (s := restartHeld s) (by simpa using h.syncs)).1]
    holder := by simp [hp.tar, e4, htar, h4]
    hostWait := by simp [hp.tar, e4, htar, h5]
    presets := by simp [hp.tun, e3, htun, h6]
    scan := by simp [hp.tun, e3, htun, h7]
    value := by simp [hctu, hr.value, h3]
    idle := by simpa [hctu] using hr.idle
    clk := by simp [hp.clk, e6, hclk, h10]
    slots := by simp [hp.slots, e7, htsc, h11]
    mode := by simp [hp.pwr, e8]
    lastCause := by simp [hp.pwr, e9]
    entry := by simp [hp.pwr, e10] }

/-! ### Where RECOVERY goes (R24, R25) -/

section
variable {s : State}

theorem restart_move (h : s.Restarts) {mv : RecoveryMove} {limit : Nat}
    (hm : enterRecovery false (s.mec.state == .ejecting) (restartReady (restartHeld s)) =
      recoveryMove mv limit (recoveryClear false (restartReady (restartHeld s)))) :
    ∃ t, exec .restart s = .next t ∧ (t.mec.state = .recovery ∧ t.mec.move = mv ∧ t.mec.motionTimer = some limit) ∧
      Restarted s t := by
  have hi : (restartReady (restartHeld s)).ctu.Idle := (restartReady_spec (by simpa using h.syncs)).2.1
  obtain ⟨t, ht, htm, -, hr⟩ := restart_leads h hm (recovers_move hi mv limit)
  have hst := (recoveryClear_mec (restartReady (restartHeld s))).2.1
  refine ⟨t, ht, ?_, hr⟩
  rw [htm, recoveryMove_mec]
  exact ⟨hst, rfl, rfl⟩

/-- The pins that RECOVERY reads are the ones at RESTART. -/
theorem restartReady_pins (h : s.Restarts) : (restartReady (restartHeld s)).pins = s.pins := by
  obtain ⟨-, -, -, -, -, -, -, -, hp, -⟩ := restartReady_spec (s := restartHeld s) (by simpa using h.syncs)
  exact hp

theorem restart_ejecting (h : s.Restarts) (hs : s.mec.state = .ejecting) :
    ∃ t, exec .restart s = .next t ∧ (t.mec.state = .recovery ∧ t.mec.move = .toOut ∧ t.mec.motionTimer = some 6000) ∧
      Restarted s t :=
  restart_move h (by simp [enterRecovery, hs, restartReady_pins h, h.cassette])

theorem restart_toIn (h : s.Restarts) (hs : s.mec.state ≠ .ejecting) (hp : s.pins.mode = .thread ∨ s.pins.mode = .between) :
    ∃ t, exec .restart s = .next t ∧ (t.mec.state = .recovery ∧ t.mec.move = .toIn ∧ t.mec.motionTimer = some 3600) ∧
      Restarted s t := by
  refine restart_move h ?_
  rcases hp with hp | hp <;> simp [enterRecovery, recoveryRun, hs, restartReady_pins h, h.cassette, hp]

theorem restart_unthreaded (h : s.Restarts) (hs : s.mec.state ≠ .ejecting) (hp : s.pins.mode = .inn) :
    ∃ t, exec .restart s = .next t ∧
      (t.mec.state = .unthreaded ∧ t.mec.motionTimer = none ∧ t.mec.tab = s.pins.sensed) ∧ Restarted s t := by
  have hi : (restartReady (restartHeld s)).ctu.Idle := (restartReady_spec (by simpa using h.syncs)).2.1
  have hpins := restartReady_pins h
  obtain ⟨hr, h1, h2, h3⟩ := recovers_unthreaded hi (by simpa [hpins] using h.cassette)
  obtain ⟨t, ht, htm, -, hre⟩ := restart_leads h
    (by simp [enterRecovery, recoveryRun, hs, restartReady_pins h, h.cassette, hp]) hr
  exact ⟨t, ht, by simp [htm, h1, h2, h3, hpins], hre⟩

theorem restart_empty (h : s.Restarts) (hs : s.mec.state ≠ .ejecting) (hp : s.pins.mode = .out) :
    ∃ t, exec .restart s = .next t ∧
      (t.mec.state = .empty ∧ t.mec.motionTimer = none ∧ t.mec.tab = .unknown ∧ t.tpe.profile = .unknown) ∧
      Restarted s t := by
  have hi : (restartReady (restartHeld s)).ctu.Idle := (restartReady_spec (by simpa using h.syncs)).2.1
  obtain ⟨hr, h1, h2, h3, h4⟩ := recovers_empty hi
  obtain ⟨t, ht, htm, htp, hre⟩ := restart_leads h
    (by simp [enterRecovery, recoveryRun, hs, restartReady_pins h, hp]) hr
  exact ⟨t, ht, by simp [htm, htp, h1, h2, h3, h4, Tpe.reset], hre⟩

end

end Sys2Proof.Machine

namespace Sys2Proof.Proofs
open Sys2Proof.Machine

/-- Settles O57: the blocks clear what is theirs, RECOVERY reads the switches, and the reports that follow find nothing to
do but a rebuild, which the UNSET clock leaves without an occurrence. -/
theorem restartRecovers : Obligations.RestartRecovers := by
  intro s hl hq _ hc ha hu hy hsync hw hd _ recovers moves
  have h : s.Restarts := ⟨hl, hq, hc, ha, hu, hy, by simp [Tar.syncs, hsync, hw], hd⟩
  have hrec : ∀ {P : State → Prop}, (∃ t, exec .restart s = .next t ∧ P t ∧ Restarted s t) → recovers P := by
    rintro P ⟨t, ht, hP, hr⟩
    obtain ⟨h1, h2, h3, h4, h5⟩ := hr.cleared
    obtain ⟨i1, i2, i3, i4⟩ := hr.idle
    exact ⟨t, ht, hP, hr.sticky, hr.reported, hr.mask, h1, h2, h3, hr.reportCause, h4, h5, hr.holder, hr.hostWait,
      hr.presets, hr.scan, hr.value, i1, i2, i4, i3, hr.clk, hr.slots, hr.mode, hr.lastCause, hr.entry⟩
  exact ⟨fun hs => hrec (restart_ejecting h hs), fun hs =>
    ⟨fun hp => hrec (restart_toIn h hs hp), fun hp => hrec (restart_unthreaded h hs hp),
      fun hp => hrec (restart_empty h hs hp)⟩⟩

end Sys2Proof.Proofs
end

section
/-! The loss of the primary supply, and the monitor's rows in BACKUP (R190, R191). -/

namespace Sys2Proof.Machine

/-! ### Pending notices that stay -/

/-- Nothing but PACKET is withdrawn, and the mask stays. -/
structure KeepsNotices (s t : State) : Prop where
  mask : t.lnk.mask = s.lnk.mask
  kept : ∀ n, n ≠ .packet → s.pendingNotice n = true → t.pendingNotice n = true

section
variable {s t u : State}

theorem KeepsNotices.of_link (h : t.lnk.notices = s.lnk.notices) (hm : t.lnk.mask = s.lnk.mask) : KeepsNotices s t :=
  ⟨hm, fun n _ hn => by rw [State.pendingNotice, h]; exact hn⟩

theorem KeepsNotices.trans (h : KeepsNotices s t) (h' : KeepsNotices t u) : KeepsNotices s u :=
  ⟨h'.mask.trans h.mask, fun n hp hn => h'.kept n hp (h.kept n hp hn)⟩

theorem KeepsNotices.after {s' : State} (h : s'.lnk = s.lnk) (k : KeepsNotices s' t) : KeepsNotices s t :=
  (KeepsNotices.of_link (by rw [h]) (by rw [h])).trans k

/-- What the link is before and after tells it. -/
theorem KeepsNotices.between {s' t' : State} (k : KeepsNotices s' t') (h : s'.lnk = s.lnk) (h' : t.lnk = t'.lnk) :
    KeepsNotices s t :=
  (k.after h).trans (.of_link (by rw [h']) (by rw [h']))

theorem keeps_raise (n : Notice) (s : State) : KeepsNotices s (raise n s) := by
  refine ⟨by simp [raise_eq], fun m _ hm => ?_⟩
  simp only [State.pendingNotice] at hm ⊢
  unfold raise
  split
  · exact hm
  · simp [hm]

theorem keeps_raiseIf (b : Bool) (n : Notice) (s : State) : KeepsNotices s (raiseIf b n s) := by
  cases b
  · exact .of_link rfl rfl
  · exact keeps_raise n s

/-- PACKET alone is withdrawn. -/
theorem keeps_withdraw (s : State) : KeepsNotices s (withdraw .packet s) := by
  refine ⟨rfl, fun m hp hm => ?_⟩
  have hb : (~~~(1#12 <<< Notice.packet.bit)).getLsbD m.bit = true := by revert hp; cases m <;> decide
  simp only [State.pendingNotice] at hm ⊢
  simp only [withdraw, State.mapLnk_lnk, BitVec.getLsbD_and, hm, hb, Bool.and_self]

/-- Out of BACKUP a class that the mask enables is pending once it is raised. -/
theorem raise_pending {n : Notice} (hm : s.pwr.mode ≠ .backup) (hk : s.lnk.mask.getLsbD n.bit = true) :
    (raise n s).pendingNotice n = true := by
  have hb : (1#12 <<< n.bit).getLsbD n.bit = true := by cases n <;> decide
  unfold raise
  rw [if_neg hm]
  simp only [State.pendingNotice, State.mapLnk_lnk, BitVec.getLsbD_or, BitVec.getLsbD_and, hb, hk, Bool.and_self, Bool.or_true]

theorem keeps_drumStop (s : State) : KeepsNotices s (drumStop s) := by
  refine .after ?_ (keeps_raiseIf _ .servo _)
  rfl

theorem keeps_setHolder (h : Holder) (s : State) : KeepsNotices s (setHolder h s) := by
  refine .after ?_ (keeps_raiseIf _ .tuner _)
  rfl

theorem keeps_retuned (s : State) : KeepsNotices s (retuned s) := by
  refine (KeepsNotices.after ?_ (keeps_withdraw _)).trans (.of_link rfl rfl)
  rfl

theorem keeps_mapTun (f : Tun → Tun) (s : State) : KeepsNotices s (s.mapTun f) := .of_link rfl rfl

theorem keeps_tunerPowerDown (s : State) : KeepsNotices s (tunerPowerDown s) := by
  have hscan : KeepsNotices s (scanEnd .stopped s) := by
    refine .after ?_ (keeps_raise .tuner _)
    rfl
  unfold tunerPowerDown
  dsimp only
  split
  · exact (keeps_mapTun _ _).trans (keeps_retuned _)
  · exact hscan.trans ((keeps_mapTun _ _).trans (keeps_retuned _))

theorem keeps_tarBackup (s : State) : KeepsNotices s (tarBackup s) := by
  exact (KeepsNotices.of_link (by simp) (by simp)).trans (keeps_setHolder .none _)

theorem keeps_clkBackup (b : Bool) (s : State) : KeepsNotices s (clkBackup b s) := by
  cases b
  · exact .of_link rfl rfl
  · refine KeepsNotices.trans (t := syncFailed .abandoned s) ?_ (.of_link rfl rfl)
    refine .after ?_ (keeps_raise .clock _)
    rfl

end

/-! ### The blocks' endings (R190) -/

/-- Tape, counter, servo and transport without power. -/
def lossDeck (s : State) : State :=
  (srvRestart (drumStop (tpeBackup s.mec.state.movesTape (ctuBackup s.mec.state.movesTape
    (s.mapTsc fun t => { t with shadow := none }))))).mapMec Mec.unpowered

/-- The blocks' endings, before PWR enters BACKUP. -/
def lossEnds (s : State) : State :=
  raise .power (lnkBackup (clkBackup s.tar.syncs (tunerPowerDown (tarBackup (lossDeck s)))))

/-- PWR's record in BACKUP. -/
def Pwr.inBackup (p : Pwr) : Pwr :=
  { p with supply := .lost, mode := .backup, entry := .none, link := .asleep, deckUp := false, returnTimer := false,
           detector := none, supplyTimer := false, lastCause := .supplyLost }

section
variable {s : State}

theorem supplyLoss_eq (hm : s.pwr.mode ≠ .backup) (ha : s.tsc.active = none) :
    supplyLoss s = (lossEnds s).mapPwr Pwr.inBackup := by
  have hb : (s.pwr.mode != .backup) = true := by simpa using hm
  rw [supplyLoss, hb, when_true]
  simp only [tscBackup, ha, lossEnds, lossDeck] <;> rfl

/-- A mark in writing is aborted, and CUE raised; all else waits for nothing. -/
theorem ctuBackup_writing (b : Bool) {w : Mark} (h : s.ctu.writing = some w) (hm : s.pwr.mode ≠ .backup) :
    (ctuBackup b s).ctu.writing = none ∧
    (ctuBackup b s).ctu.cue = { kind := .aborted, code := some w.code, counter := s.ctu.value } ∧
    (s.lnk.mask.getLsbD 2 = true → (ctuBackup b s).pendingNotice .cue = true) := by
  have hcue : s.lnk.mask.getLsbD 2 = true → (abortMark s).pendingNotice .cue = true := fun hk => by
    unfold abortMark
    rw [h]
    exact raise_pending (n := .cue) (by simpa using hm) hk
  cases b
  · exact ⟨by simp [ctuBackup], by simp [ctuBackup, Ctu.aborted_cue h], hcue⟩
  · refine ⟨by simp [ctuBackup, setUncertain], by simp [ctuBackup, setUncertain, Ctu.aborted_cue h], fun hk => ?_⟩
    exact (keeps_raiseIf _ .counter _).kept .cue (by decide) (hcue hk)

theorem keeps_ctuBackup (b : Bool) (s : State) : KeepsNotices s (ctuBackup b s) := by
  have ha : KeepsNotices s (abortMark s) := by
    unfold abortMark
    split
    · exact .of_link rfl rfl
    · refine .after ?_ (keeps_raise .cue _)
      rfl
  cases b
  · exact ha.trans (.of_link rfl rfl)
  · refine ha.trans (.after ?_ (keeps_raiseIf _ .counter _))
    rfl

theorem keeps_lnkBackup (s : State) : KeepsNotices s (lnkBackup s) := .of_link rfl rfl

theorem keeps_lossDeck (s : State) :
    KeepsNotices (ctuBackup s.mec.state.movesTape (s.mapTsc fun t => { t with shadow := none })) (lossDeck s) := by
  refine (KeepsNotices.of_link ?_ ?_).trans ((keeps_drumStop _).trans (.of_link rfl rfl)) <;> simp

theorem keeps_lossEnds (s : State) : KeepsNotices (lossDeck s) (lossEnds s) :=
  (keeps_tarBackup _).trans ((keeps_tunerPowerDown _).trans ((keeps_clkBackup _ _).trans
    ((keeps_lnkBackup _).trans (keeps_raise .power _))))

@[simp] theorem lossDeck_frame (s : State) :
    (lossDeck s).tun = s.tun ∧ (lossDeck s).tar = s.tar ∧ (lossDeck s).clk = s.clk ∧
    (lossDeck s).tsc = { s.tsc with shadow := none } ∧ (lossDeck s).pwr = s.pwr ∧ (lossDeck s).reports = s.reports ∧
    (lossDeck s).ctu = (ctuBackup s.mec.state.movesTape (s.mapTsc fun t => { t with shadow := none })).ctu ∧
    (lossDeck s).mec.drum = false ∧ (lossDeck s).mec.motionTimer = none ∧ (lossDeck s).mec.pending = none := by
  simp [lossDeck, Mec.unpowered, Mec.reset]

/-- CLK's record at the loss: a SYNC request ends ABANDONED, the candidate goes. -/
def Clk.atLoss (synced : Bool) (c : Clk) : Clk :=
  if synced then { c with candidate := none, request := .none, retry := some 0, lastSync := .abandoned }
  else { c with candidate := none }

theorem lossEnds_spec (s : State) :
    (lossEnds s).mec = (lossDeck s).mec ∧ (lossEnds s).ctu = (lossDeck s).ctu ∧ (lossEnds s).tsc = (lossDeck s).tsc ∧
    (lossEnds s).pwr = s.pwr ∧ (lossEnds s).clk = s.clk.atLoss s.tar.syncs ∧ (lossEnds s).tun.presets = s.tun.presets ∧
    (lossEnds s).tun.tuned.state = .none ∧ (lossEnds s).tar.holder = .none ∧ (lossEnds s).tar.hostWait = none ∧
    (lossEnds s).tar.syncWait = false ∧ (lossEnds s).lnk.buffer = none ∧ (lossEnds s).lnk.reply = none ∧
    (lossEnds s).lnk.line = none ∧ (lossEnds s).lnk.rx = Rx.reset := by
  have hclk : (clkBackup s.tar.syncs (tunerPowerDown (tarBackup (lossDeck s)))).clk = s.clk.atLoss s.tar.syncs := by
    unfold clkBackup Clk.atLoss
    split <;> simp [clkDropCandidate, syncFailed, requestOver]
  have htun : (tunerPowerDown (tarBackup (lossDeck s))).tun.presets = s.tun.presets ∧
      (tunerPowerDown (tarBackup (lossDeck s))).tun.tuned.state = .none := by
    unfold tunerPowerDown
    dsimp only
    split <;> simp [scanEnd]
  have htar : (tarBackup (lossDeck s)).tar.holder = .none ∧ (tarBackup (lossDeck s)).tar.hostWait = none ∧
      (tarBackup (lossDeck s)).tar.syncWait = false := by
    simp [tarBackup, tarClear]
  refine ⟨by simp [lossEnds], by simp [lossEnds], by simp [lossEnds], by simp [lossEnds], by simp [lossEnds, hclk],
    by simp [lossEnds, htun], by simp [lossEnds, htun], by simp [lossEnds, htar], by simp [lossEnds, htar],
    by simp [lossEnds, htar], ?_⟩
  simp [lossEnds, lnkBackup, rxReset, raise_eq]

end

end Sys2Proof.Machine
end

section
/-! The return of the primary supply, and the obligation about loss and return (R28, R141, R191). -/

namespace Sys2Proof.Machine

section
variable {s : State}

/-! ### The state in which RECOVERY runs -/

/-- A state that is entered from itself withdraws no notice. -/
theorem keeps_enterState {n : TState} (h : s.mec.state = n) : KeepsNotices s (enterState n s) := by
  unfold enterState enter
  dsimp only
  rw [if_pos h, if_pos h]
  split
  · exact .of_link rfl rfl
  · rw [if_neg (by decide)]
    exact (keeps_drumStop (s.mapMec fun m => { m with state := n, move := .none })).between rfl rfl

theorem keeps_recoveryClear (h : s.mec.state = .recovery) : KeepsNotices s (recoveryClear false s) := by
  unfold recoveryClear
  exact KeepsNotices.after (by rfl) (keeps_enterState (by exact h))

/-- PWR's record as STANDBY is entered at the return. -/
def Pwr.returned (p : Pwr) : Pwr :=
  { p with supply := .present, supplyTimer := false, mode := .standby, lastCause := .supplyReturn, link := .asleep,
           detector := some p.filter, deckUp := true }

/-- PWR and MEC have taken the return: POWER and DECK are raised, and MEC is in RECOVERY. -/
def returnedDeck (s : State) : State :=
  recoveryClear false ((raise .deck (raise .power (s.mapPwr Pwr.returned))).mapMec fun m =>
    { m with reportCause := .none, tab := .unknown })

/-- CLK reports its return, which makes the first of three reports. -/
def returnedClock (s : State) : State :=
  raise .clock ((returnedDeck s).mapClk fun c => { c with changed := false })

theorem supplyReturns_eq (hm : s.pwr.mode = .backup) (hs : s.pwr.supply = .returning) (ht : s.pwr.supplyTimer = true) :
    supplyReturns s = report .recover (report .visitTest
      (report (.clock { kind := .resume, old := s.clk.state, new := s.clk.state, size := none }) (returnedClock s))) := by
  have hc : (s.pwr.mode == .backup && s.pwr.supply == .returning && s.pwr.supplyTimer) = true := by simp [hm, hs, ht]
  have hr : (returnedDeck s).pwr.mode = .standby := by simp [returnedDeck, recoveryClear, Pwr.returned]
  have hk : (returnedDeck s).clk.state = s.clk.state := by simp [returnedDeck, recoveryClear]
  rw [supplyReturns, hc, when_true]
  change report .recover (clkResume (returnedDeck s)) = _
  simp [clkResume, clockReport, returnedClock, hr, hk]

theorem returnedClock_spec (s : State) (hst : s.mec.state = .recovery) :
    (returnedClock s).pwr = s.pwr.returned ∧ (returnedClock s).mec.state = .recovery ∧
    (returnedClock s).mec.tab = .unknown ∧ (returnedClock s).clk = { s.clk with changed := false } ∧
    (returnedClock s).tsc = s.tsc ∧ (returnedClock s).tun = s.tun ∧ (returnedClock s).pins = s.pins ∧
    (returnedClock s).reports = s.reports := by
  obtain ⟨-, h2, -, -, h5⟩ := recoveryClear_mec ((raise .deck (raise .power (s.mapPwr Pwr.returned))).mapMec fun m =>
    { m with reportCause := .none, tab := .unknown })
  refine ⟨by simp [returnedClock, returnedDeck, recoveryClear], by simpa [returnedClock, returnedDeck] using h2,
    by simpa [returnedClock, returnedDeck] using h5, ?_, ?_, ?_, ?_, ?_⟩
  · simp [returnedClock, returnedDeck, recoveryClear]
  · simp [returnedClock, returnedDeck, recoveryClear]
  · simp [returnedClock, returnedDeck, recoveryClear]
  · simp [returnedClock, returnedDeck, recoveryClear]
  · simp only [returnedClock, returnedDeck, raise_frame, State.mapClk_reports, recoveryClear_reports]
    simp [hst, TState.recordPair]

/-- POWER and DECK are raised in STANDBY, where the mask enables them. -/
theorem returnedClock_notices (hst : s.mec.state = .recovery) :
    (s.lnk.mask.getLsbD 10 = true → (returnedClock s).pendingNotice .power = true) ∧
    (s.lnk.mask.getLsbD 0 = true → (returnedClock s).pendingNotice .deck = true) := by
  have hk : KeepsNotices (raise .deck (raise .power (s.mapPwr Pwr.returned))) (returnedClock s) := by
    have hc := keeps_recoveryClear (s := (raise .deck (raise .power (s.mapPwr Pwr.returned))).mapMec fun m =>
      { m with reportCause := .none, tab := .unknown }) (by simpa using hst)
    have hb : KeepsNotices (raise .deck (raise .power (s.mapPwr Pwr.returned))) (returnedDeck s) := hc.after (by rfl)
    exact hb.trans (.after (by rfl) (keeps_raise .clock _))
  have hmode : (s.mapPwr Pwr.returned).pwr.mode ≠ .backup := by simp [Pwr.returned]
  refine ⟨fun hp => hk.kept .power (by decide) ((keeps_raise .deck _).kept .power (by decide) ?_), fun hp =>
    hk.kept .deck (by decide) ?_⟩
  · exact raise_pending (n := .power) hmode hp
  · refine raise_pending (n := .deck) (by simpa using hmode) ?_
    rw [(keeps_raise .power _).mask]
    exact hp

/-! ### The reports of the return -/

/-- A rebuild that draws nothing withdraws no notice. -/
theorem keeps_rebuild (h : s.DrawsNothing) : KeepsNotices s (rebuild s) := by
  rw [h.rebuild, h.drawPlan]
  exact (keeps_raise .plan _).between (by rfl) rfl

/-- With the clock UNSET and no occurrence active, CLK's report leads to a rebuild alone (R180). -/
theorem clockReported_resume (hu : s.clk.state = .unset) (ha : s.tsc.active = none) (o n : ClockState) :
    clockReported { kind := .resume, old := o, new := n, size := none } s = rebuild s := by
  simp [clockReported, hu, ha]

theorem idle_visitTest (hy : s.clk.syncOn = false) : IdleReport s .visitTest := by
  intro rest
  simp [takeReport, visitTest, State.visitDue, hy]

/-- What the obligation asks of the state in which the supply's return is taken. -/
structure State.Returns (s : State) : Prop where
  quiet : s.reports = []
  mode : s.pwr.mode = .backup
  supply : s.pwr.supply = .returning
  timer : s.pwr.supplyTimer = true
  cassette : s.pins.cassette = true
  position : s.pins.mode = .between
  state : s.mec.state = .recovery
  unset : s.clk.state = .unset
  active : s.tsc.active = none
  syncOff : s.clk.syncOn = false

/-- TSC has taken CLK's report, and rebuilt. -/
def returnRebuilt (s : State) : State := rebuild ((returnedClock s).awaits [.visitTest, .recover])

theorem returnRebuilt_spec (h : s.Returns) :
    PlanOnly (returnedClock s) (returnRebuilt s) ∧ (returnRebuilt s).reports = [.visitTest, .recover] ∧
    KeepsNotices (returnedClock s) (returnRebuilt s) := by
  obtain ⟨-, -, -, r4, r5, -⟩ := returnedClock_spec s h.state
  have hdraws : ((returnedClock s).awaits [.visitTest, .recover]).DrawsNothing :=
    ⟨by simp [r5, h.active], .inl (by simp [r4, h.unset])⟩
  obtain ⟨hplan, -, hrep⟩ := hdraws.rebuild_spec
  exact ⟨((PlanOnly.refl _).awaits _).trans hplan, hrep, (keeps_rebuild hdraws).after (by rfl)⟩

@[simp] theorem report_awaits (r : Report) (l : List Report) (s : State) : (report r s).awaits l = s.awaits l := rfl

@[simp] theorem awaits_awaits (k l : List Report) (s : State) : (s.awaits k).awaits l = s.awaits l := rfl

/-- The three reports of the return: CLK's, which rebuilds; the visit test, which finds nothing; RECOVERY's. -/
theorem settles_return (h : s.Returns) :
    Settles 3 (supplyReturns s) (recoveryMove .toIn 3600 ((returnRebuilt s).awaits [])) := by
  obtain ⟨-, r2, -, r4, r5, -, r7, r8⟩ := returnedClock_spec s h.state
  obtain ⟨hplan, hrep, -⟩ := returnRebuilt_spec h
  have hclock : takeReport (.clock { kind := .resume, old := s.clk.state, new := s.clk.state, size := none })
      ((returnedClock s).awaits [.visitTest, .recover]) = returnRebuilt s :=
    clockReported_resume (by simp [r4, h.unset]) (by simp [r5, h.active]) s.clk.state s.clk.state
  have hvisit : takeReport .visitTest ((returnRebuilt s).awaits [.recover]) = (returnRebuilt s).awaits [.recover] :=
    idle_visitTest (by simp [hplan.clk, r4, h.syncOff]) [.recover]
  have hrecover : takeReport .recover ((returnRebuilt s).awaits []) =
      recoveryMove .toIn 3600 ((returnRebuilt s).awaits []) := by
    simp [takeReport, recoverTaken, recoveryRun, hplan.mec, hplan.pins, r2, r7, h.cassette, h.position]
  rw [supplyReturns_eq h.mode h.supply h.timer]
  refine settles_take
    (r := .clock { kind := .resume, old := s.clk.state, new := s.clk.state, size := none })
    (rest := [.visitTest, .recover]) (by simp [r8, h.quiet]) ?_
  simp only [report_awaits, hclock]
  refine settles_take hrep ?_
  rw [hvisit]
  refine settles_take (r := .recover) (rest := []) (by simp) ?_
  rw [awaits_awaits, hrecover]
  exact .quiet (by simp)

/-- The supply returns to a deck in RECOVERY with the clock UNSET: RECOVERY drives toward IN. -/
theorem supply_returns (h : s.Returns) :
    ∃ t, exec .supplyReturn s = .next t ∧ t.pwr = s.pwr.returned ∧
      (t.mec.state = .recovery ∧ t.mec.move = .toIn ∧ t.mec.motionTimer = some 3600 ∧ t.mec.tab = .unknown) ∧
      (s.lnk.mask.getLsbD 10 = true → t.pendingNotice .power = true) ∧
      (s.lnk.mask.getLsbD 0 = true → t.pendingNotice .deck = true) ∧
      t.clk = { s.clk with changed := false } ∧ t.tsc.slots = s.tsc.slots ∧ t.tun = s.tun := by
  obtain ⟨r1, r2, r3, r4, r5, r6, -⟩ := returnedClock_spec s h.state
  obtain ⟨n1, n2⟩ := returnedClock_notices h.state
  obtain ⟨hplan, -, hkeeps⟩ := returnRebuilt_spec h
  have hasleep : (recoveryMove .toIn 3600 ((returnRebuilt s).awaits [])).linkAwake = false := by
    simp [State.linkAwake, hplan.pwr, r1, Pwr.returned]
  have hnotice : ∀ n, n ≠ .packet → (returnedClock s).pendingNotice n = true →
      (transmit (recoveryMove .toIn 3600 ((returnRebuilt s).awaits []))).pendingNotice n = true := fun n hn hp => by
    have hp' := hkeeps.kept n hn hp
    rw [State.pendingNotice, transmit_notices hasleep]
    exact hp'
  refine ⟨_, done_of_settles (settles_return h) (by decide), ?_, ?_, fun hk => hnotice _ (by decide) (n1 hk),
    fun hk => hnotice _ (by decide) (n2 hk), ?_, ?_, ?_⟩
  · simp [hplan.pwr, r1]
  · simp [recoveryMove, stallFollow, hplan.mec, r2, r3]
  · simp [hplan.clk, r4]
  · simp [hplan.slots, r5]
  · simp [hplan.tun, r6]

/-! ### The loss -/

@[simp] theorem abandonSync_reports (s : State) : (abandonSync s).reports = s.reports := by
  unfold abandonSync; split <;> rfl

/-- The supply is lost out of BACKUP: every block's part, in its record, and the notices raised before BACKUP is entered. -/
theorem supply_lost (hq : s.reports = []) (hm : s.pwr.mode ≠ .backup) (ha : s.tsc.active = none) :
    exec .supplyLost s = .next ((lossEnds s).mapPwr Pwr.inBackup) := by
  have hr : ((lossEnds s).mapPwr Pwr.inBackup).reports = [] := by
    simp [lossEnds, tarBackup, tarClear, hq]
  change done (supplyLoss s) = _
  rw [supplyLoss_eq hm ha, done_quiet hr, transmit_silent]
  simp [State.repliesGo, State.linkAwake, Pwr.inBackup]

/-- POWER is raised at the loss, and CUE where a mark was in writing. -/
theorem supply_lost_notices (hm : s.pwr.mode ≠ .backup) :
    ((lossEnds s).mapPwr Pwr.inBackup).lnk.mask = s.lnk.mask ∧
    (s.lnk.mask.getLsbD 10 = true → ((lossEnds s).mapPwr Pwr.inBackup).pendingNotice .power = true) ∧
    ∀ w, s.ctu.writing = some w → s.lnk.mask.getLsbD 2 = true →
      ((lossEnds s).mapPwr Pwr.inBackup).pendingNotice .cue = true := by
  have hmask : (lossEnds s).lnk.mask = s.lnk.mask :=
    (keeps_lossEnds s).mask.trans ((keeps_lossDeck s).mask.trans (keeps_ctuBackup _ _).mask)
  refine ⟨hmask, fun hk => ?_, fun w hw hk => ?_⟩
  · refine raise_pending (n := .power) (by simpa using hm) ?_
    have hraise := (keeps_raise .power
      (lnkBackup (clkBackup s.tar.syncs (tunerPowerDown (tarBackup (lossDeck s)))))).mask
    exact (congrArg (fun m : BitVec 12 => m.getLsbD 10) (hraise.symm.trans hmask)).trans hk
  · obtain ⟨-, -, hcue⟩ := ctuBackup_writing (s := s.mapTsc fun t => { t with shadow := none }) s.mec.state.movesTape hw hm
    exact (keeps_lossEnds s).kept .cue (by decide) ((keeps_lossDeck s).kept .cue (by decide) (hcue hk))

end

end Sys2Proof.Machine

namespace Sys2Proof.Proofs
open Sys2Proof.Machine

/-- Settles O55: the loss and the return by what each block does, and the monitor's rows by their conditions. -/
theorem supplyLossAndReturn : Obligations.SupplyLossAndReturn := by
  intro s hq
  refine ⟨fun hm ha => ?lost, fun hm => ?lostAgain, fun hm hs => ?appears, fun hm hs => ?fails, fun hm => ?outside,
    fun hm hs ht hc hp hst hu ha hy => ?returns⟩
  case lost =>
    obtain ⟨e1, e2, e3, e4, e5, e6, e7, e8, e9, e10, e11, e12, e13, e14⟩ := lossEnds_spec s
    obtain ⟨hmask, hpower, hcue⟩ := supply_lost_notices hm
    refine ⟨_, supply_lost hq hm ha, by simp [e4, Pwr.inBackup], ?_, by simp [e3], by simp [e6], by simp [e7],
      by simp [e8], by simp [e9], by simp [e10], by simp [e1], by simp [e1], by simp [e1], by simp [e11],
      by simp [e12], by simp [e13], by simp [e14], hmask, hpower, fun w hw => ?_⟩
    · simp only [State.mapPwr_clk, e5, Clk.atLoss, Tar.syncs, Bool.or_eq_true, beq_iff_eq]
    · obtain ⟨c1, c2, -⟩ := ctuBackup_writing (s := s.mapTsc fun t => { t with shadow := none }) s.mec.state.movesTape hw hm
      exact ⟨by simp [e2, c1], by simp [e2, c2], hcue w hw⟩
  case lostAgain =>
    change done (supplyLoss s) = _
    rw [supplyLoss, when, if_neg (by simp [hm]), done_quiet hq]
  case appears =>
    change done (supplyAppears s) = _
    rw [supplyAppears, when, if_pos (by simp [hm, hs]), done_quiet (by simpa using hq)]
    rfl
  case fails =>
    change done (supplyFails s) = _
    rw [supplyFails, when, if_pos (by simp [hm, hs]), done_quiet (by simpa using hq)]
    rfl
  case outside =>
    have hidle : ∀ (b : Bool) (f : State → State), done (when (s.pwr.mode == .backup && b) f s) = .next (transmit s) :=
      fun b f => by rw [when, if_neg (by simp [hm]), done_quiet hq]
    refine ⟨hidle _ _, hidle _ _, ?_⟩
    change done (supplyReturns s) = _
    rw [supplyReturns, Bool.and_assoc]
    exact hidle _ _
  case returns =>
    obtain ⟨t, ht, h1, ⟨h2, h3, h4, h5⟩, h6⟩ := supply_returns ⟨hq, hm, hs, ht, hc, hp, hst, hu, ha, hy⟩
    exact ⟨t, ht, h1, h2, h3, h4, h5, h6⟩

end Sys2Proof.Proofs
end

section
/-! PWR's requests that store, cancel or stage, and the state that asks MEC for rest (R185, R188). -/

namespace Sys2Proof.Machine

section
variable {s : State}

/-! ### WAKE_SET and STANDBY CANCEL -/

theorem exec_wakeSet (hl : s.Listens) (hq : s.reports = []) (f : Byte) :
    exec (.wakeSet f) s = .next (transmit
      (if 1 < f.toNat then s.answering 0x06 (.refused .fieldRange 1)
       else { s.answering 0x06 (.ok .power) with pwr := { s.pwr with filter := f == 0 } })) := by
  change done (arrives 0x06 (reqWakeSet f) s) = _
  rw [arrives_listened hl]
  by_cases hf : 1 < f.toNat
  · have hr : reqWakeSet f (s.mapLnk fun l => { l with buffer := some 0x06 }) =
        s.answering 0x06 (.refused .fieldRange 1) := by
      simp [reqWakeSet, checked_cons, above, hf, refuseField, reply_eq, State.answering, State.mapLnk]
    rw [hr, if_pos hf, done_quiet (by simpa [State.answering] using hq)]
  · have hr : reqWakeSet f (s.mapLnk fun l => { l with buffer := some 0x06 }) =
        { s.answering 0x06 (.ok .power) with pwr := { s.pwr with filter := f == 0 } } := by
      simp [reqWakeSet, checked_cons, checked_nil, above, hf, replyOk, reply_eq, State.answering, State.mapLnk, State.mapPwr]
    rw [hr, if_neg hf, done_quiet (by simpa [State.answering] using hq)]

/-- A change of the entry state in ON raises POWER where the mask enables it; no change raises nothing (R183). -/
theorem setPower_entry (e : EntryState) (hm : s.pwr.mode = .on) :
    setPower (fun p => { p with entry := e }) s =
      { s with
        pwr := { s.pwr with entry := e },
        lnk := { s.lnk with
          notices := if s.pwr.entry = e then s.lnk.notices else s.lnk.notices ||| (0x400#12 &&& s.lnk.mask) } } := by
  by_cases he : s.pwr.entry = e
  · simp [setPower, raiseIf_eq, he, State.mapPwr, State.mapLnk]
  · have he' : e ≠ s.pwr.entry := fun h => he h.symm
    simp [setPower, raiseIf_eq, he, he', State.mapPwr, State.mapLnk, hm, Notice.bit]

theorem exec_standbyCancel (hl : s.Listens) (hq : s.reports = []) :
    exec .standbyCancel s = .next (transmit
      { s with
        pwr := { s.pwr with entry := .none },
        lnk := { s.lnk with
          buffer := some 0x05, reply := some (.ok .power),
          notices := if s.pwr.entry = .none then s.lnk.notices else s.lnk.notices ||| (0x400#12 &&& s.lnk.mask) } }) := by
  change done (arrives 0x05 reqStandbyCancel s) = _
  rw [arrives_listened hl, reqStandbyCancel, setPower_entry .none (by simpa using linkAwake_mode hl.1),
    done_quiet (by simpa [replyOk] using hq)]
  rfl

/-! ### STANDBY ENTER where nothing is asked of MEC -/

theorem exec_standbyEnter (hl : s.Listens) :
    exec .standbyEnter s = done (reqStandbyEnter (s.mapLnk fun l => { l with buffer := some 0x05 })) := by
  change done (arrives 0x05 reqStandbyEnter s) = _
  rw [arrives_listened hl]

/-- The host records. -/
def State.HostRecords (s : State) : Prop := (s.mec.state = .record ∨ s.mec.state = .recordPause) ∧ s.mec.owner = .host

theorem hostRecords_iff : s.HostRecords ↔ s.mec.state.recordPair ∧ s.mec.owner = .host := by
  refine and_congr_left fun _ => ?_
  cases s.mec.state <;> simp [TState.recordPair]

theorem standbyEnter_recording (hl : s.Listens) (hq : s.reports = []) (h : s.HostRecords) :
    exec .standbyEnter s = .next (transmit (s.answering 0x05 (.refused .busyRecording 0))) := by
  refine done_refused hl hq fun l => ?_
  rw [reqStandbyEnter, if_pos (by exact hostRecords_iff.mp h)]
  rfl

theorem standbyEnter_staged (hl : s.Listens) (hq : s.reports = []) (h : ¬s.HostRecords) (he : s.pwr.entry ≠ .none) :
    exec .standbyEnter s = .next (transmit (s.answering 0x05 (.accepted .power))) := by
  refine done_refused hl hq fun l => ?_
  rw [reqStandbyEnter, if_neg (by exact fun hr => h (hostRecords_iff.mpr hr)), if_pos (by exact he)]
  rfl

theorem standbyEnter_active (hl : s.Listens) (hq : s.reports = []) (h : ¬s.HostRecords) (he : s.pwr.entry = .none)
    (ha : s.tsc.active.isSome) :
    exec .standbyEnter s = .next (transmit
      { s with
        pwr := { s.pwr with entry := .waitOccurrence },
        lnk := { s.lnk with
          buffer := some 0x05, reply := some (.accepted .power),
          notices := s.lnk.notices ||| (0x400#12 &&& s.lnk.mask) } }) := by
  rw [exec_standbyEnter hl, reqStandbyEnter, if_neg (by exact fun hr => h (hostRecords_iff.mpr hr)),
    if_neg (by simpa using he), if_pos (by simpa using ha),
    setPower_entry .waitOccurrence (by simpa using linkAwake_mode hl.1), done_quiet (by simpa [replyAccepted] using hq)]
  simp only [State.mapLnk_pwr, State.mapLnk_lnk, he]
  rfl

/-! ### The wait for rest -/

/-- The request is accepted and its entry staged for rest. -/
def restStaged (s : State) : State :=
  setPower (fun p => { p with entry := .waitRest })
    (replyAccepted .power (s.mapLnk fun l => { l with buffer := some 0x05 }))

/-- MEC's seek is ended and its idle timer stopped; STOP follows. -/
def restAsked (s : State) : State := (endSeek .abandoned (restStaged s)).mapMec fun m => { m with idle := false }

/-- The target UNTHREAD that MEC is asked for. -/
def unthreadTarget (m : Mec) : PendingTarget := { target := .unthread, speed := m.speed, grade := m.grade, origin := .host }

theorem restStaged_spec (hm : s.pwr.mode = .on) :
    (restStaged s).pwr = { s.pwr with entry := .waitRest } ∧ (restStaged s).mec = s.mec ∧ (restStaged s).tun = s.tun ∧
    (restStaged s).tar = s.tar ∧ (restStaged s).clk = s.clk ∧ (restStaged s).tsc = s.tsc ∧ (restStaged s).pins = s.pins ∧
    (restStaged s).reports = s.reports ∧ (restStaged s).lnk.reply = some (.accepted .power) ∧
    (restStaged s).lnk.buffer = some 0x05 ∧ (restStaged s).lnk.line = s.lnk.line := by
  rw [restStaged, setPower_entry .waitRest (by simpa [replyAccepted] using hm)]
  simp [replyAccepted, reply_eq]

theorem standbyEnter_rests (hl : s.Listens) (he : s.pwr.entry = .none) (ha : s.tsc.active = none)
    (hr : s.mec.state.recordPair = false) (hrest : s.atRest = false) (hf : (stopTransport (restAsked s)).mec.state ≠ .fault) :
    exec .standbyEnter s =
      done (execTarget (unthreadTarget (stopTransport (restAsked s)).mec) (stopTransport (restAsked s))) := by
  have hrest' : (replyAccepted .power (s.mapLnk fun l => { l with buffer := some 0x05 })).atRest = false := by
    simpa [State.atRest, replyAccepted] using hrest
  have hrest'' : (s.mapLnk fun l => { l with buffer := some 0x05 }).atRest = false := hrest
  rw [exec_standbyEnter hl, reqStandbyEnter, if_neg (by simp [hr]), if_neg (by simpa using he),
    if_neg (by simp [ha]), if_neg (ne_of_eq_of_ne hrest'' Bool.false_ne_true), standbyFrom, if_neg (ne_of_eq_of_ne hrest' Bool.false_ne_true)]
  change done (if (stopTransport (restAsked s)).mec.state = .fault then _ else _) = _
  rw [if_neg hf]
  rfl

theorem restAsked_spec (hm : s.pwr.mode = .on) :
    (restAsked s).mec = { s.mec with idle := false } ∧ (restAsked s).pins = s.pins ∧ (restAsked s).reports = s.reports ∧
    (restAsked s).pwr = { s.pwr with entry := .waitRest } ∧ (restAsked s).clk = s.clk ∧ (restAsked s).tsc = s.tsc ∧
    (restAsked s).tar = s.tar ∧ (restAsked s).lnk.sansNotices = (restStaged s).lnk.sansNotices := by
  obtain ⟨h1, h2, -, h3, h4, h5, h6, h7, -⟩ := restStaged_spec hm
  simp [restAsked, h1, h2, h3, h4, h5, h6, h7]

/-- The request waits for rest: PWR's record tells it, and a reply that cannot go out yet stands ready. -/
structure RestWaits (s t : State) : Prop where
  pwr : t.pwr = { s.pwr with entry := .waitRest }
  tun : t.tun = s.tun
  tar : t.tar = s.tar
  clk : t.clk = s.clk
  tsc : t.tsc = s.tsc
  held : s.lnk.line.isSome → t.lnk.reply = some (.accepted .power) ∧ t.lnk.buffer = some 0x05

/-- MEC's part makes no report. -/
theorem restWaits_of_quiet {u : State} (hm : s.pwr.mode = .on)
    (hu : execTarget (unthreadTarget (stopTransport (restAsked s)).mec) (stopTransport (restAsked s)) = u)
    (hq : u.reports = []) :
    done u = .next (transmit u) ∧ RestWaits s (transmit u) := by
  obtain ⟨h1, -, h2, h3, h4, h5, -, -, hreply, hbuffer, hline⟩ := restStaged_spec hm
  obtain ⟨-, -, -, -, -, -, -, hasked⟩ := restAsked_spec hm
  have htun : u.tun = s.tun := by simp [← hu, restAsked, h2]
  have htar : u.tar = s.tar := by simp [← hu, restAsked, h3]
  have hclk : u.clk = s.clk := by simp [← hu, restAsked, h4]
  have htsc : u.tsc = s.tsc := by simp [← hu, restAsked, h5]
  have hpwr : u.pwr = { s.pwr with entry := .waitRest } := by simp [← hu, restAsked, h1]
  have hsans : u.lnk.sansNotices = (restStaged s).lnk.sansNotices := by
    rw [← hu, execTarget_sans, stopTransport_sans, hasked]
  refine ⟨done_quiet hq, ⟨by simp [hpwr], by simp [htun], by simp [htar], by simp [hclk], by simp [htsc], fun hb => ?_⟩⟩
  have hb' : u.lnk.line.isSome := by rw [Lnk.line_of_sans hsans, hline]; exact hb
  rw [transmit_busy hb', Lnk.reply_of_sans hsans, Lnk.buffer_of_sans hsans]
  exact ⟨hreply, hbuffer⟩

/-- STOP leaves a tape that plays or rests in the path in THREADED, with nothing reported. -/
theorem stopTransport_playing (hs : s.mec.state.playing) (hspin : s.mec.spin = false) (hq : s.reports = []) :
    (stopTransport s).mec.state = .threaded ∧ (stopTransport s).mec.spin = false ∧ (stopTransport s).reports = [] := by
  by_cases ht : s.mec.state = .threaded
  · rw [stopTransport_rests (.inr (.inr (.inr ⟨ht, hspin⟩)))]
    exact ⟨ht, hspin, hq⟩
  · have hs' : s.mec.state.stopsThreaded ∧ s.mec.state.recordPair = false := by
      revert hs ht
      cases s.mec.state <;> simp [TState.playing, TState.stopsThreaded, TState.recordPair]
    rw [stopTransport_threads hs'.1]
    refine ⟨by simp, by simp, ?_⟩
    rw [enterState_reports, entryReports_silent rfl]
    simp [hq, leaveReports_none hs'.2]

/-- From the tape path UNTHREADING begins. -/
theorem rest_unthreads (hl : s.Listens) (hq : s.reports = []) (hspin : s.mec.spin = false) (he : s.pwr.entry = .none)
    (ha : s.tsc.active = none) (hs : s.mec.state.playing) :
    ∃ t, exec .standbyEnter s = .next t ∧ RestWaits s t ∧ t.mec.state = .unthreading ∧ t.mec.motionTimer = some 3600 ∧
      t.mec.pending.map (fun p => (p.target, p.origin)) = some (.unthread, .host) ∧ t.mec.drum = false := by
  have hm := linkAwake_mode hl.1
  obtain ⟨hmec, -, hrep, -⟩ := restAsked_spec hm
  have hrec : s.mec.state.recordPair = false ∧ s.atRest = false := by
    revert hs
    cases h : s.mec.state <;> simp [TState.recordPair, TState.playing, State.atRest, h]
  obtain ⟨h1, h2, h3⟩ := stopTransport_playing (s := restAsked s) (by simpa [hmec] using hs) (by simp [hmec, hspin]) (by rw [hrep, hq])
  have hgo : execTarget (unthreadTarget (stopTransport (restAsked s)).mec) (stopTransport (restAsked s)) =
      routeMotion .unthreading (unthreadTarget (stopTransport (restAsked s)).mec) (stopTransport (restAsked s)) := by
    rw [execTarget_route (by rw [h1]; rfl) h2, route_unthreads (by rw [h1]; rfl) (by rfl), throughThreaded, if_pos h1]
  have hquiet : (routeMotion .unthreading (unthreadTarget (stopTransport (restAsked s)).mec)
      (stopTransport (restAsked s))).reports = [] := by
    rw [routeMotion_reports, h3, entryReports_silent (by rfl), leaveReports_none (by rw [h1]; rfl)]
    rfl
  obtain ⟨hdone, hwaits⟩ := restWaits_of_quiet hm hgo hquiet
  refine ⟨_, ?_, hwaits, by simp, by simp [motionLimit], by simp [unthreadTarget], by simp [TState.drumTurns]⟩
  rw [standbyEnter_rests hl he ha hrec.1 hrec.2 (by rw [h1]; decide), hgo, hdone]

/-- A motion in flight gets UNTHREAD as its pending target. -/
theorem rest_pends (hl : s.Listens) (hq : s.reports = []) (he : s.pwr.entry = .none) (ha : s.tsc.active = none)
    (hs : s.mec.state.inMotion) :
    ∃ t, exec .standbyEnter s = .next t ∧ RestWaits s t ∧ t.mec.state = s.mec.state ∧
      t.mec.motionTimer = s.mec.motionTimer ∧
      t.mec.pending.map (fun p => (p.target, p.origin)) = some (.unthread, .host) := by
  have hm := linkAwake_mode hl.1
  obtain ⟨hmec, -, hrep, -⟩ := restAsked_spec hm
  have hrec : s.mec.state.recordPair = false ∧ s.atRest = false ∧ s.mec.state ≠ .fault := by
    revert hs
    cases h : s.mec.state <;> simp [TState.recordPair, TState.inMotion, State.atRest, h]
  have hstop : stopTransport (restAsked s) = loseTarget (restAsked s) := stopTransport_motion (by simpa [hmec] using hs)
  have hgo : execTarget (unthreadTarget (stopTransport (restAsked s)).mec) (stopTransport (restAsked s)) =
      makePending (unthreadTarget (stopTransport (restAsked s)).mec) (stopTransport (restAsked s)) :=
    execTarget_waits (by simpa [hstop, hmec] using hs)
  have hquiet : (makePending (unthreadTarget (stopTransport (restAsked s)).mec) (stopTransport (restAsked s))).reports = [] := by
    simp [hstop, hrep, hq]
  obtain ⟨hdone, hwaits⟩ := restWaits_of_quiet hm hgo hquiet
  refine ⟨_, ?_, hwaits, by simp [hstop, hmec], by simp [hstop, hmec], by simp [unthreadTarget]⟩
  rw [standbyEnter_rests hl he ha hrec.1 hrec.2.1 (by simpa [hstop, hmec] using hrec.2.2), hgo, hdone]

end

end Sys2Proof.Machine
end

section
/-! A wind that STOP rests goes on into STANDBY, and the obligation about PWR's requests (R26, R185, R186). -/

namespace Sys2Proof.Machine

section
variable {s : State}

/-! ### STANDBY is entered (R186) -/

/-- The tuner is given up without a report where no SYNC waits. -/
theorem tarStandby_quiet (hw : s.tar.syncWait = false) :
    (tarStandby s).mec = s.mec ∧ (tarStandby s).clk = s.clk ∧ (tarStandby s).pwr = s.pwr ∧
    (tarStandby s).reports = s.reports := by
  have hfree : ∀ u : State, u.tar.syncWait = false → tunerFree u = setHolder .none u := fun u hu => by simp [tunerFree, hu]
  unfold tarStandby
  dsimp only
  split
  · rw [hfree _ (by simpa using hw)]
    simp
  · rw [hfree _ (by simpa using hw)]
    simp
  · unfold refuseHostWait
    split <;> simp [refuse]
  · simp
  · simp

/-- PWR's record as STANDBY is entered. -/
def Pwr.asleep (p : Pwr) : Pwr :=
  { p with mode := .standby, entry := .none, lastCause := .standbyEntered, link := .asleep, detector := some p.filter }

@[simp] theorem setPower_pwr (f : Pwr → Pwr) (s : State) : (setPower f s).pwr = f s.pwr := by simp [setPower]

theorem enterStandby_spec (hw : s.tar.syncWait = false) :
    (enterStandby s).mec = s.mec ∧ (enterStandby s).clk = s.clk ∧ (enterStandby s).pwr = s.pwr.asleep ∧
    (enterStandby s).reports = .visitTest :: .downTest :: s.reports := by
  obtain ⟨h1, h2, h3, h4⟩ := tarStandby_quiet
    (s := setPower (fun p => { p with mode := .standby, entry := .none, lastCause := .standbyEntered }) s) (by simpa using hw)
  simp [enterStandby, rxReset, reportFirst, h1, h2, h3, h4, Pwr.asleep]

/-- The power-down test leaves the transport's state, and PWR's but for the deck's power and the return timer (R187). -/
theorem downTest_kept (s : State) :
    (downTest s).mec.state = s.mec.state ∧ (downTest s).mec.pending = s.mec.pending ∧
    (downTest s).pwr.mode = s.pwr.mode ∧ (downTest s).pwr.entry = s.pwr.entry ∧
    (downTest s).pwr.lastCause = s.pwr.lastCause ∧ (downTest s).pwr.link = s.pwr.link ∧
    (downTest s).reports = s.reports := by
  unfold downTest testPowerDown
  (repeat' split) <;> simp [deckPowerDown]

/-! ### A wind rests at once, and STANDBY is entered -/

/-- The rest reported enters STANDBY, whose visit test and power-down test follow. -/
theorem settles_standby (hq : s.reports = [.rest]) (hs : s.mec.state = .unthreaded) (hp : s.mec.pending = none)
    (hm : s.pwr.mode = .on) (he : s.pwr.entry = .waitRest) (ha : s.tsc.active = none) (hw : s.tar.syncWait = false)
    (hy : s.clk.syncOn = false) :
    ∃ t, Settles 3 s t ∧ t.mec.state = .unthreaded ∧ t.mec.pending = none ∧ t.pwr.mode = .standby ∧ t.pwr.entry = .none ∧
      t.pwr.lastCause = .standbyEntered ∧ t.pwr.link = .asleep := by
  obtain ⟨e1, e2, e3, e4⟩ := enterStandby_spec (s := s.awaits []) (by simpa using hw)
  have hrest : takeReport .rest (s.awaits []) = enterStandby (s.awaits []) := by
    simp [takeReport, restReported, State.atRest, hs, hp, hm, he, ha]
  have hvisit : takeReport .visitTest ((enterStandby (s.awaits [])).awaits [.downTest]) =
      (enterStandby (s.awaits [])).awaits [.downTest] :=
    idle_visitTest (by simp [e2, hy]) [.downTest]
  obtain ⟨d1, d2, d3, d4, d5, d6, d7⟩ := downTest_kept ((enterStandby (s.awaits [])).awaits [])
  refine ⟨downTest ((enterStandby (s.awaits [])).awaits []), settles_take hq ?_, by simp [d1, e1, hs], by simp [d2, e1, hp],
    by simp [d3, e3, Pwr.asleep], by simp [d4, e3, Pwr.asleep], by simp [d5, e3, Pwr.asleep], by simp [d6, e3, Pwr.asleep]⟩
  rw [hrest]
  refine settles_take e4 ?_
  simp only [awaits_frame]
  rw [hvisit]
  exact settles_take rfl (.quiet (by simp [takeReport]))

theorem rest_winds (hl : s.Listens) (hq : s.reports = []) (hspin : s.mec.spin = false)
    (he : s.pwr.entry = .none) (ha : s.tsc.active = none) (hs : s.mec.state.isWind)
    (hw : s.tar.syncWait = false) (hy : s.clk.syncOn = false) :
    ∃ t, exec .standbyEnter s = .next t ∧ t.mec.state = .unthreaded ∧ t.mec.pending = none ∧ t.pwr.mode = .standby ∧
      t.pwr.entry = .none ∧ t.pwr.lastCause = .standbyEntered ∧ t.pwr.link = .asleep := by
  have hm := linkAwake_mode hl.1
  obtain ⟨hmec, -, hrep, hpwr, hclk, htsc, htar, -⟩ := restAsked_spec hm
  have hrec : s.mec.state.recordPair = false ∧ s.atRest = false ∧ s.mec.state ≠ .unthreaded := by
    revert hs
    cases h : s.mec.state <;> simp [TState.recordPair, TState.isWind, State.atRest, h]
  have hstop : stopTransport (restAsked s) = enterState .unthreaded (restAsked s) :=
    stopTransport_brakes (by simpa [hmec] using hs)
  have hquiet : (enterState .unthreaded (restAsked s)).reports = [.rest] := by
    rw [enterState_reports, entryReports_rest (.inr (.inl rfl)) (by simpa [hmec] using hrec.2.2)
      (by simpa [hmec] using hrec.1), hrep, hq]
    rfl
  have hgo : execTarget (unthreadTarget (stopTransport (restAsked s)).mec) (stopTransport (restAsked s)) =
      targetReached (enterState .unthreaded (restAsked s)) := by
    rw [execTarget_route (by rw [hstop]; simp [TState.inMotion]) (by rw [hstop]; simp [hmec, hspin]), hstop]
    simp [route, routeUnthreaded, unthreadTarget]
  obtain ⟨t, ht, hrest⟩ := settles_standby (s := targetReached (enterState .unthreaded (restAsked s)))
    (by simpa [targetReached] using hquiet) (by simp [targetReached]) (by simp [targetReached])
    (by simp [targetReached, hpwr, hm]) (by simp [targetReached, hpwr]) (by simp [targetReached, htsc, ha])
    (by simp [targetReached, htar, hw]) (by simp [targetReached, hclk, hy])
  refine ⟨transmit t, ?_, by simpa using hrest⟩
  rw [standbyEnter_rests hl he ha hrec.1 hrec.2.1 (by rw [hstop]; simp), hgo]
  exact done_of_settles ht (by decide)

end

end Sys2Proof.Machine

namespace Sys2Proof.Proofs
open Sys2Proof.Machine

/-- Settles O12: the stored, cancelled and staged entries exactly, and the wait for rest by what STOP and UNTHREAD make of
each kind of state. -/
theorem powerRequests : Obligations.PowerRequests := by
  refine ⟨fun s hl hq => ⟨exec_wakeSet hl hq, _, exec_standbyCancel hl hq, rfl⟩, fun s hl hq => ⟨?recording, ?staged, ?active⟩,
    fun s hl hq _ hspin he ha => ?rest⟩
  case recording => exact fun h => standbyEnter_recording hl hq h
  case staged => exact fun h he => standbyEnter_staged hl hq h he
  case active => exact fun h he ha => standbyEnter_active hl hq h he ha
  case rest =>
    intro unthread waits
    have hwaits : ∀ {t}, RestWaits s t → waits t := fun h => ⟨h.pwr, h.tun, h.tar, h.clk, h.tsc, h.held⟩
    refine ⟨fun hs => ?path, fun hs => ?motion, fun hs _ _ hy hw => ?wind⟩
    case path =>
      obtain ⟨t, ht, h1, h2⟩ := rest_unthreads hl hq hspin he ha (by rcases hs with h | h | h | h | h <;> rw [h] <;> rfl)
      exact ⟨t, ht, hwaits h1, h2⟩
    case motion =>
      obtain ⟨t, ht, h1, h2⟩ := rest_pends hl hq he ha (by rcases hs with h | h | h | h | h <;> rw [h] <;> rfl)
      exact ⟨t, ht, hwaits h1, h2⟩
    case wind =>
      exact rest_winds hl hq hspin he ha (by rcases hs with h | h <;> rw [h] <;> rfl) hw hy

end Sys2Proof.Proofs
end

section
/-! SUPPORT. A video frame: how it is judged, and what a spin-up's frame does (R13, R14, R30 to R33). -/

namespace Sys2Proof.Machine

/-- The frame's marks go last: no pulse is remembered, and a closing reading is over. -/
theorem exec_servoFrame {d : Int} {q : CapstanPhase} {s : State} (hm : s.pwr.mode = .on) (hd : s.pwr.deckUp = true)
    (hdrum : s.mec.drum = true) :
    exec (.servoFrame d q) s = done (frameOver (unreadFrame (blankFrame (lockFrame d q s)))) := by
  change done (when s.deckPowered (servoFrameTaken d q) s) = _
  rw [when_powered hm hd, servoFrameTaken, if_pos hdrum]

section
variable {s : State}

/-! ### Frames of a state that reads no pulses -/

/-- Where no pulses are read, only the frame's marks are taken. -/
theorem frame_unread (h : s.mec.state.readsPulses = false) : frameOver (unreadFrame (blankFrame s)) = frameOver s := by
  have hp : s.mec.state ≠ .play := by intro hp; rw [hp] at h; cases h
  simp [blankFrame, unreadFrame, hp, h]

@[simp] theorem frameOver_marks (s : State) :
    (frameOver s).ctu = { s.ctu with closing := none } ∧ (frameOver s).srv = { s.srv with pulsed := false } := by
  simp [frameOver]

theorem frameOver_reports (s : State) : (frameOver s).reports = s.reports := by simp

/-- The lock bits of a frame. -/
def State.phased (drumIn capIn : Bool) (s : State) : State := s.mapSrv fun v => { v with drumLock := drumIn, capLock := capIn }

@[simp] theorem phased_frame (a b : Bool) (s : State) :
    (s.phased a b).mec = s.mec ∧ (s.phased a b).ctu = s.ctu ∧ (s.phased a b).tun = s.tun ∧ (s.phased a b).tar = s.tar ∧
    (s.phased a b).clk = s.clk ∧ (s.phased a b).tsc = s.tsc ∧ (s.phased a b).pwr = s.pwr ∧ (s.phased a b).lnk = s.lnk ∧
    (s.phased a b).pins = s.pins ∧ (s.phased a b).reports = s.reports ∧
    (s.phased a b).srv = { s.srv with drumLock := a, capLock := b } := by
  simp [State.phased]

/-- The capstan's phase lies within 2 % of its reference, or the capstan stands. -/
def State.capIn (q : CapstanPhase) (s : State) : Bool := s.capstan == .stopped || phaseIn (s.capPhase q)

theorem phaseIn_iff {p : Int} : phaseIn p = true ↔ -200 ≤ p ∧ p ≤ 200 := by simp [phaseIn]

theorem lockFrame_judged {d : Int} {q : CapstanPhase} (h : s.mec.state.drumTurns) :
    lockFrame d q s = spinFrame (phaseIn d) (s.capIn q)
      (judgeFrame (phaseIn d && s.capIn q) (s.phased (phaseIn d) (s.capIn q))) := by
  simp only [lockFrame, State.capIn, State.phased, State.mapSrv_mec, h, if_true]

theorem lockFrame_unjudged {d : Int} {q : CapstanPhase} (h : s.mec.state.drumTurns = false) :
    lockFrame d q s = spinFrame (phaseIn d) (s.capIn q) (s.phased (phaseIn d) (s.capIn q)) := by
  simp only [lockFrame, State.capIn, State.phased, State.mapSrv_mec, h, Bool.false_eq_true, if_false]

theorem spinFrame_idle {a b : Bool} (h : s.mec.spin = false) : spinFrame a b s = s := by
  simp [spinFrame, h]

/-! ### Judging (R32 to R35) -/

/-- A change of the quality state leaves what the frame was judged to be. -/
theorem qualityMoved_srv (old : Quality) (s : State) :
    (qualityMoved old s).srv.quality = s.srv.quality ∧ (qualityMoved old s).srv.err = s.srv.err ∧
    (qualityMoved old s).srv.run = s.srv.run ∧ (qualityMoved old s).srv.drumLock = s.srv.drumLock ∧
    (qualityMoved old s).srv.capLock = s.srv.capLock := by
  unfold qualityMoved
  dsimp only
  (repeat' split) <;> simp [sweepRestart]

theorem judgeFrame_srv (g : Bool) (s : State) :
    (judgeFrame g s).srv.quality = (s.srv.judge g).quality ∧ (judgeFrame g s).srv.err = (s.srv.judge g).err ∧
    (judgeFrame g s).srv.run = (s.srv.judge g).run ∧ (judgeFrame g s).srv.drumLock = (s.srv.judge g).drumLock ∧
    (judgeFrame g s).srv.capLock = (s.srv.judge g).capLock := by
  simpa [judgeFrame] using qualityMoved_srv s.srv.quality (s.mapSrv fun v => v.judge g)

/-- Out of RECORD no change of the quality state is reported. -/
theorem judgeFrame_reports {g : Bool} (h : s.mec.state ≠ .record) : (judgeFrame g s).reports = s.reports := by
  unfold judgeFrame qualityMoved
  dsimp only
  (repeat' split) <;> simp_all [reportIf_eq]

/-- A good frame leaves a locked servo locked. -/
theorem judgeFrame_locked (hq : s.srv.quality = .locked) (he : s.srv.err ≤ 95) :
    judgeFrame true s = s.mapSrv fun v => { v with err := v.err - 1 } := by
  have hk : qualityOf (s.srv.err - 1) = .locked := by rw [qualityOf, if_pos (by omega)]
  simp [judgeFrame, qualityMoved, Srv.judge, hq, hk, State.mapSrv]

section
variable {v : Srv} {g : Bool}

@[simp] theorem judge_locks (v : Srv) (g : Bool) : (v.judge g).drumLock = v.drumLock ∧ (v.judge g).capLock = v.capLock := by
  unfold Srv.judge
  (repeat' split) <;> exact ⟨rfl, rfl⟩

/-- Out of LOST the error counter goes down by 1 or up by 8, and the quality state follows it. -/
theorem judge_counts (h : v.quality ≠ .lost) :
    (v.judge g).err = (if g then v.err - 1 else min 255 (v.err + 8)) ∧ (v.judge g).quality = qualityOf (v.judge g).err := by
  cases g
  · by_cases he : 255 ≤ v.err + 8
    · simp [Srv.judge, h, he, qualityOf]
    · have hmin : min 255 (v.err + 8) = v.err + 8 := by omega
      simp [Srv.judge, h, he, hmin]
  · simp [Srv.judge, h]

/-- The lock bits do not count in the judgement. -/
theorem judge_phased (a b : Bool) (v : Srv) :
    (Srv.judge g { v with drumLock := a, capLock := b }).quality = (v.judge g).quality ∧
    (Srv.judge g { v with drumLock := a, capLock := b }).err = (v.judge g).err ∧
    (Srv.judge g { v with drumLock := a, capLock := b }).run = (v.judge g).run := by
  unfold Srv.judge
  (repeat' split) <;> exact ⟨rfl, rfl, rfl⟩

theorem judge_lost_bad (h : v.quality = .lost) : (v.judge false).quality = .lost ∧ (v.judge false).run = 0 := by
  simp [Srv.judge, h]

theorem judge_lost_good (h : v.quality = .lost) (hr : v.run < 127) :
    (v.judge true).quality = .lost ∧ (v.judge true).run = v.run + 1 := by
  simp [Srv.judge, h, show v.run ≠ 127 by omega]

theorem judge_regained (h : v.quality = .lost) (hr : v.run = 127) :
    (v.judge true).quality = .locked ∧ (v.judge true).err = 0 := by
  simp [Srv.judge, h, hr]

end

/-! ### A frame of PLAY -/

/-- The rows on blank tape and on the counter source leave what a frame was judged to be. -/
theorem blankFrame_kept (s : State) :
    (blankFrame s).mec = s.mec ∧ (blankFrame s).ctu = s.ctu ∧ (blankFrame s).srv.quality = s.srv.quality ∧
    (blankFrame s).srv.err = s.srv.err ∧ (blankFrame s).srv.run = s.srv.run ∧
    (blankFrame s).srv.drumLock = s.srv.drumLock ∧ (blankFrame s).srv.capLock = s.srv.capLock ∧
    (blankFrame s).reports = s.reports := by
  unfold blankFrame goBlank
  (repeat' split) <;> simp

theorem unreadFrame_kept (h : s.ctu.unread < 59) :
    (unreadFrame s).mec = s.mec ∧ (unreadFrame s).srv = s.srv ∧ (unreadFrame s).reports = s.reports := by
  unfold unreadFrame
  rw [if_neg (show s.ctu.unread ≠ 59 by omega)]
  split <;> simp

/-- What a frame of PLAY makes of SRV's judgement; MEC stays, and nothing is reported. -/
theorem play_frame {d : Int} {q : CapstanPhase} (hs : s.mec.state = .play) (hspin : s.mec.spin = false)
    (hu : s.ctu.unread < 59) :
    let g := phaseIn d && s.capIn q
    let u := frameOver (unreadFrame (blankFrame (lockFrame d q s)))
    u.mec = s.mec ∧ u.reports = s.reports ∧ u.srv.pulsed = false ∧ u.srv.drumLock = phaseIn d ∧ u.srv.capLock = s.capIn q ∧
      u.srv.quality = (s.srv.judge g).quality ∧ u.srv.err = (s.srv.judge g).err ∧ u.srv.run = (s.srv.judge g).run := by
  intro g u
  have hl : lockFrame d q s = judgeFrame g (s.phased (phaseIn d) (s.capIn q)) := by
    rw [lockFrame_judged (by rw [hs]; rfl), spinFrame_idle (by simpa using hspin)]
  obtain ⟨j1, j2, j3, j4, j5⟩ := judgeFrame_srv g (s.phased (phaseIn d) (s.capIn q))
  obtain ⟨b1, b2, b3, b4, b5, b6, b7, b8⟩ := blankFrame_kept (lockFrame d q s)
  have hctu : (lockFrame d q s).ctu = s.ctu := by rw [hl]; simp
  obtain ⟨u1, u2, u3⟩ := unreadFrame_kept (s := blankFrame (lockFrame d q s)) (by rw [b2, hctu]; exact hu)
  have hrep : (lockFrame d q s).reports = s.reports := by
    rw [hl, judgeFrame_reports (by rw [(phased_frame _ _ s).1, hs]; decide)]
    simp
  obtain ⟨q1, q2, q3⟩ := judge_phased (g := g) (phaseIn d) (s.capIn q) s.srv
  have hmec : (lockFrame d q s).mec = s.mec := by rw [hl]; simp
  simp only [phased_frame, judge_locks] at j1 j2 j3 j4 j5
  rw [← hl] at j1 j2 j3 j4 j5
  refine ⟨?_, ?_, ?_, ?_, ?_, ?_, ?_, ?_⟩
  · simp [u, u1, hmec]
  · simp [u, u3, hrep]
  · simp [u]
  · simp [u, u2, b6, j4]
  · simp [u, u2, b7, j5]
  · simp [u, u2, b3, j1, q1]
  · simp [u, u2, b4, j2, q2]
  · simp [u, u2, b5, j3, q3]

end

end Sys2Proof.Machine
end

section
/-! SUPPORT. The lock that a spin-up waits for: RECORD and RECORD_PAUSE are entered, and the tuner is held (R14, R103). -/

namespace Sys2Proof.Machine

section
variable {s : State} {q : PendingTarget}

/-! ### SRV's record as a recording state is entered -/

theorem arriveState_record_srv (o : TState) (s : State) :
    (arriveState o .record s).srv = { s.srv with detected := some s.mec.grade, basis := s.mec.grade } := by
  have hrec : ∀ u : State, (srvEnterRecord u).srv = { u.srv with detected := some u.mec.grade, basis := u.mec.grade } := fun u => by
    unfold srvEnterRecord
    dsimp only
    split <;> simp [setDetected]
  simp [arriveState, hrec, TState.isWind, TState.readsPulses]

/-- Entering RECORD sets the grades detected and in use; the quality state stays (R35). -/
theorem enterState_record_srv (h : s.mec.state ≠ .record) :
    (enterState .record s).srv = { s.srv with detected := some s.mec.grade, basis := s.mec.grade } := by
  simp [enterState, enter, h, TState.drumTurns, stallFollow, idleFollow, arriveState_record_srv]

theorem enterState_recordPause_srv (h : s.mec.state ≠ .recordPause) : (enterState .recordPause s).srv = s.srv := by
  simp [enterState, enter, h, TState.drumTurns, stallFollow, idleFollow, arriveState, TState.isWind, TState.readsPulses]

/-! ### The lock -/

/-- A target other than the present state is entered. -/
theorem enterTarget_eq (h : s.mec.state ≠ q.target.stateOf) :
    enterTarget q s = enterState q.target.stateOf (s.mapMec (Mec.takesTarget q)) := by
  have h' : (s.mapMec (Mec.takesTarget q)).mec.state ≠ q.target.stateOf := h
  exact if_neg h'

/-- The spin-up is over, and its target entered. -/
def lockEnters (q : PendingTarget) (s : State) : State := enterTarget q (s.mapMec fun m => { m with spin := false })

theorem spinFrame_locks {a b : Bool} (hs : s.mec.spin = true) (hp : s.mec.pending = some q)
    (h : (a && (b || q.target == .recordPause)) = true) : spinFrame a b s = lockEnters q s := by
  simp [spinFrame, hs, hp, h, lockEnters]

theorem spinFrame_waits {a b : Bool} (hs : s.mec.spin = true) (hp : s.mec.pending = some q)
    (h : (a && (b || q.target == .recordPause)) = false) : spinFrame a b s = s := by
  simp [spinFrame, hs, hp, h]

/-- A recording state has been entered by the lock. -/
structure LockEntered (n : TState) (s u : State) : Prop where
  state : u.mec.state = n
  spin : u.mec.spin = false
  pending : u.mec.pending = none
  drum : u.mec.drum = true
  grade : u.mec.grade = s.mec.grade
  owner : u.mec.owner = s.mec.owner
  quality : u.srv.quality = s.srv.quality

theorem lockEnters_record (ht : q.target = .record) (hs : s.mec.state ≠ .record) :
    LockEntered .record s (lockEnters q s) ∧ (lockEnters q s).srv.detected = some s.mec.grade ∧
    (lockEnters q s).srv.basis = s.mec.grade := by
  have hsrv : (lockEnters q s).srv = { s.srv with detected := some s.mec.grade, basis := s.mec.grade } := by
    rw [lockEnters, enterTarget_eq (by simpa [ht, Target.stateOf] using hs), ht]
    exact enterState_record_srv (by exact hs)
  have hm : (lockEnters q s).mec =
      (Mec.takesTarget q { s.mec with spin := false }).enters .record false s.pins := by
    simp [lockEnters, enterTarget_mec, ht, Target.stateOf, hs]
  refine ⟨⟨?_, ?_, ?_, ?_, ?_, ?_, by rw [hsrv]⟩, by rw [hsrv], by rw [hsrv]⟩ <;>
    simp [hm, Mec.takesTarget, TState.drumTurns]

theorem lockEnters_recordPause (ht : q.target = .recordPause) (hs : s.mec.state ≠ .recordPause) :
    LockEntered .recordPause s (lockEnters q s) := by
  have hsrv : (lockEnters q s).srv = s.srv := by
    rw [lockEnters, enterTarget_eq (by simpa [ht, Target.stateOf] using hs), ht]
    exact enterState_recordPause_srv (by exact hs)
  have hm : (lockEnters q s).mec =
      (Mec.takesTarget q { s.mec with spin := false }).enters .recordPause false s.pins := by
    simp [lockEnters, enterTarget_mec, ht, Target.stateOf, hs]
  refine ⟨?_, ?_, ?_, ?_, ?_, ?_, by rw [hsrv]⟩ <;> simp [hm, Mec.takesTarget, TState.drumTurns]

@[simp] theorem lockEnters_frame (q : PendingTarget) (s : State) :
    (lockEnters q s).tun = s.tun ∧ (lockEnters q s).tar = s.tar ∧ (lockEnters q s).clk = s.clk ∧
    (lockEnters q s).tsc = s.tsc ∧ (lockEnters q s).pwr = s.pwr := by
  simp [lockEnters]

theorem lockEnters_reports :
    (lockEnters q s).reports = s.reports ++ entryReports q.target.stateOf (s.mapMec fun m => { m with spin := false }) :=
  enterTarget_reports q _

/-- With a locked servo and the end sensor dark, the entry reports the host's recording where one begins, and to TSC that
RECORD is entered. -/
theorem entryReports_locked {n : TState} (hn : n.recordPair) (hs : s.mec.state = .threaded ∨ s.mec.state = .recordPause)
    (hne : s.mec.state ≠ n) (hq : s.srv.quality = .locked) (he : s.pins.endLit = false) :
    entryReports n s =
      (if s.mec.state = .threaded ∧ s.mec.owner = .host then [.hostRecStart] else []) ++
        (if s.mec.owner = .timer then (if n = .record then [.enteredRecord] else [.paused]) else []) := by
  have hnn : n = .record ∨ n = .recordPause := by revert hn; cases n <;> simp [TState.recordPair]
  rcases hs with hs | hs <;> rcases hnn with rfl | rfl <;> cases ho : s.mec.owner <;>
    simp_all [entryReports, leaveReports, arriveReports, TState.recordPair, TState.forward, TState.reverse]

/-! ### The frame that locks, from THREADED and from RECORD_PAUSE -/

/-- The capstan that runs toward RECORD is judged against the internal reference. -/
theorem capIn_record {c p : Int} (hs : s.mec.state = .threaded ∨ s.mec.state = .recordPause) (hspin : s.mec.spin = true)
    (hp : s.mec.pending = some q) (ht : q.target = .record) : s.capIn ⟨c, p⟩ = phaseIn c := by
  rcases hs with hs | hs <;>
    simp [State.capIn, State.capstan, State.capPhase, hs, hspin, hp, ht, TState.readsPulses]

/-! ### The host's recording begins (R103) -/

/-- The tuner is held for the host's recording. -/
def tunerTaken (s : State) : State :=
  (setHolder .record (s.mapTar fun t => { t with origin := .host })).mapPwr fun p =>
    { p with deckUp := true, returnTimer := false }

@[simp] theorem tunerTaken_frame (s : State) :
    (tunerTaken s).mec = s.mec ∧ (tunerTaken s).srv = s.srv ∧ (tunerTaken s).ctu = s.ctu ∧ (tunerTaken s).tun = s.tun ∧
    (tunerTaken s).clk = s.clk ∧ (tunerTaken s).tsc = s.tsc ∧ (tunerTaken s).reports = s.reports ∧
    (tunerTaken s).tar = { s.tar with holder := .record, origin := .host } := by
  simp [tunerTaken]

theorem hostRecordStarts_eq (hh : s.tar.holder = .none) (hd : s.pwr.deckUp = true) : hostRecordStarts s = tunerTaken s := by
  have hr : recordTakes s = s := by simp [recordTakes, hh]
  simp only [hostRecordStarts, hr, hh]
  rw [deckPowerUp_up (by simpa using hd)]
  rfl

theorem done_recStart (h : s.reports = [.hostRecStart]) (hh : s.tar.holder = .none) (hd : s.pwr.deckUp = true) :
    done s = .next (transmit (tunerTaken (s.awaits []))) := by
  refine done_of_settles (settles_take h ?_) (n := 1) (by decide)
  have ht : takeReport .hostRecStart (s.awaits []) = tunerTaken (s.awaits []) :=
    hostRecordStarts_eq (by simpa using hh) (by simpa using hd)
  rw [ht]
  exact .quiet (by simp)

end

end Sys2Proof.Machine
end

section
/-! The video frame: PLAY judged, the awaited lock of the host, LOST in a recording (R13, R14, R16, R30 to R33). -/

namespace Sys2Proof.Machine

section
variable {d c p : Int} {s : State} {q : PendingTarget}

/-! ### PLAY -/

/-- In PLAY the capstan is judged by the control pulse of the frame, or the internal reference where there is none. -/
theorem capIn_play (hs : s.mec.state = .play) :
    s.capIn ⟨c, p⟩ = if s.srv.pulsed then phaseIn p else phaseIn c := by
  cases hp : s.srv.pulsed <;> simp [State.capIn, State.capstan, State.capPhase, hs, TState.readsPulses, hp]

/-- The frame of PLAY, with what it makes of SRV. -/
theorem servoFrame_play (hq : s.reports = []) (hm : s.pwr.mode = .on) (hd : s.pwr.deckUp = true) (hdrum : s.mec.drum = true)
    (hs : s.mec.state = .play) (hspin : s.mec.spin = false) (hu : s.ctu.unread < 59) :
    let g := phaseIn d && if s.srv.pulsed then phaseIn p else phaseIn c
    ∃ t, exec (.servoFrame d ⟨c, p⟩) s = .next t ∧ t.srv.drumLock = phaseIn d ∧
      t.srv.capLock = (if s.srv.pulsed then phaseIn p else phaseIn c) ∧ t.srv.pulsed = false ∧
      t.srv.quality = (s.srv.judge g).quality ∧ t.srv.err = (s.srv.judge g).err ∧ t.srv.run = (s.srv.judge g).run ∧
      t.mec = s.mec ∧ t.tun = s.tun ∧ t.tar = s.tar ∧ t.clk = s.clk ∧ t.tsc = s.tsc ∧ t.pwr = s.pwr := by
  intro g
  obtain ⟨h1, h2, h3, h4, h5, h6, h7, h8⟩ := play_frame (d := d) (q := ⟨c, p⟩) hs hspin hu
  have hfr := servoFrameTaken_frame d ⟨c, p⟩ s
  rw [servoFrameTaken, if_pos hdrum] at hfr
  obtain ⟨f1, f2, -, f3, f4, f5, -, -⟩ := hfr
  rw [capIn_play hs] at h5 h6 h7 h8
  refine ⟨_, (exec_servoFrame hm hd hdrum).trans (done_quiet (by rw [h2, hq])), ?_⟩
  simp only [transmit_records]
  exact ⟨h4, h5, h3, h6, h7, h8, h1, f1, f2, f3, f4, f5⟩

/-! ### The frame of a spin-up -/

/-- The frame's own marks on SRV and CTU, before the lock is acted on. -/
structure Framed (s w : State) : Prop where
  mec : w.mec = s.mec
  ctu : w.ctu = s.ctu
  tun : w.tun = s.tun
  tar : w.tar = s.tar
  clk : w.clk = s.clk
  tsc : w.tsc = s.tsc
  pwr : w.pwr = s.pwr
  pins : w.pins = s.pins
  reports : w.reports = s.reports
  quality : w.srv.quality = s.srv.quality

theorem framed_phased (a b : Bool) (s : State) : Framed s (s.phased a b) := by constructor <;> simp

/-- The frame that locks a locked servo enters the target. -/
theorem lockFrame_enters (hspin : s.mec.spin = true) (hp : s.mec.pending = some q) (hq : s.srv.quality = .locked)
    (he : s.srv.err ≤ 95) (hdr : phaseIn d = true)
    (h : s.mec.state = .threaded ∧ (s.capIn ⟨c, p⟩ = true ∨ q.target = .recordPause) ∨
      s.mec.state = .recordPause ∧ s.capIn ⟨c, p⟩ = true) :
    ∃ w, Framed s w ∧ lockFrame d ⟨c, p⟩ s = lockEnters q w := by
  rcases h with ⟨hs, hc⟩ | ⟨hs, hc⟩
  · refine ⟨_, framed_phased (phaseIn d) (s.capIn ⟨c, p⟩) s, ?_⟩
    rw [lockFrame_unjudged (by rw [hs]; rfl), spinFrame_locks (by simpa using hspin) (by simpa using hp)]
    rcases hc with hc | hc <;> simp [hdr, hc]
  · have hj : judgeFrame (phaseIn d && s.capIn ⟨c, p⟩) (s.phased (phaseIn d) (s.capIn ⟨c, p⟩)) =
        (s.phased (phaseIn d) (s.capIn ⟨c, p⟩)).mapSrv fun v => { v with err := v.err - 1 } := by
      rw [hdr, hc]
      exact judgeFrame_locked (by simpa using hq) (by simpa using he)
    refine ⟨(s.phased (phaseIn d) (s.capIn ⟨c, p⟩)).mapSrv fun v => { v with err := v.err - 1 }, ?_, ?_⟩
    · constructor <;> simp
    · rw [lockFrame_judged (by rw [hs]; rfl), hj, spinFrame_locks (by simpa using hspin) (by simpa using hp)]
      simp [hdr, hc]

/-- The frame that locks, to its end. -/
theorem exec_lock {w : State} {n : TState} (hm : s.pwr.mode = .on) (hd : s.pwr.deckUp = true) (hdrum : s.mec.drum = true)
    (hl : lockFrame d ⟨c, p⟩ s = lockEnters q w) (hn : (lockEnters q w).mec.state = n) (hr : n.readsPulses = false) :
    exec (.servoFrame d ⟨c, p⟩) s = done (frameOver (lockEnters q w)) := by
  rw [exec_servoFrame hm hd hdrum, hl, frame_unread (by rw [hn, hr])]

/-- The frame that does not lock leaves MEC and TAR. -/
theorem servoFrame_waits (hq : s.reports = []) (hm : s.pwr.mode = .on) (hd : s.pwr.deckUp = true) (hdrum : s.mec.drum = true)
    (hs : s.mec.state = .threaded) (hspin : s.mec.spin = true) (hp : s.mec.pending = some q)
    (h : (phaseIn d && (s.capIn ⟨c, p⟩ || q.target == .recordPause)) = false) :
    ∃ t, exec (.servoFrame d ⟨c, p⟩) s = .next t ∧ t.mec = s.mec ∧ t.tar = s.tar := by
  have hl : lockFrame d ⟨c, p⟩ s = s.phased (phaseIn d) (s.capIn ⟨c, p⟩) := by
    rw [lockFrame_unjudged (by rw [hs]; rfl)]
    exact spinFrame_waits (by simpa using hspin) (by simpa using hp) h
  have hx : exec (.servoFrame d ⟨c, p⟩) s = .next (transmit (frameOver (s.phased (phaseIn d) (s.capIn ⟨c, p⟩)))) := by
    rw [exec_servoFrame hm hd hdrum, hl, frame_unread (by simp [hs, TState.readsPulses]), done_quiet (by simpa using hq)]
  exact ⟨_, hx, by simp, by simp⟩

/-- The transport is in a recording state, at the grade in use and with a locked servo, the other records as they were. -/
def LockBegun (n : TState) (s t : State) : Prop :=
  t.mec.state = n ∧ t.mec.spin = false ∧ t.mec.pending = none ∧ t.mec.drum = true ∧ t.mec.grade = s.mec.grade ∧
    t.srv.quality = .locked ∧ t.tun = s.tun ∧ t.clk = s.clk ∧ t.tsc = s.tsc

theorem LockEntered.begun {n : TState} {w t : State} (h : LockEntered n w (lockEnters q w)) (hw : Framed s w)
    (hq : s.srv.quality = .locked) (hm : t.mec = (lockEnters q w).mec) (hv : t.srv.quality = (lockEnters q w).srv.quality)
    (htun : t.tun = w.tun) (hclk : t.clk = w.clk) (htsc : t.tsc = w.tsc) : LockBegun n s t := by
  refine ⟨by rw [hm, h.state], by rw [hm, h.spin], by rw [hm, h.pending], by rw [hm, h.drum],
    by rw [hm, h.grade, hw.mec], by rw [hv, h.quality, hw.quality, hq], by rw [htun, hw.tun], by rw [hclk, hw.clk],
    by rw [htsc, hw.tsc]⟩

/-- What a spin-up of the host that awaits its lock has. -/
structure HostSpins (q : PendingTarget) (s : State) : Prop where
  quiet : s.reports = []
  mode : s.pwr.mode = .on
  deckUp : s.pwr.deckUp = true
  drum : s.mec.drum = true
  spin : s.mec.spin = true
  pending : s.mec.pending = some q
  owner : s.mec.owner = .host
  quality : s.srv.quality = .locked
  err : s.srv.err ≤ 95
  dark : s.pins.endLit = false

/-- From THREADED the host's recording begins, and the tuner is held for it. -/
theorem lock_fromThreaded {n : TState} {w : State} (h : HostSpins q s) (hs : s.mec.state = .threaded)
    (hh : s.tar.holder = .none) (hw : Framed s w) (hl : lockFrame d ⟨c, p⟩ s = lockEnters q w)
    (hn : q.target.stateOf = n) (hnr : n.recordPair) (he : LockEntered n w (lockEnters q w)) :
    ∃ t, exec (.servoFrame d ⟨c, p⟩) s = .next t ∧ LockBegun n s t ∧ t.tar.holder = .record ∧ t.tar.origin = .host ∧
      t.srv.detected = (lockEnters q w).srv.detected ∧ t.srv.basis = (lockEnters q w).srv.basis := by
  have hread : n.readsPulses = false ∧ s.mec.state ≠ n := by
    rw [hs]; revert hnr; cases n <;> simp [TState.recordPair, TState.readsPulses]
  have hrep : (frameOver (lockEnters q w)).reports = [.hostRecStart] := by
    rw [frameOver_reports, lockEnters_reports, hn, entryReports_locked hnr (by simp [hw.mec, hs])
      (by simpa [hw.mec] using hread.2) (by simp [hw.quality, h.quality]) (by simp [hw.pins, h.dark])]
    simp [hw.mec, hw.reports, hs, h.owner, h.quiet]
  refine ⟨_, (exec_lock h.mode h.deckUp h.drum hl he.state hread.1).trans (done_recStart hrep ?_ ?_), ?_, ?_, ?_, ?_, ?_⟩
  · simp [hw.tar, hh]
  · simp [hw.pwr, h.deckUp]
  · exact he.begun hw h.quality (by simp) (by simp) (by simp) (by simp) (by simp)
  · simp
  · simp
  · simp
  · simp

/-- The lock that RECORD awaits from THREADED, with drum and capstan. -/
theorem lock_record (h : HostSpins q s) (hs : s.mec.state = .threaded) (hh : s.tar.holder = .none)
    (ht : q.target = .record) (hdr : phaseIn d = true) (hc : phaseIn c = true) :
    ∃ t, exec (.servoFrame d ⟨c, p⟩) s = .next t ∧ LockBegun .record s t ∧ t.srv.detected = some s.mec.grade ∧
      t.srv.basis = s.mec.grade ∧ t.tar.holder = .record ∧ t.tar.origin = .host := by
  have hcap : s.capIn ⟨c, p⟩ = true := by rw [capIn_record (.inl hs) h.spin h.pending ht, hc]
  obtain ⟨w, hw, hl⟩ := lockFrame_enters h.spin h.pending h.quality h.err hdr (.inl ⟨hs, .inl hcap⟩)
  obtain ⟨he, hde, hba⟩ := lockEnters_record (q := q) (s := w) ht (by rw [hw.mec, hs]; decide)
  obtain ⟨t, hx, hb, h1, h2, h3, h4⟩ := lock_fromThreaded h hs hh hw hl (by rw [ht]; rfl) rfl he
  exact ⟨t, hx, hb, by rw [h3, hde, hw.mec], by rw [h4, hba, hw.mec], h1, h2⟩

/-- The lock that RECORD_PAUSE awaits, with the drum alone. -/
theorem lock_recordPause (h : HostSpins q s) (hs : s.mec.state = .threaded) (hh : s.tar.holder = .none)
    (ht : q.target = .recordPause) (hdr : phaseIn d = true) :
    ∃ t, exec (.servoFrame d ⟨c, p⟩) s = .next t ∧ LockBegun .recordPause s t ∧ t.tar.holder = .record ∧
      t.tar.origin = .host := by
  obtain ⟨w, hw, hl⟩ := lockFrame_enters (c := c) (p := p) h.spin h.pending h.quality h.err hdr (.inl ⟨hs, .inr ht⟩)
  have he := lockEnters_recordPause (q := q) (s := w) ht (by rw [hw.mec, hs]; decide)
  obtain ⟨t, hx, hb, h1, h2, -⟩ := lock_fromThreaded h hs hh hw hl (by rw [ht]; rfl) rfl he
  exact ⟨t, hx, hb, h1, h2⟩

/-- From RECORD_PAUSE the lock enters RECORD, and the tuner stays held. -/
theorem lock_fromPause (h : HostSpins q s) (hs : s.mec.state = .recordPause) (ht : q.target = .record)
    (hdr : phaseIn d = true) (hc : phaseIn c = true) :
    ∃ t, exec (.servoFrame d ⟨c, p⟩) s = .next t ∧ LockBegun .record s t ∧ t.tar = s.tar := by
  have hcap : s.capIn ⟨c, p⟩ = true := by rw [capIn_record (.inr hs) h.spin h.pending ht, hc]
  obtain ⟨w, hw, hl⟩ := lockFrame_enters h.spin h.pending h.quality h.err hdr (.inr ⟨hs, hcap⟩)
  obtain ⟨he, -⟩ := lockEnters_record (q := q) (s := w) ht (by rw [hw.mec, hs]; decide)
  have hrep : (frameOver (lockEnters q w)).reports = [] := by
    rw [frameOver_reports, lockEnters_reports, ht, Target.stateOf,
      entryReports_locked rfl (by simp [hw.mec, hs]) (by simp [hw.mec, hs]) (by simp [hw.quality, h.quality])
        (by simp [hw.pins, h.dark])]
    simp [hw.mec, hw.reports, hs, h.owner, h.quiet]
  refine ⟨_, (exec_lock h.mode h.deckUp h.drum hl he.state rfl).trans (done_quiet hrep), ?_, by simp [hw.tar]⟩
  exact he.begun hw h.quality (by simp) (by simp) (by simp) (by simp) (by simp)

end

end Sys2Proof.Machine
end

section
/-! The frames that end or begin a recording, and the obligation about the servo's frame (R16, R168, R171). -/

namespace Sys2Proof.Machine

section
variable {d c p : Int} {s : State}

/-! ### LOST in RECORD (R16, R35) -/

/-- A frame in RECORD is judged with the capstan's internal reference. -/
theorem capIn_inRecord (hs : s.mec.state = .record) : s.capIn ⟨c, p⟩ = phaseIn c := by
  simp [State.capIn, State.capstan, State.capPhase, hs, TState.readsPulses]

/-- The state after the frame that loses the lock. -/
def lostFrame (d c p : Int) (s : State) : State := frameOver (lockFrame d ⟨c, p⟩ s)

/-- The frame reports the loss and sets its flag; MEC and the other blocks have not acted on it yet. -/
theorem lostFrame_spec (hs : s.mec.state = .record) (hspin : s.mec.spin = false) (hq : s.srv.quality ≠ .lost)
    (he : 247 ≤ s.srv.err) (hb : (phaseIn d && phaseIn c) = false) :
    (lostFrame d c p s).reports = s.reports ++ [.servoLost] ∧ (lostFrame d c p s).mec = s.mec ∧
    (lostFrame d c p s).stickySet .servoLost = true ∧ (lostFrame d c p s).ctu = { s.ctu with closing := none } ∧
    (lostFrame d c p s).tun = s.tun ∧ (lostFrame d c p s).tar = s.tar ∧ (lostFrame d c p s).clk = s.clk ∧
    (lostFrame d c p s).tsc = s.tsc ∧ (lostFrame d c p s).pwr = s.pwr ∧ (lostFrame d c p s).pins = s.pins := by
  have hj : ∀ v : Srv, v.quality ≠ .lost → 247 ≤ v.err →
      v.judge false = { v with err := 255, quality := .lost, run := 0 } := fun v h1 h2 => by
    simp [Srv.judge, h1, show 255 ≤ v.err + 8 by omega]
  have hjudge : ∀ w : State, w.mec.state = .record → w.srv.quality ≠ .lost → 247 ≤ w.srv.err →
      judgeFrame false w = report .servoLost (setSticky .servoLost (raise .servo
        (w.mapSrv fun v => { v with err := 255, quality := .lost, run := 0 }))) := fun w h0 h1 h2 => by
    have h1' : Quality.lost ≠ w.srv.quality := fun h => h1 h.symm
    simp [judgeFrame, qualityMoved, hj w.srv h1 h2, h0, h1', State.mapSrv]
  have hl : lockFrame d ⟨c, p⟩ s = report .servoLost (setSticky .servoLost (raise .servo
      ((s.phased (phaseIn d) (phaseIn c)).mapSrv fun v => { v with err := 255, quality := .lost, run := 0 }))) := by
    rw [lockFrame_judged (by rw [hs]; rfl), capIn_inRecord hs, hb, spinFrame_idle (by simpa using hspin)]
    exact hjudge _ (by simpa using hs) (by simpa using hq) (by simpa using he)
  rw [lostFrame, hl]
  refine ⟨by simp, by simp, ?_, by simp, by simp, by simp, by simp, by simp, by simp, by simp⟩
  exact setSticky_set _ _

theorem exec_lostFrame (hm : s.pwr.mode = .on) (hd : s.pwr.deckUp = true) (hdrum : s.mec.drum = true)
    (hs : s.mec.state = .record) (hspin : s.mec.spin = false) :
    exec (.servoFrame d ⟨c, p⟩) s = done (lostFrame d c p s) := by
  have hmec : (lockFrame d ⟨c, p⟩ s).mec.state = .record := by
    rw [lockFrame_judged (by rw [hs]; rfl), spinFrame_idle (by simpa using hspin)]
    simpa using hs
  rw [exec_servoFrame hm hd hdrum, frame_unread (by rw [hmec]; rfl), lostFrame]

/-- MEC acts on the loss: the tape rests in THREADED (R16). -/
def restsLost (s : State) : State :=
  enterState .threaded (s.mapMec fun m => { m with pending := none, reportCause := .servoLost })

theorem servoLost_eq (hs : s.mec.state = .record) :
    servoLost s = reportIf (s.mec.owner == .timer) .lostInRecord (restsLost s) := by
  simp only [servoLost, when, hs, beq_self_eq_true, if_true, restsLost]

/-- THREADED is entered from RECORD: the drum stops, and SRV is LOCKED again (R34). -/
theorem enterState_threaded_srv (s : State) :
    (enterState .threaded s).srv.quality = .locked ∧ (enterState .threaded s).srv.err = 0 := by
  have ha : ∀ (o : TState) (u : State), (arriveState o .threaded u).srv = u.srv := fun o u => by
    simp [arriveState, TState.isWind, TState.readsPulses]
  unfold enterState enter
  dsimp only
  (repeat' split) <;> simp_all [stallFollow, idleFollow, drumStop, TState.drumTurns]

theorem restsLost_spec (hs : s.mec.state = .record) :
    (restsLost s).mec.state = .threaded ∧ (restsLost s).mec.drum = false ∧ (restsLost s).mec.pending = none ∧
    (restsLost s).mec.reportCause = .servoLost ∧ (restsLost s).mec.owner = s.mec.owner ∧
    (restsLost s).srv.quality = .locked ∧ (restsLost s).srv.err = 0 ∧ (restsLost s).ctu.writing = none ∧
    (restsLost s).reports = s.reports ++ (if s.mec.owner = .timer then [.leftRecord] else [.hostRecEnd]) := by
  obtain ⟨q1, q2⟩ := enterState_threaded_srv (s.mapMec fun m => { m with pending := none, reportCause := .servoLost })
  obtain ⟨-, -, -, hw, -⟩ := enterState_ctu (n := .threaded)
    (s := s.mapMec fun m => { m with pending := none, reportCause := .servoLost }) (by simp [hs])
  refine ⟨by simp [restsLost], by simp [restsLost, TState.drumTurns], by simp [restsLost], by simp [restsLost],
    by simp [restsLost], q1, q2, by simp [restsLost, hw, hs], ?_⟩
  rw [restsLost, enterState_reports, entryReports_silent (by rfl)]
  cases ho : s.mec.owner <;> simp [leaveReports, hs, ho, TState.recordPair]

/-- A recording of the host ends with the lock, and gives the tuner back. -/
theorem servoFrame_lost (hq : s.reports = []) (hm : s.pwr.mode = .on) (hd : s.pwr.deckUp = true) (hdrum : s.mec.drum = true)
    (hs : s.mec.state = .record) (hspin : s.mec.spin = false) (ho : s.mec.owner = .host) (hl : s.srv.quality ≠ .lost)
    (he : 247 ≤ s.srv.err) (hb : (phaseIn d && phaseIn c) = false) (hh : s.HostHolds) :
    ∃ t, exec (.servoFrame d ⟨c, p⟩) s = .next t ∧ t.mec.state = .threaded ∧ t.mec.drum = false ∧ t.mec.pending = none ∧
      t.mec.reportCause = .servoLost ∧ t.stickySet .servoLost = true ∧ t.srv.quality = .locked ∧ t.srv.err = 0 ∧
      t.tar.holder = .none ∧ t.ctu.writing = none ∧ t.tun = s.tun ∧ t.clk = s.clk ∧ t.tsc = s.tsc := by
  obtain ⟨f1, f2, f3, -, f5, f6, f7, f8, f9, -⟩ := lostFrame_spec (p := p) hs hspin hl he hb
  obtain ⟨r1, r2, r3, r4, -, r6, r7, r8, r9⟩ := restsLost_spec (s := (lostFrame d c p s).awaits []) (by simp [f2, hs])
  have hlost : takeReport .servoLost ((lostFrame d c p s).awaits []) = restsLost ((lostFrame d c p s).awaits []) := by
    change servoLost _ = _
    rw [servoLost_eq (by simp [f2, hs])]
    simp [f2, ho, reportIf]
  have hrep : (restsLost ((lostFrame d c p s).awaits [])).reports = [.hostRecEnd] := by simp [r9, f2, ho]
  have hholds : (restsLost ((lostFrame d c p s).awaits [])).HostHolds := by
    obtain ⟨h1, h2, h3, h4⟩ := hh
    constructor <;> simpa [restsLost, f6]
  have hst : Settles 3 (lostFrame d c p s) (tunerGivenBack (restsLost ((lostFrame d c p s).awaits []))).heard := by
    refine settles_take (r := .servoLost) (rest := []) (by rw [f1, hq]; rfl) ?_
    rw [hlost]
    exact settles_hostRecEnd hrep hholds (by simp [restsLost, f9, hm])
  refine ⟨_, (exec_lostFrame hm hd hdrum hs hspin).trans (done_of_settles hst (by decide)), by simp [r1], by simp [r2],
    by simp [r3], by simp [r4], ?_, by simp [r6], by simp [r7], by simp, by simp [r8], by simp [restsLost, f5],
    by simp [restsLost, f7], by simp [restsLost, f8]⟩
  have hsans : (tunerGivenBack (restsLost ((lostFrame d c p s).awaits []))).lnk.sansNotices =
      (lostFrame d c p s).lnk.sansNotices := by simp [restsLost]
  rw [transmit_stickySet, heard_stickySet, State.stickySet, Lnk.sticky_of_sans hsans]
  exact f3

end

end Sys2Proof.Machine
end

section
/-! RECORD is entered for the active occurrence, and the obligation about the servo's frame (R168, R171). -/

namespace Sys2Proof.Machine

section
variable {d c p : Int} {s : State} {q : PendingTarget} {a : Active} {e : PlanEntry}

/-! ### What TSC makes of the entry into RECORD -/

theorem setOccState_eq {st : OccState} (h : s.tsc.active = some a) :
    setOccState st s = raise .plan (mapEntry a.slot a.date (fun e => { e with state := st })
      (mapActive (fun a => { a with state := st }) s)) := by
  simp [setOccState, h]

/-- The plan entry of the active occurrence is RECORDING, and the rest of TSC's record stays. -/
theorem recordEntered_tsc (h : s.tsc.active = some a) :
    (recordEntered s).tsc = { s.tsc with
      active := (recordEntered s).tsc.active,
      plan := s.tsc.plan.map fun e => if e.is a.slot a.date then { e with state := .recording } else e } := by
  unfold recordEntered withActive
  simp only [h]
  split
  · simp [setOccState, mapActive, mapEntry, h]
  · simp [setOccState, mapActive, mapEntry, h]

/-- The cue flag asks for a timed mark at the first entry. -/
theorem recordEntered_writing (h : s.tsc.active = some a) (hw : s.ctu.writing = none) :
    (recordEntered s).ctu.writing =
      if a.recorded = false ∧ (s.slot a.slot).cue = true then
        some { code := timedCode a.slot (monthDayOf a.date).2, origin := .timer, pos := 1 }
      else none := by
  unfold recordEntered withActive
  simp only [h]
  by_cases hm : a.recorded = false ∧ (s.slot a.slot).cue = true
  · rw [if_pos (by simpa using hm), if_pos hm]
    simp [requestMark, mapActive, hw]
  · rw [if_neg (by simpa using hm), if_neg hm]
    simp [mapActive, hw]

/-! ### The frame that locks under TIMER -/

/-- What a change from RECORD_PAUSE to RECORD under TIMER, for the one entry of the plan, has. -/
structure TimerSpins (q : PendingTarget) (a : Active) (e : PlanEntry) (s : State) : Prop where
  quiet : s.reports = []
  mode : s.pwr.mode = .on
  deckUp : s.pwr.deckUp = true
  drum : s.mec.drum = true
  spin : s.mec.spin = true
  pending : s.mec.pending = some q
  target : q.target = .record
  state : s.mec.state = .recordPause
  owner : s.mec.owner = .timer
  quality : s.srv.quality = .locked
  err : s.srv.err ≤ 95
  dark : s.pins.endLit = false
  writing : s.ctu.writing = none
  active : s.tsc.active = some a
  plan : s.tsc.plan = [e]
  entry : e.is a.slot a.date = true

/-- RECORD is entered, and TSC notes it: the state after the frame and its one report. -/
theorem lock_timer (h : TimerSpins q a e s) (hdr : phaseIn d = true) (hc : phaseIn c = true) :
    ∃ u, exec (.servoFrame d ⟨c, p⟩) s = .next (transmit (recordEntered u)) ∧ LockEntered .record s u ∧
      u.srv.detected = some s.mec.grade ∧ u.ctu.writing = none ∧ u.ctu.value = s.ctu.value ∧ u.tun = s.tun ∧
      u.tar = s.tar ∧ u.clk = s.clk ∧ u.tsc = s.tsc ∧ u.pwr = s.pwr := by
  have hcap : s.capIn ⟨c, p⟩ = true := by rw [capIn_record (.inr h.state) h.spin h.pending h.target, hc]
  obtain ⟨w, hw, hl⟩ := lockFrame_enters h.spin h.pending h.quality h.err hdr (.inr ⟨h.state, hcap⟩)
  obtain ⟨he, hde, -⟩ := lockEnters_record (q := q) (s := w) h.target (by rw [hw.mec, h.state]; decide)
  have hrep : (frameOver (lockEnters q w)).reports = [.enteredRecord] := by
    rw [frameOver_reports, lockEnters_reports, h.target, Target.stateOf,
      entryReports_locked rfl (by simp [hw.mec, h.state]) (by simp [hw.mec, h.state]) (by simp [hw.quality, h.quality])
        (by simp [hw.pins, h.dark])]
    simp [hw.mec, hw.reports, h.state, h.owner, h.quiet]
  have hctu : (lockEnters q w).ctu.writing = none ∧ (lockEnters q w).ctu.value = s.ctu.value := by
    rw [lockEnters, enterTarget_eq (by simp [hw.mec, h.state, h.target, Target.stateOf]), h.target]
    obtain ⟨hv, -, -, hwr, -⟩ := enterState_ctu (n := .record)
      (s := (w.mapMec fun m => { m with spin := false }).mapMec (Mec.takesTarget q))
      (by simp [hw.mec, h.state, Mec.takesTarget])
    simp only [Target.stateOf, hv, hwr]
    simp [hw.mec, hw.ctu, h.state, h.writing, Mec.takesTarget]
  have hst : Settles 1 (frameOver (lockEnters q w)) (recordEntered ((frameOver (lockEnters q w)).awaits [])) :=
    settles_take hrep (.quiet (by simp [takeReport]))
  refine ⟨(frameOver (lockEnters q w)).awaits [],
    (exec_lock h.mode h.deckUp h.drum hl he.state rfl).trans (done_of_settles hst (by decide)), ?_, ?_, ?_, ?_, ?_, ?_, ?_,
    ?_, ?_⟩
  · obtain ⟨h1, h2, h3, h4, h5, h6, h7⟩ := he
    constructor <;> simp_all [hw.mec, hw.quality]
  · simp [hde, hw.mec]
  · simp [hctu]
  · simp [hctu]
  · simp [hw.tun]
  · simp [hw.tar]
  · simp [hw.clk]
  · simp [hw.tsc]
  · simp [hw.pwr]

/-- The record of the active occurrence as RECORD is entered for it. -/
def Active.entered (s : State) (left : Nat) (a : Active) : Active :=
  { a with
    state := .recording, recorded := true, remaining := left,
    run := some (match a.run with
      | none => { start := s.clk.reading, stop := none, counter := s.ctu.value, grade := s.mec.grade }
      | some r => { r with grade := s.mec.grade }),
    noSignal := a.noSignal || s.tun.tuned.state == .noSignal }

/-- RECORD is entered for the active occurrence, whose entry is the only one of the plan. -/
theorem servoFrame_timer (h : TimerSpins q a e s) (hdr : phaseIn d = true) (hc : phaseIn c = true) :
    ∃ t left, exec (.servoFrame d ⟨c, p⟩) s = .next t ∧ t.mec.state = .record ∧ t.mec.owner = .timer ∧ t.mec.spin = false ∧
      t.mec.pending = none ∧ t.mec.grade = s.mec.grade ∧ t.srv.detected = some s.mec.grade ∧
      t.tsc = { s.tsc with active := some (a.entered s left), plan := [{ e with state := .recording }] } ∧
      (a.control = .time → left ≤ 86400 ∧ (e.eStop - s.clk.reading ≤ 86400 → left = e.eStop - s.clk.reading)) ∧
      (a.control = .label → left = a.remaining) ∧
      t.ctu.writing =
        (if a.recorded = false ∧ (s.slot a.slot).cue = true then
          some { code := timedCode a.slot (monthDayOf a.date).2, origin := .timer, pos := 1 }
         else none) ∧
      t.tun = s.tun ∧ t.tar = s.tar ∧ t.clk = s.clk ∧ t.pwr = s.pwr := by
  obtain ⟨u, hx, hl, hde, hwr, hv, htun, htar, hclk, htsc, hpwr⟩ := lock_timer (p := p) h hdr hc
  have ha : u.tsc.active = some a := by rw [htsc, h.active]
  have hentry : u.entry a.slot a.date = some e := by simp [State.entry, htsc, h.plan, h.entry]
  have hslot : u.slot a.slot = s.slot a.slot := slot_of_slots (by rw [htsc]) _
  have hactive := recordEntered_active ha
  rw [hentry] at hactive
  have hplan : (recordEntered u).tsc = { s.tsc with
      active := (recordEntered u).tsc.active, plan := [{ e with state := .recording }] } := by
    rw [recordEntered_tsc ha, htsc, h.plan]
    simp [h.entry]
  refine ⟨_, (match a.control with | .time => u.remainingUntil e.eStop | .label => a.remaining), hx, by simp [hl.state],
    by simp [hl.owner, h.owner], by simp [hl.spin], by simp [hl.pending], by simp [hl.grade], by simp [hde], ?_, ?_, ?_, ?_,
    by simp [htun], by simp [htar], by simp [hclk], by simp [hpwr]⟩
  · have hb : (recordEntered u).tsc.active = some (a.entered s
        (match a.control with | .time => u.remainingUntil e.eStop | .label => a.remaining)) := by
      rw [hactive]
      cases hct : a.control <;> cases hrun : a.run <;> simp [Active.entered, hclk, hv, hl.grade, htun, hct, hrun]
    rw [hb] at hplan
    simp [hplan]
  · intro hct
    simp only [hct]
    exact ⟨remainingUntil_le _ _, fun hle => by rw [remainingUntil_eq (by rw [hclk]; exact hle), hclk]⟩
  · intro hct
    simp only [hct]
  · simp [recordEntered_writing ha hwr, hslot]

end

end Sys2Proof.Machine

namespace Sys2Proof.Proofs
open Sys2Proof.Machine

/-- Settles O27: the frame of PLAY by SRV's judgement, the lock of each spin-up by the state it enters and the report that
entry makes, and the loss in RECORD by the rest it leads to. -/
theorem servoFrameJudgesLock : Obligations.ServoFrameJudgesLock := by
  intro d c p s hq hm hd hdrum drumIn internalIn
  have hdr : phaseIn d = true ↔ drumIn := phaseIn_iff
  have hin : phaseIn c = true ↔ internalIn := phaseIn_iff
  refine ⟨?play, ?host, ?lost, ?timer⟩
  case play =>
    intro hs hspin hu capIn good
    obtain ⟨t, hx, h1, h2, h3, h4, h5, h6, hrest⟩ := servoFrame_play (d := d) (c := c) (p := p) hq hm hd hdrum hs hspin hu
    have hcap : (if s.srv.pulsed then phaseIn p else phaseIn c) = true ↔ capIn := by
      cases hp : s.srv.pulsed <;> simp [capIn, hp, phaseIn_iff, internalIn]
    have hg : (phaseIn d && if s.srv.pulsed then phaseIn p else phaseIn c) = true ↔ good := by
      rw [Bool.and_eq_true, hdr, hcap]
    have hbad : ¬good → (phaseIn d && if s.srv.pulsed then phaseIn p else phaseIn c) = false := fun h =>
      Bool.eq_false_iff.mpr fun h' => h (hg.mp h')
    refine ⟨t, hx, by rw [h1]; exact hdr, by rw [h2]; exact hcap, h3, fun hl hok => ?_, fun hl hno => ?_, fun hl _ => ?_,
      fun hl hno => ?_, fun hl hok hr => ?_, fun hl hok hr => ?_, hrest⟩
    · rw [h5, (judge_counts hl).1, hg.mpr hok, if_pos rfl]
    · rw [h5, (judge_counts hl).1, hbad hno, if_neg (by decide)]
    · rw [h4, h5]
      exact (judge_counts hl).2
    · rw [h4, h6, hbad hno]
      exact judge_lost_bad hl
    · rw [h4, h6, hg.mpr hok]
      exact judge_lost_good hl hr
    · rw [h4, h5, hg.mpr hok]
      exact judge_regained hl hr
  case host =>
    intro q hspin hp ho hlk he hdark begun
    have h : HostSpins q s := ⟨hq, hm, hd, hdrum, hspin, hp, ho, hlk, he, hdark⟩
    refine ⟨fun hs hh => ⟨fun ht h1 h2 => ?_, fun ht h1 => ?_, fun hno => ?_⟩, fun hs ht h1 h2 => ?_⟩
    · exact lock_record h hs hh ht (hdr.mpr h1) (hin.mpr h2)
    · exact lock_recordPause h hs hh ht (hdr.mpr h1)
    · refine servoFrame_waits hq hm hd hdrum hs hspin hp (Bool.eq_false_iff.mpr fun h' => ?_)
      obtain ⟨h1, h2⟩ := Bool.and_eq_true_iff.mp h'
      rcases hno with ⟨ht, hn⟩ | ⟨ht, hn⟩
      · rw [capIn_record (.inl hs) hspin hp ht, ht] at h2
        exact hn ⟨hdr.mp h1, hin.mp (by simpa using h2)⟩
      · exact hn (hdr.mp h1)
    · exact lock_fromPause h hs ht (hdr.mpr h1) (hin.mpr h2)
  case lost =>
    intro hs hspin ho hl he hno h1 h2 h3 h4
    refine servoFrame_lost hq hm hd hdrum hs hspin ho hl he (Bool.eq_false_iff.mpr fun h' => hno ?_) ⟨h1, h2, h3, h4⟩
    obtain ⟨h5, h6⟩ := Bool.and_eq_true_iff.mp h'
    exact ⟨hdr.mp h5, hin.mp h6⟩
  case timer =>
    intro q a e hspin hp ht hs ho hlk he hdark hw ha hpl h1 h2 h3 h4
    have h : TimerSpins q a e s := ⟨hq, hm, hd, hdrum, hspin, hp, ht, hs, ho, hlk, he, hdark, hw, ha, hpl,
      by simp [PlanEntry.is, h1, h2]⟩
    obtain ⟨t, left, hx, t1, t2, t3, t4, t5, t6, t7, t8, t9, t10, t11⟩ := servoFrame_timer (p := p) h (hdr.mpr h3) (hin.mpr h4)
    exact ⟨t, a.entered s left, hx, t1, t2, t3, t4, t5, t6, t7, rfl, t8, t9, t10, t11⟩

end Sys2Proof.Proofs
end

section
/-! The rows that end a recording of the timer with nothing to follow: by time, trim, window, tape, stall and lock (R169, R173,
R178). -/

namespace Sys2Proof.Machine

/-- A recording of the timer, for the one entry of the plan, on a deck that nothing else waits for. -/
structure TimerRecords (a : Active) (e : PlanEntry) (run : RunInfo) (s : State) : Prop where
  quiet : s.reports = []
  mode : s.pwr.mode = .on
  deckUp : s.pwr.deckUp = true
  entry : s.pwr.entry = .none
  active : s.tsc.active = some a
  plan : s.tsc.plan = [e]
  slot : e.slot = a.slot
  date : e.date = a.date
  bound : a.slot < 16
  planned : e.state = .recording
  records : a.state = .recording
  recorded : a.recorded = true
  run : a.run = some run
  state : s.mec.state = .record
  owner : s.mec.owner = .timer
  pending : s.mec.pending = none
  spin : s.mec.spin = false
  holder : s.tar.holder = .record
  remembered : s.tar.remembered = false
  syncWait : s.tar.syncWait = false
  draws : ∀ n, drawSlot s n = []

/-- The occurrence has ended, its actual stop is the reading, and the deck rests in a state with the host. -/
structure RecordingEnded (a : Active) (run : RunInfo) (s : State) (o : OccOutcome) (n : TState) (t : State) : Prop where
  active : t.tsc.active = none
  plan : t.tsc.plan = []
  result : (t.slot a.slot).result =
    some { date := a.date, outcome := o, run := some { run with stop := some s.clk.reading }, doubtful := a.doubtful,
           noSignal := a.noSignal }
  count : (t.slot a.slot).count = if o.completes then min 255 ((s.slot a.slot).count + 1) else (s.slot a.slot).count
  sticky : o.fails → t.stickySet .occurrenceFailed = true
  others : ∀ n, n ≠ a.slot → t.slot n = s.slot n
  shadow : t.tsc.shadow = none
  restored : t.tsc.restored = if s.tsc.shadow.isSome then s.tsc.shadow else s.tsc.restored
  owner : t.mec.owner = .host
  state : t.mec.state = n
  holder : t.tar.holder = .none
  clk : t.clk = s.clk
  tun : t.tun = s.tun

section
variable {a b : Active} {e : PlanEntry} {run : RunInfo} {s t u : State} {o : OccOutcome}

theorem TimerRecords.is (h : TimerRecords a e run s) : e.is a.slot a.date = true := by
  simp [PlanEntry.is, h.slot, h.date]

theorem TimerRecords.alone (h : TimerRecords a e run s) : s.Alone a :=
  ⟨h.active, by simp [h.plan, h.is], h.bound, h.draws⟩

theorem TimerRecords.holds (h : TimerRecords a e run s) : s.TimerHolds :=
  ⟨h.owner, h.holder, h.remembered, h.syncWait, h.mode⟩

theorem TimerRecords.entry_eq (h : TimerRecords a e run s) : s.entry a.slot a.date = some e := by
  simp [State.entry, h.plan, h.is]

/-- What an ending leaves, where the result has the stop that belongs to it. -/
theorem Over.recordingEnded (h : Over b o u t) (hb : b.slot = a.slot) (ho : o.abrupt = false)
    (hres : resultOf b o u =
      { date := a.date, outcome := o, run := some { run with stop := some s.clk.reading }, doubtful := a.doubtful,
        noSignal := a.noSignal })
    (hsl : u.tsc.slots = s.tsc.slots) (hsh : u.tsc.shadow = s.tsc.shadow) (hre : u.tsc.restored = s.tsc.restored)
    (hc : u.clk = s.clk) (ht : u.tun = s.tun) :
    RecordingEnded a run s o (if u.mec.state.recordPair then .threaded else u.mec.state) t := by
  have hslot := slot_of_slots hsl
  have hend := h.ended
  rw [hb, hslot, hres] at hend
  refine ⟨h.active, h.plan, by rw [hend]; rfl, by rw [hend]; rfl, h.sticky, fun n hn => by rw [h.others n (by rwa [hb]), hslot],
    h.shadow, ?_, h.owner, h.state, h.holder, by rw [h.clk, hc], by rw [h.tun, ht]⟩
  rw [h.restored, ho, hsh, hre]
  cases hs : s.tsc.shadow <;> simp

/-- An ending that is decided in RECORD. -/
theorem ended_at_once (h : TimerRecords a e run s) (ho : o.abrupt = false) :
    ∃ t, done (endActive o s) = .next t ∧ RecordingEnded a run s o .threaded t := by
  obtain ⟨t, ht, hover⟩ := done_endActive (o := o) h.quiet h.alone h.holds h.entry
  refine ⟨t, ht, ?_⟩
  have hr := hover.recordingEnded (s := s) (run := run) rfl ho (by simp [resultOf, h.run, stopNow, h.state]) rfl rfl rfl rfl rfl
  simpa [h.state, TState.recordPair] using hr

/-- What leaving RECORD for another state makes of the deck, before the occurrence's end is reported. -/
structure LeavesRecord (s u : State) (n : TState) : Prop where
  state : u.mec.state = n
  owner : u.mec.owner = s.mec.owner
  endAction : u.mec.endAction = s.mec.endAction
  tun : u.tun = s.tun
  tar : u.tar = s.tar
  clk : u.clk = s.clk
  tsc : u.tsc = s.tsc
  pwr : u.pwr = s.pwr

/-- An ending that is reported as RECORD is left for a state that is no recording. -/
theorem ended_by_report {n : TState} {c : Report} {rest : List Report} (h : TimerRecords a e run s) (hl : LeavesRecord s u n)
    (hn : n.recordPair = false) (ho : o.abrupt = false) (hq : u.reports = .leftRecord :: c :: rest)
    (hc : ∀ v : State, v.tsc.active = some (a.leftAt s.clk.reading) → takeReport c v = endActive o v)
    (hr : rest = [] ∨ rest = [.endAction] ∧ s.mec.endAction = .stop) :
    ∃ m t, m ≤ 6 ∧ Settles m u t ∧ RecordingEnded a run s o n t := by
  have halone : u.Alone a := by
    refine ⟨by rw [hl.tsc, h.active], by rw [hl.tsc]; exact h.alone.plan, h.bound, fun m => ?_⟩
    rw [drawSlot_congr (slot_of_slots (by rw [hl.tsc]) m) hl.clk (by rw [hl.tsc]), h.draws]
  have hholds : u.TimerHolds :=
    ⟨by rw [hl.owner, h.owner], by rw [hl.tar, h.holder], by rw [hl.tar, h.remembered], by rw [hl.tar, h.syncWait],
      by rw [hl.pwr, h.mode]⟩
  obtain ⟨m, t, hm, ht, hover⟩ := settles_left_then (o := o) hq halone hholds (by rw [hl.pwr, h.entry])
    (by rw [hl.state, hn]) (by rw [hl.clk]; exact hc) (by rw [hl.endAction]; exact hr)
  rw [hl.clk] at hover
  refine ⟨m, t, hm, ht, ?_⟩
  have hne : u.mec.state ≠ .record := by rw [hl.state]; rintro rfl; cases hn
  have hend := hover.recordingEnded (s := s) (a := a) (run := run) rfl ho
    (by simp [resultOf, Active.leftAt, h.run, stopNow, hne]) (by rw [hl.tsc]) (by rw [hl.tsc]) (by rw [hl.tsc]) hl.clk hl.tun
  rwa [hl.state, hn, if_neg (by decide)] at hend

/-- The same, to the end of the command. -/
theorem RecordingEnded.transmit {n : TState} (h : RecordingEnded a run s o n t) :
    RecordingEnded a run s o n (transmit t) := by
  obtain ⟨h1, h2, h3, h4, h5, h6, h7, h8, h9, h10, h11, h12, h13⟩ := h
  exact ⟨by simp [h1], by simp [h2], by simp [h3], by simp [h4], fun hf => by simp [h5 hf], fun n hn => by simp [h6 n hn],
    by simp [h7], by simp [h8], by simp [h9], by simp [h10], by simp [h11], by simp [h12], by simp [h13]⟩

/-! ### By time, trim and window -/

theorem when_on {f : State → State} (h : TimerRecords a e run s) : when (s.pwr.mode != .backup) f s = f s := by
  simp [when, h.mode]

theorem recordingTimeUp_ends (h : TimerRecords a e run s) (hc : a.control = .time) (hz : a.remaining = 0) :
    ∃ t, exec .recordingTimeUp s = .next t ∧
      RecordingEnded a run s (if e.conflict = .trimmedEnd then .truncated else .complete) .threaded t := by
  have hx : exec .recordingTimeUp s = done (endActive (if e.conflict = .trimmedEnd then .truncated else .complete) s) := by
    change done (when (s.pwr.mode != .backup) timeIsUp s) = _
    simp [when_on h, timeIsUp, withActive, h.active, hc, hz, h.records, timeUpOutcome, h.entry_eq]
  rw [hx]
  exact ended_at_once h (by split <;> rfl)

theorem recordingTimeUp_idle (h : TimerRecords a e run s) (hz : a.remaining ≠ 0) :
    exec .recordingTimeUp s = .next (transmit s) := by
  change done (when (s.pwr.mode != .backup) timeIsUp s) = _
  have hi : timeIsUp s = s := by simp [timeIsUp, withActive, h.active, hz]
  rw [when_on h, hi, done_quiet h.quiet]

theorem labelTrimmedStop_ends (h : TimerRecords a e run s) (hc : a.control = .label) (ht : e.conflict = .trimmedEnd)
    (hr : s.clk.reached e.eStop = true) :
    ∃ t, exec .labelTrimmedStop s = .next t ∧ RecordingEnded a run s .truncated .threaded t := by
  have hx : exec .labelTrimmedStop s = done (endActive .truncated s) := by
    change done (when (s.pwr.mode != .backup) labelTrimmed s) = _
    simp [when_on h, labelTrimmed, withActive, h.active, h.entry_eq, hc, ht, hr]
  rw [hx]
  exact ended_at_once h rfl

theorem labelTrimmedStop_idle (h : TimerRecords a e run s) (ht : e.conflict ≠ .trimmedEnd) :
    exec .labelTrimmedStop s = .next (transmit s) := by
  change done (when (s.pwr.mode != .backup) labelTrimmed s) = _
  have hi : labelTrimmed s = s := by simp [labelTrimmed, withActive, h.active, h.entry_eq, ht]
  rw [when_on h, hi, done_quiet h.quiet]

/-- No entry waits, so a window's end is looked at for the active occurrence alone. -/
theorem windowsClose_active (h : TimerRecords a e run s) :
    windowsClose s = if e.open s.clk then s else
      match a.windowOutcome with
      | some o => endActive o s
      | none => s := by
  have hany : s.tsc.plan.any (PlanEntry.missed s.clk) = false := by
    simp [h.plan, PlanEntry.missed, PlanEntry.waiting, h.planned]
  simp only [windowsClose, hany, Bool.false_eq_true, if_false, withActive, h.active, h.entry_eq] <;> rfl

theorem windowEnd_ends (h : TimerRecords a e run s) (hc : a.control = .label) (hr : s.clk.reached e.windowEnd = true) :
    ∃ t, exec .windowEnd s = .next t ∧ RecordingEnded a run s .complete .threaded t := by
  have hx : exec .windowEnd s = done (endActive .complete s) := by
    change done (when (s.pwr.mode != .backup) windowsClose s) = _
    rw [when_on h, windowsClose_active h]
    simp [PlanEntry.open, hr, Active.windowOutcome, hc, h.recorded]
  rw [hx]
  exact ended_at_once h rfl

theorem windowEnd_idle (h : TimerRecords a e run s) (hr : s.clk.reached e.windowEnd = false) :
    exec .windowEnd s = .next (transmit s) := by
  change done (when (s.pwr.mode != .backup) windowsClose s) = _
  have hi : windowsClose s = s := by rw [windowsClose_active h]; simp [PlanEntry.open, hr]
  rw [when_on h, hi, done_quiet h.quiet]

/-! ### By the tape's end, a stalled reel and the loss of lock -/

/-- The occurrence that a cause in RECORD ends (R178). -/
theorem endWhile_left {now : Nat} (h : TimerRecords a e run s) {v : State} (hv : v.tsc.active = some (a.leftAt now)) :
    endWhile [.recording] o v = endActive o v :=
  endWhile_eq hv (by simp [Active.leftAt, h.records])

theorem endSensor_ends (h : TimerRecords a e run s) (hl : s.pins.endLit = false) (he : s.mec.endAction = .stop) :
    ∃ t, exec .endSensorLit s = .next t ∧ RecordingEnded a run s .tapeEnd .threaded t := by
  have hx : endLights s = report .endAction (report .tapeEndInRecord (endSeek .notFound (enterState .threaded (endMet s)))) := by
    rw [endLights_threaded h.mode h.deckUp hl (.inr (.inr h.state))]
    simp [h.state, h.owner, reportIf]
  have hq : (endLights s).reports = [.leftRecord, .tapeEndInRecord, .endAction] := by
    rw [hx]
    simp [entryReports_silent (n := .threaded) rfl, leaveReports_timer, h.state, h.owner, h.quiet]
  have hleaves : LeavesRecord s (endLights s) .threaded := by
    rw [hx]
    constructor <;> simp
  obtain ⟨m, t, hm, ht, hend⟩ := ended_by_report (o := .tapeEnd) h hleaves rfl rfl hq
    (fun v hv => endWhile_left h hv) (.inr ⟨rfl, he⟩)
  exact ⟨_, (exec_endSensorLit s).trans (done_of_settles ht (by unfold Config.reportBound; omega)), hend.transmit⟩

theorem reelStall_ends (h : TimerRecords a e run s) (hst : s.mec.stall = true) :
    ∃ t, exec .reelStall s = .next t ∧ RecordingEnded a run s .tapeStall .unthreading t := by
  have hx : exec .reelStall s = done (report .stallInRecord (stallStops s)) := by
    rw [exec_reelStall, deckPowered_on h.mode h.deckUp, hst, Bool.and_self, when_true,
      reelStalls_threaded (.inr (.inr (.inr h.state)))]
    simp [h.state, h.owner, reportIf]
  have hq : (report .stallInRecord (stallStops s)).reports = [.leftRecord, .stallInRecord] := by
    simp [stallStops_reports, leaveReports_timer, h.state, h.owner, h.quiet]
  have hleaves : LeavesRecord s (report .stallInRecord (stallStops s)) .unthreading := by
    constructor <;> simp [stallStops]
  obtain ⟨m, t, hm, ht, hend⟩ := ended_by_report (o := .tapeStall) h hleaves rfl rfl hq
    (fun v hv => endWhile_left h hv) (.inl rfl)
  exact ⟨_, hx.trans (done_of_settles ht (by unfold Config.reportBound; omega)), hend.transmit⟩

theorem lostLock_ends {d c p : Int} (h : TimerRecords a e run s) (hd : s.mec.drum = true) (hq : s.srv.quality ≠ .lost)
    (he : 247 ≤ s.srv.err) (hb : (phaseIn d && phaseIn c) = false) :
    ∃ t, exec (.servoFrame d ⟨c, p⟩) s = .next t ∧ RecordingEnded a run s .servo .threaded t := by
  obtain ⟨f1, f2, -, -, f5, f6, f7, f8, f9, -⟩ := lostFrame_spec (p := p) h.state h.spin hq he hb
  obtain ⟨r1, -, -, -, r5, -, -, -, r9⟩ := restsLost_spec (s := (lostFrame d c p s).awaits []) (by simp [f2, h.state])
  have hlost : takeReport .servoLost ((lostFrame d c p s).awaits []) =
      report .lostInRecord (restsLost ((lostFrame d c p s).awaits [])) := by
    change servoLost _ = _
    rw [servoLost_eq (by simp [f2, h.state])]
    simp [f2, h.owner, reportIf]
  have hrep : (report .lostInRecord (restsLost ((lostFrame d c p s).awaits []))).reports = [.leftRecord, .lostInRecord] := by
    simp [r9, f2, h.owner]
  have hleaves : LeavesRecord s (report .lostInRecord (restsLost ((lostFrame d c p s).awaits []))) .threaded :=
    ⟨by simp [r1], by simp [r5, f2], by simp [restsLost, f2], by simp [restsLost, f5], by simp [restsLost, f6],
      by simp [restsLost, f7], by simp [restsLost, f8], by simp [restsLost, f9]⟩
  obtain ⟨m, t, hm, ht, hend⟩ := ended_by_report (o := .servo) h hleaves rfl rfl hrep (fun v hv => endWhile_left h hv) (.inl rfl)
  have hst : Settles (m + 1) (lostFrame d c p s) t := by
    refine settles_take (r := .servoLost) (rest := []) (by rw [f1, h.quiet]; rfl) ?_
    rw [hlost]
    exact ht
  exact ⟨_, (exec_lostFrame h.mode h.deckUp hd h.state h.spin).trans
    (done_of_settles hst (by unfold Config.reportBound; omega)), hend.transmit⟩

end

end Sys2Proof.Machine
end

section
/-! A LABEL packet that ends a recording or breaks it off (R114, R116, R170, R171). -/

namespace Sys2Proof.Machine

section
variable {s : State} {a : Active} {e : PlanEntry} {run : RunInfo}

/-! ### From RECORD to RECORD_PAUSE under TIMER -/

/-- The target RECORD_PAUSE that TSC asks for. -/
def pauseTarget (g : Grade) (m : Mec) : PendingTarget := { target := .recordPause, speed := m.speed, grade := g, origin := .timer }

/-- RECORD_PAUSE is entered from RECORD. -/
def pausedFrom (g : Grade) (s : State) : State := enterState .recordPause (s.mapMec (Mec.takesTarget (pauseTarget g s.mec)))

/-- From RECORD the pause is entered at once. -/
theorem timerTarget_pauses (g : Grade) (hs : s.mec.state = .record) (hspin : s.mec.spin = false) (htab : s.mec.tab ≠ .absent) :
    timerTarget .recordPause g s = pausedFrom g s := by
  have hroute : timerTarget .recordPause g s = execTarget (pauseTarget g s.mec) s := by
    simp [timerTarget, hs, htab, pauseTarget]
  have hp : route (pauseTarget g s.mec) s = enterTarget (pauseTarget g s.mec) s := by
    simp [route, routeRecording, hs, pauseTarget]
  rw [hroute, execTarget_route (by rw [hs]; rfl) hspin, hp, enterTarget_eq (by simp [hs, pauseTarget, Target.stateOf])]
  rfl

@[simp] theorem pausedFrom_frame (g : Grade) (s : State) :
    (pausedFrom g s).tun = s.tun ∧ (pausedFrom g s).tar = s.tar ∧ (pausedFrom g s).clk = s.clk ∧
    (pausedFrom g s).tsc = s.tsc ∧ (pausedFrom g s).pwr = s.pwr ∧ (pausedFrom g s).mec.state = .recordPause ∧
    (pausedFrom g s).mec.owner = s.mec.owner ∧ (pausedFrom g s).mec.grade = s.mec.grade ∧
    (pausedFrom g s).mec.tab = s.mec.tab ∧ (pausedFrom g s).mec.spin = s.mec.spin ∧
    (pausedFrom g s).mec.pending = none := by
  simp [pausedFrom, Mec.takesTarget]

/-- TSC is told that RECORD is left, and of the pause. -/
theorem pausedFrom_reports (g : Grade) (hs : s.mec.state = .record) (ho : s.mec.owner = .timer) :
    (pausedFrom g s).reports = s.reports ++ [.leftRecord, .paused] := by
  rw [pausedFrom, enterState_reports]
  simp [entryReports, leaveReports, arriveReports, Mec.takesTarget, hs, ho, TState.recordPair, TState.forward, TState.reverse]

/-- Where nothing is being armed, the pause reached is only noted. -/
theorem pauseReached_idle (ha : s.tsc.active = some a) (hst : a.state ≠ .arming) : pauseReached s = s := by
  have hmap : mapActive (fun a => if a.state = .arming then { a with transportReady := true } else a) s = s := by
    simp [mapActive, ha, hst, State.mapTsc]
    simp [← ha]
  have htest : preRollTest s = s := by simp [preRollTest, withActive, ha, hst]
  unfold pauseReached
  split
  · rw [hmap, htest]
  · rfl

/-! ### The packet as TSC takes it -/

/-- The packet's data bits, its key and its status. -/
def labelKey (data : List Nat) : BitVec 20 := BitVec.ofNat 20 (field data 3 + 128 * field data 4 + 16384 * (field data 5 % 64))

/-- A LABEL packet whose network code is known already, and which is not captured, leads to no more than a report. -/
theorem packetArrives_label {bytes : List Byte} (hlen : bytes.length = 12) (hodd : ∀ b ∈ bytes, oddParity b = true)
    (hsig : s.tun.tuned.state = .signal) (hty : field (bytes.map dataBits) 0 = 0x22)
    (hnet : (s.preset s.receivingPreset).network = some (networkOf (bytes.map dataBits))) (hsel : s.dld.sel.getLsbD 1 = false) :
    packetArrives bytes s = report (.label s.receivingPreset (labelKey (bytes.map dataBits))
      (statusOf (field (bytes.map dataBits) 6))) s := by
  have hall : bytes.all oddParity = true := List.all_eq_true.mpr hodd
  have hlearn : ∀ r, learnCode (networkOf (bytes.map dataBits)) (report r s) = report r s := fun r => by
    unfold learnCode
    exact if_pos (.inr hnet)
  have htake : ∀ r, (report r s).takesCapture .label = false := fun r => by
    have hbit : (report r s).dld.sel.getLsbD PacketType.label.bit = false := hsel
    rw [State.takesCapture, hbit]
    rfl
  have hcap : ∀ r n l, captureOffer .label n l (report r s) = report r s := fun r n l => by
    rw [captureOffer, if_neg (by rw [htake r]; decide)]
  rw [packetArrives, hsig, hlen, beq_self_eq_true, beq_self_eq_true, Bool.and_self, when_true, takePacket, if_pos hall, hty,
    if_neg (by decide), if_pos rfl, takeLabel, hlearn, hcap]
  rfl

/-- The occurrence has seen a label. -/
def labelSeen (s : State) : State := mapActive (fun a => { a with labelsSeen := true }) s

/-- A matching packet on the channel of an occurrence under label control acts by its status (R171). -/
theorem labelTaken_eq {n : Nat} {key : BitVec 20} {st : LabelStatus} {k : LabelControl} (ha : s.tsc.active = some a)
    (hc : a.control = .label) (hl : (s.slot a.slot).label = some k) (hn : n = (s.slot a.slot).preset)
    (hk : (key ^^^ k.key) &&& k.mask = 0) : labelTaken n key st s = labelActs st a (labelSeen s) := by
  have hagree : k.agrees key = true := by simp [LabelControl.agrees, hk]
  simp only [labelTaken, withActive, ha, hc, hn, and_self, if_true, hl, hagree, labelSeen]

/-- The facts about a packet that matches an occurrence under label control. -/
structure Matches (bytes : List Byte) (a : Active) (s : State) : Prop where
  length : bytes.length = 12
  odd : ∀ b ∈ bytes, oddParity b = true
  signal : s.tun.tuned.state = .signal
  control : a.control = .label
  preset : s.receivingPreset = (s.slot a.slot).preset
  unselected : s.dld.sel.getLsbD 1 = false
  type : field (bytes.map dataBits) 0 = 0x22
  network : (s.preset s.receivingPreset).network = some (networkOf (bytes.map dataBits))
  label : ∃ k, (s.slot a.slot).label = some k ∧ (labelKey (bytes.map dataBits) ^^^ k.key) &&& k.mask = 0

/-- The command hands the packet to TSC, which acts by its status. -/
theorem settles_label {bytes : List Byte} {n : Nat} {t : State} (h : TimerRecords a e run s) (hm : Matches bytes a s)
    (ht : Settles n (labelActs (statusOf (field (bytes.map dataBits) 6)) a (labelSeen (s.awaits []))) t)
    (hn : n < Config.reportBound) : exec (.packetArrival bytes) s = .next (transmit t) := by
  obtain ⟨k, hl, hk⟩ := hm.label
  change done (packetArrives bytes s) = _
  rw [packetArrives_label hm.length hm.odd hm.signal hm.type hm.network hm.unselected]
  refine done_of_settles (settles_take (r := .label s.receivingPreset (labelKey (bytes.map dataBits))
    (statusOf (field (bytes.map dataBits) 6))) (rest := []) (by simp [h.quiet]) ?_) hn
  rw [report_awaits]
  have htake : takeReport (.label s.receivingPreset (labelKey (bytes.map dataBits))
      (statusOf (field (bytes.map dataBits) 6))) (s.awaits []) =
      labelActs (statusOf (field (bytes.map dataBits) 6)) a (labelSeen (s.awaits [])) :=
    labelTaken_eq (by simp [h.active]) hm.control hl hm.preset hk
  rw [htake]
  exact ht

@[simp] theorem labelSeen_frame (s : State) :
    (labelSeen s).mec = s.mec ∧ (labelSeen s).tun = s.tun ∧ (labelSeen s).tar = s.tar ∧ (labelSeen s).clk = s.clk ∧
    (labelSeen s).pwr = s.pwr ∧ (labelSeen s).reports = s.reports ∧
    (labelSeen s).tsc = { s.tsc with active := s.tsc.active.map fun a => { a with labelsSeen := true } } := by
  simp [labelSeen, mapActive]

theorem status_ended {n : Nat} (h : n % 4 = 3) : statusOf n = .ended := by simp [statusOf, h]

theorem status_brk {n : Nat} (h : n % 4 = 2) : statusOf n = .brk := by simp [statusOf, h]

/-! ### ENDED -/

theorem labelEnds {bytes : List Byte} (h : TimerRecords a e run s) (hm : Matches bytes a s)
    (hst : field (bytes.map dataBits) 6 % 4 = 3) :
    ∃ t, exec (.packetArrival bytes) s = .next t ∧ RecordingEnded a run s .complete .threaded t := by
  have halone : (labelSeen (s.awaits [])).Alone { a with labelsSeen := true } := by
    refine ⟨by simp [h.active], by simpa using h.alone.plan, h.bound, fun n => ?_⟩
    rw [drawSlot_congr (s := s) (slot_of_slots (by simp) n) (by simp) (by simp), h.draws]
  have hholds : (labelSeen (s.awaits [])).TimerHolds :=
    ⟨by simp [h.owner], by simp [h.holder], by simp [h.remembered], by simp [h.syncWait], by simp [h.mode]⟩
  obtain ⟨hover, hrep⟩ := endActive_over (o := .complete) halone hholds
  have hset := settles_over (o := .complete) halone hholds (by simp [h.entry]) (by simp)
  have hacts : labelActs (statusOf (field (bytes.map dataBits) 6)) a (labelSeen (s.awaits [])) =
      endActive .complete (labelSeen (s.awaits [])) := by
    rw [status_ended hst]
    simp [labelActs, h.records]
  have hrec := hover.heard.recordingEnded (s := s) (a := a) (run := run) rfl rfl
    (by simp [resultOf, h.run, stopNow, h.state]) (by simp) (by simp) (by simp) (by simp) (by simp)
  have hend : RecordingEnded a run s .complete .threaded (endActive .complete (labelSeen (s.awaits []))).heard := by
    simpa [h.state, TState.recordPair] using hrec
  refine ⟨_, settles_label h hm (by rw [hacts]; exact hset) ?_, hend.transmit⟩
  rw [hrep]
  simp [h.state, Config.reportBound]

/-! ### BREAK -/

/-- The record of an occurrence whose label breaks off. -/
def Active.broken (run : RunInfo) (now : Nat) (a : Active) : Active :=
  { a with state := .labelBreak, labelsSeen := true, run := some { run with stop := some now } }

/-- RECORD_PAUSE is entered, and the occurrence is in LABEL_BREAK. -/
def breakPaused (g : Grade) (s : State) : State := setOccState .labelBreak (pausedFrom g s)

theorem breakPaused_spec (g : Grade) (ha : s.tsc.active = some a) (hp : s.tsc.plan = [e]) (he : e.is a.slot a.date = true) :
    (breakPaused g s).tsc =
      { s.tsc with active := some { a with state := .labelBreak }, plan := [{ e with state := .labelBreak }] } ∧
    (breakPaused g s).mec = (pausedFrom g s).mec ∧ (breakPaused g s).tun = s.tun ∧ (breakPaused g s).tar = s.tar ∧
    (breakPaused g s).clk = s.clk ∧ (breakPaused g s).reports = (pausedFrom g s).reports := by
  have ha' : (pausedFrom g s).tsc.active = some a := by simp [ha]
  rw [breakPaused, setOccState_eq ha']
  simp [mapEntry, mapActive, ha, hp, he]

/-- RECORD is left, which sets the actual stop, and the pause is only noted. -/
theorem settles_break (g : Grade) (hs : s.mec.state = .record) (ho : s.mec.owner = .timer) (hq : s.reports = [])
    (ha : s.tsc.active = some a) (hp : s.tsc.plan = [e]) (he : e.is a.slot a.date = true) :
    ∃ t, Settles 2 (breakPaused g s) t ∧ t.mec.state = .recordPause ∧ t.mec.owner = .timer ∧
      t.tsc.active = some { a with state := .labelBreak, run := a.run.map fun r => { r with stop := some s.clk.reading } } ∧
      t.tsc.plan = [{ e with state := .labelBreak }] ∧ t.tsc.slots = s.tsc.slots ∧ t.tar = s.tar ∧ t.tun = s.tun ∧
      t.clk = s.clk := by
  obtain ⟨b1, b2, b3, b4, b5, b6⟩ := breakPaused_spec g ha hp he
  have hrep : (breakPaused g s).reports = [.leftRecord, .paused] := by rw [b6, pausedFrom_reports g hs ho, hq]; rfl
  have hact : (recordLeft ((breakPaused g s).awaits [.paused])).tsc.active =
      some { a with state := .labelBreak, run := a.run.map fun r => { r with stop := some s.clk.reading } } := by
    simp [recordLeft, mapActive, b1, b5]
  have hpaused : takeReport .paused ((recordLeft ((breakPaused g s).awaits [.paused])).awaits []) =
      (recordLeft ((breakPaused g s).awaits [.paused])).awaits [] :=
    pauseReached_idle (by simpa using hact) (by simp)
  refine ⟨(recordLeft ((breakPaused g s).awaits [.paused])).awaits [], settles_take hrep ?_, by simp [b2], by simp [b2, ho],
    by simp [hact], by simp [recordLeft, mapActive, b1], by simp [recordLeft, mapActive, b1], by simp [b4], by simp [b3],
    by simp [b5]⟩
  refine settles_take (r := .paused) (rest := []) (by simp [takeReport]) ?_
  change Settles 0 (takeReport .paused ((recordLeft ((breakPaused g s).awaits [.paused])).awaits [])) _
  rw [hpaused]
  exact .quiet (by simp)

theorem labelBreaks {bytes : List Byte} (h : TimerRecords a e run s) (hm : Matches bytes a s) (htab : s.mec.tab ≠ .absent)
    (hst : field (bytes.map dataBits) 6 % 4 = 2) :
    ∃ t, exec (.packetArrival bytes) s = .next t ∧ t.mec.state = .recordPause ∧ t.mec.owner = .timer ∧
      t.tsc.active = some (a.broken run s.clk.reading) ∧ t.tsc.plan = [{ e with state := .labelBreak }] ∧
      t.tsc.slots = s.tsc.slots ∧ t.tar = s.tar ∧ t.tun = s.tun ∧ t.clk = s.clk := by
  have hpause : timerTarget .recordPause a.grade (labelSeen (s.awaits [])) = pausedFrom a.grade (labelSeen (s.awaits [])) :=
    timerTarget_pauses a.grade (by simp [h.state]) (by simp [h.spin]) (by simpa using htab)
  have hacts : labelActs (statusOf (field (bytes.map dataBits) 6)) a (labelSeen (s.awaits [])) =
      breakPaused a.grade (labelSeen (s.awaits [])) := by
    rw [status_brk hst, breakPaused, ← hpause]
    simp [labelActs, h.records]
  obtain ⟨t, ht, h1, h2, h3, h4, h5, h6, h7, h8⟩ := settles_break (s := labelSeen (s.awaits [])) (a := { a with labelsSeen := true })
    (e := e) a.grade (by simp [h.state]) (by simp [h.owner]) (by simp) (by simp [h.active]) (by simp [h.plan]) (by simpa using h.is)
  refine ⟨_, settles_label h hm (by rw [hacts]; exact ht) (by decide), by simp [h1], by simp [h2], ?_, by simp [h4],
    by simp [h5], by simp [h6], by simp [h7], by simp [h8]⟩
  simp [h3, Active.broken, h.run]

end

end Sys2Proof.Machine
end

section
/-! SUPPORT. The deck handed over (R176): the order for the successor's preset, ARMING, and the pre-roll from RECORD_PAUSE. -/

namespace Sys2Proof.Machine

section
variable {s u v : State} {f : PlanEntry} {n : Nat}

/-! ### The order for a preset (R88, R101, R102) -/

/-- TAR's order for a used preset is taken: the preset is tuned, and the tuning is the RECORD holder's. -/
theorem orderFor_used (hu : (s.preset n).used = true) :
    (orderFor .record (.preset n) s).1 ≠ .noChannel ∧ (orderFor .record (.preset n) s).2.tun.tuned.preset = n ∧
    (orderFor .record (.preset n) s).2.tun.presets = s.tun.presets ∧
    (orderFor .record (.preset n) s).2.tar = { s.tar with orderOf := .record } ∧
    (orderFor .record (.preset n) s).2.reports = s.reports := by
  have ht : (tuneOrder (.preset n) s).1 ≠ .noChannel ∧ (tuneOrder (.preset n) s).2.tun.tuned.preset = n ∧
      (tuneOrder (.preset n) s).2.tun.presets = s.tun.presets := by
    have hto : s.orderTarget (.preset n) = some (.preset, n, (s.preset n).freq, (s.preset n).fine) := by
      simp [State.orderTarget, hu]
    unfold tuneOrder
    rw [hto]
    dsimp only
    split
    · simp
    · simp [tuneTo]
  obtain ⟨h1, h2, h3⟩ := ht
  unfold orderFor
  simp only [if_neg h1]
  exact ⟨h1, by simpa [orderIs] using h2, by simpa [orderIs] using h3, by simp [orderIs], by simp [orderIs]⟩

/-- What TAR's part of the pre-roll does: the preset is tuned, RECORD holds, and at most a completion is passed on. -/
structure TunerAnswers (n : Nat) (u v : State) : Prop where
  mec : v.mec = u.mec
  srv : v.srv = u.srv
  tsc : v.tsc = u.tsc
  clk : v.clk = u.clk
  preset : v.tun.tuned.preset = n
  holder : v.tar.holder = .record
  reports : v.reports = u.reports ∨ ∃ b, v.reports = u.reports ++ [.tuningPassed b]

/-- The order has been given already, and its answer is passed on. -/
theorem recordAnswer_answers {a : TuneAnswer} (ha : a ≠ .noChannel) (hn : u.tun.tuned.preset = n)
    (hh : u.tar.holder = .record) : TunerAnswers n u (recordAnswer a u) := by
  cases a with
  | noChannel => exact absurd rfl ha
  | begun =>
    have he : recordAnswer .begun u = u := rfl
    rw [he]
    exact ⟨rfl, rfl, rfl, rfl, hn, hh, .inl rfl⟩
  | done b =>
    have he : recordAnswer (.done b) u =
        reportIf (u.tar.holder == .record && u.tar.orderOf == .record) (.tuningPassed b) u := rfl
    rw [he]
    refine ⟨by simp, by simp, by simp, by simp, by simpa using hn, by simpa using hh, ?_⟩
    by_cases ho : u.tar.orderOf = .record
    · exact .inr ⟨b, by simp [reportIf_eq, hh, ho]⟩
    · exact .inl (by simp [reportIf_eq, ho])

/-- RECORD holds the tuner for the timer. -/
def recordHeld (s : State) : State :=
  (setHolder .record (s.mapTar fun t => { t with origin := .timer })).mapPwr fun p =>
    { p with deckUp := true, returnTimer := false }

@[simp] theorem recordHeld_frame (s : State) :
    (recordHeld s).mec = s.mec ∧ (recordHeld s).srv = s.srv ∧ (recordHeld s).tsc = s.tsc ∧ (recordHeld s).clk = s.clk ∧
    (recordHeld s).tun = s.tun ∧ (recordHeld s).reports = s.reports ∧ (recordHeld s).tar.holder = .record := by
  simp [recordHeld]

/-- RECORD is requested, and the order given with it. -/
theorem requestRecord_answers (hu : (u.preset n).used = true) (hh : u.tar.holder = .record) (hd : u.pwr.deckUp = true) :
    TunerAnswers n u (requestRecord n u) := by
  have hr : recordTakes u = u := by simp [recordTakes, hh]
  have hw : deckPowerUp (setHolder .record (u.mapTar fun t => { t with origin := .timer })) = recordHeld u :=
    deckPowerUp_up (by simpa using hd)
  have hwu : ((recordHeld u).preset n).used = true := by simpa [State.preset] using hu
  obtain ⟨h1, h2, -, h4, h5⟩ := orderFor_used hwu
  have he : requestRecord n u =
      recordAnswer (orderFor .record (.preset n) (recordHeld u)).1 (orderFor .record (.preset n) (recordHeld u)).2 := by
    rw [← hw, requestRecord, hr]
    rfl
  obtain ⟨a1, a2, a3, a4, a5, a6, a7⟩ := recordAnswer_answers h1 h2 (by rw [h4]; simp)
  rw [he]
  refine ⟨by rw [a1]; simp, by rw [a2]; simp, by rw [a3]; simp, by rw [a4]; simp, a5, a6, ?_⟩
  rw [h5] at a7
  simpa using a7

/-! ### ARMING (R150, R158, R165) -/

/-- The successor is the active occurrence, in ARMING. -/
def armedFor (f : PlanEntry) (s : State) : State :=
  setOccState .arming ((mapSlot f.slot (fun l => l.armed f.date) s).mapTsc fun t => { t with active := some (Active.start f) })

theorem armedFor_spec (f : PlanEntry) (s : State) :
    (armedFor f s).mec = s.mec ∧ (armedFor f s).srv = s.srv ∧ (armedFor f s).tun = s.tun ∧ (armedFor f s).tar = s.tar ∧
    (armedFor f s).clk = s.clk ∧ (armedFor f s).pwr = s.pwr ∧ (armedFor f s).reports = s.reports ∧
    (armedFor f s).tsc.active = some (Active.start f) ∧
    (armedFor f s).tsc.slots = (mapSlot f.slot (fun l => l.armed f.date) s).tsc.slots ∧
    (armedFor f s).tsc.skip = s.tsc.skip ∧ (armedFor f s).tsc.shadow = s.tsc.shadow := by
  have ha : (((mapSlot f.slot (fun l => l.armed f.date) s).mapTsc fun t =>
      { t with active := some (Active.start f) })).tsc.active = some (Active.start f) := rfl
  rw [armedFor, setOccState_eq ha]
  simp [mapEntry, mapActive, Active.start]

theorem armedFor_slot (f : PlanEntry) (s : State) (hf : f.slot < 16) :
    (armedFor f s).slot f.slot = (s.slot f.slot).armed f.date ∧ ∀ m, m ≠ f.slot → (armedFor f s).slot m = s.slot m := by
  obtain ⟨-, -, -, -, -, -, -, -, hsl, -⟩ := armedFor_spec f s
  exact ⟨by rw [slot_of_slots hsl, slot_mapSlot_same _ hf], fun m hm => by rw [slot_of_slots hsl, slot_mapSlot_ne _ hm]⟩

/-- The checks that a successor passes on a deck that it takes over in RECORD_PAUSE. -/
theorem armEntry_passes {tuner : State → State} (hf : f.slot < 16) (hs : s.mec.state = .recordPause) (ho : s.mec.owner = .timer)
    (htab : s.mec.tab ≠ .absent) (hu : (s.preset (s.slot f.slot).preset).used = true) :
    armEntry tuner f s = preRoll tuner f (armedFor f s) := by
  obtain ⟨hm, -, ht, -⟩ := armedFor_spec f s
  obtain ⟨hsl, -⟩ := armedFor_slot f s hf
  have hp : ((armedFor f s).slot f.slot).preset = (s.slot f.slot).preset := by rw [hsl]; rfl
  have hc : armChecks f (armedFor f s) = none := by
    have hu' : ((armedFor f s).preset ((armedFor f s).slot f.slot).preset).used = true := by
      rw [hp]
      simpa [State.preset, ht] using hu
    simp [armChecks, hm, hs, ho, htab, hu', State.hostUses]
  change (match armChecks f (armedFor f s) with
    | some o => reportFirst (.occEnd f.slot f.date o) (armedFor f s)
    | none => preRoll tuner f (armedFor f s)) = _
  rw [hc]

/-- In FAULT the successor is refused at once (R165). -/
theorem armEntry_fault {tuner : State → State} (hs : s.mec.state = .fault) :
    armEntry tuner f s = reportFirst (.occEnd f.slot f.date .deckFault) (armedFor f s) := by
  obtain ⟨hm, -⟩ := armedFor_spec f s
  have hc : armChecks f (armedFor f s) = some .deckFault := by simp [armChecks, hm, hs]
  change (match armChecks f (armedFor f s) with
    | some o => reportFirst (.occEnd f.slot f.date o) (armedFor f s)
    | none => preRoll tuner f (armedFor f s)) = _
  rw [hc]

/-! ### The pre-roll from RECORD_PAUSE (R166, R176) -/

/-- A chained successor takes the grade in use. -/
def graded (f : PlanEntry) (s : State) : State :=
  mapEntry f.slot f.date (fun x => { x with grade := s.mec.grade })
    (mapActive (fun a => { a with grade := s.mec.grade }) s)

@[simp] theorem graded_frame (f : PlanEntry) (s : State) :
    (graded f s).mec = s.mec ∧ (graded f s).srv = s.srv ∧ (graded f s).tun = s.tun ∧ (graded f s).tar = s.tar ∧
    (graded f s).clk = s.clk ∧ (graded f s).pwr = s.pwr ∧ (graded f s).reports = s.reports := by
  simp [graded, mapEntry, mapActive]

/-- The transport is claimed for the successor. -/
def claimed (f : PlanEntry) (s : State) : State := claimTransport (deckPowerUp (graded f s))

theorem claimed_spec (hp : s.mec.pending = none) (ho : s.mec.owner = .timer) (hd : s.pwr.deckUp = true) :
    (claimed f s).mec = { s.mec with idle := false } ∧ (claimed f s).tun = s.tun ∧ (claimed f s).tar = s.tar ∧
    (claimed f s).clk = s.clk ∧ (claimed f s).tsc = (graded f s).tsc ∧ (claimed f s).pwr.entry = s.pwr.entry ∧
    (claimed f s).pwr.deckUp = true ∧ (claimed f s).reports = s.reports := by
  have hup : deckPowerUp (graded f s) = (graded f s).mapPwr fun p => { p with deckUp := true, returnTimer := false } :=
    deckPowerUp_up (by simpa using hd)
  have hmec : (claimed f s).mec = { s.mec with idle := false } := by
    have hp' : (endSeek .abandoned (deckPowerUp (graded f s))).mec.pending = none := by simpa [hup] using hp
    simp only [claimed, claimTransport, hp']
    simp [hup, ← ho]
  refine ⟨hmec, ?_⟩
  simp [claimed, hup]

/-- In RECORD_PAUSE a request for it is reached at once, which TSC is told. -/
theorem timerTarget_paused (g : Grade) (hs : s.mec.state = .recordPause) (hspin : s.mec.spin = false)
    (htab : s.mec.tab ≠ .absent) :
    timerTarget .recordPause g s = report .paused (s.mapMec (Mec.takesTarget (pauseTarget g s.mec))) := by
  have hroute : timerTarget .recordPause g s = report .paused (execTarget (pauseTarget g s.mec) s) := by
    simp [timerTarget, hs, htab, pauseTarget, Target.isRecord]
  have hp : route (pauseTarget g s.mec) s = enterTarget (pauseTarget g s.mec) s := by
    simp [route, routeRecording, hs, pauseTarget]
  have he : enterTarget (pauseTarget g s.mec) s = s.mapMec (Mec.takesTarget (pauseTarget g s.mec)) := by
    have hst : (s.mapMec (Mec.takesTarget (pauseTarget g s.mec))).mec.state = (pauseTarget g s.mec).target.stateOf := hs
    exact if_pos hst
  rw [hroute, execTarget_route (by rw [hs]; rfl) hspin, hp, he]

/-- What the pre-roll of a chained successor leaves in RECORD_PAUSE. -/
structure RolledOn (f : PlanEntry) (n : Nat) (s t : State) : Prop where
  state : t.mec.state = .recordPause
  owner : t.mec.owner = .timer
  grade : t.mec.grade = s.mec.grade
  tsc : t.tsc = (graded f s).tsc
  clk : t.clk = s.clk
  preset : t.tun.tuned.preset = n
  holder : t.tar.holder = .record
  reports : ∃ l, t.reports = s.reports ++ l ++ [.paused] ∧ (l = [] ∨ ∃ b, l = [.tuningPassed b])

theorem preRoll_chained {tuner : State → State} (hs : s.mec.state = .recordPause) (ho : s.mec.owner = .timer)
    (hspin : s.mec.spin = false) (hp : s.mec.pending = none) (htab : s.mec.tab ≠ .absent) (hd : s.pwr.deckUp = true)
    (he : s.pwr.entry = .none) (ht : TunerAnswers n (claimed f s) (tuner (claimed f s))) :
    RolledOn f n s (preRoll tuner f s) := by
  obtain ⟨c1, -, -, c5, c6, c7, -, c9⟩ := claimed_spec (f := f) hp ho hd
  have hroll : preRoll tuner f s = timerTarget .recordPause s.mec.grade (tuner (claimed f s)) := by
    have hhost : (graded f s).hostUses = false := by simp [State.hostUses, ho]
    have hgrade : (if (s.mec.owner == .timer) && s.mec.state.recordPair then s.mec.grade else f.grade) = s.mec.grade := by
      simp [ho, hs, TState.recordPair]
    have hwait : (claimed f s).pwr.entry ≠ .waitRest := by rw [c7, he]; decide
    unfold claimed graded at hwait
    unfold graded at hhost
    simp only [preRoll, hgrade, hhost, Bool.false_eq_true, if_false, if_neg hwait, claimed, graded]
  obtain ⟨t1, t2, t3, t4, t5, t6, t7⟩ := ht
  have hmec : (tuner (claimed f s)).mec = { s.mec with idle := false } := by rw [t1, c1]
  rw [hroll, timerTarget_paused _ (by rw [hmec]; exact hs) (by rw [hmec]; exact hspin) (by rw [hmec]; exact htab)]
  refine ⟨by simp [Mec.takesTarget, hmec, hs], by simp [Mec.takesTarget, hmec, ho], by simp [Mec.takesTarget, hmec],
    by simp [t3, c6], by simp [t4, c5], by simp [t5], by simp [t6], ?_⟩
  rcases t7 with h | ⟨b, h⟩
  · exact ⟨[], by simp [h, c9], .inl rfl⟩
  · exact ⟨[.tuningPassed b], by simp [h, c9], .inr ⟨b, rfl⟩⟩

end

end Sys2Proof.Machine
end

section
/-! A recording whose time is up, with a successor whose window is open: the deck is handed over (R169, R175, R176). -/

namespace Sys2Proof.Machine

section
variable {s t u : State} {a b : Active} {e f : PlanEntry} {run : RunInfo} {n : Nat} {o : OccOutcome}

/-! ### A rebuild while an occurrence is being armed -/

/-- Nothing is trimmed of an occurrence that does not record. -/
theorem trimTaken_waits (ha : s.tsc.active = some b) (hb : b.state ≠ .recording) : trimTaken s = s := by
  unfold trimTaken
  rw [ha]
  cases s.activeEntry with
  | none => rfl
  | some x => simp [hb]

/-- The due entries become NEXT. -/
def PlanEntry.waits (c : Clk) (e : PlanEntry) : PlanEntry := if e.due c then { e with state := .next } else e

/-- With an occurrence active, no entry arms (R164). -/
theorem armingTest_active (ha : s.tsc.active = some b) :
    armingTest s = raiseIf (!(s.tsc.plan.filter (PlanEntry.due s.clk)).isEmpty) .plan
      (s.mapTsc fun t => { t with plan := t.plan.map (PlanEntry.waits s.clk) }) := by
  unfold armingTest
  dsimp only
  rw [ha]
  cases s.tsc.plan.filter (PlanEntry.due s.clk) <;> rfl

/-- The rebuild of a plan whose active occurrence does not record. -/
theorem rebuild_waits (ha : s.tsc.active = some b) (hb : b.state ≠ .recording) :
    rebuild s = raise .plan (armingTest (drawPlan s)) := by
  rw [rebuild, trimTaken_waits (s := drawPlan s) (b := b) (by simp [drawPlan, ha]) hb]

/-- With an occurrence active that does not record, a rebuild changes the plan alone. -/
theorem rebuild_planOnly (ha : s.tsc.active = some b) (hb : b.state ≠ .recording) :
    PlanOnly s (rebuild s) ∧ (rebuild s).reports = s.reports := by
  rw [rebuild_waits ha hb, armingTest_active (s := drawPlan s) (b := b) (by simp [drawPlan, ha])]
  exact ⟨by constructor <;> simp [drawPlan], by simp [drawPlan]⟩

theorem PlanOnly.shadow (h : PlanOnly s t) : t.tsc.shadow = s.tsc.shadow := by rw [h.tsc]

/-! ### The reports that only mark the active occurrence -/

/-- What the reports of the pre-roll make of the record of an occurrence in ARMING under time control. -/
def Report.marks (now : Nat) : Report → Active → Active
  | .leftRecord, a => { a with run := a.run.map fun r => { r with stop := some now } }
  | .paused, a => if a.state = .arming then { a with transportReady := true } else a
  | .tuningPassed b, a => { a with tuned := true, signalSeen := a.signalSeen || b }
  | _, a => a

/-- The reports of a pre-roll. -/
def Report.arms (r : Report) : Prop := r = .leftRecord ∨ r = .paused ∨ ∃ b, r = .tuningPassed b

@[simp] theorem marks_control (now : Nat) (r : Report) (a : Active) : (r.marks now a).control = a.control := by
  cases r with
  | paused =>
    simp only [Report.marks]
    split <;> rfl
  | _ => rfl

theorem preRollTest_time (ha : s.tsc.active = some b) (hc : b.control = .time) : preRollTest s = s := by
  simp [preRollTest, withActive, ha, hc]

theorem takeReport_marks {r : Report} (hr : r.arms) (ha : s.tsc.active = some b) (hc : b.control = .time)
    (hs : s.mec.state = .recordPause) (ho : s.mec.owner = .timer) :
    takeReport r s = mapActive (r.marks s.clk.reading) s := by
  have htest : ∀ r : Report, preRollTest (mapActive (r.marks s.clk.reading) s) = mapActive (r.marks s.clk.reading) s :=
    fun r => preRollTest_time (b := r.marks s.clk.reading b) (by simp [mapActive, ha]) (by simp [hc])
  rcases hr with rfl | rfl | ⟨x, rfl⟩
  · rfl
  · have hp : takeReport .paused s = preRollTest (mapActive (Report.paused.marks s.clk.reading) s) := by
      change pauseReached s = _
      rw [pauseReached, if_pos ⟨hs, ho⟩]
      rfl
    rw [hp, htest]
  · exact htest (.tuningPassed x)

/-- The reports are taken one after the other, and mark the record. -/
theorem settles_marks (l : List Report) (hl : ∀ r ∈ l, r.arms) (b : Active) (hc : b.control = .time) (s : State)
    (hq : s.reports = l) (ha : s.tsc.active = some b) (hs : s.mec.state = .recordPause) (ho : s.mec.owner = .timer) :
    Settles l.length s
      ((s.mapTsc fun t => { t with active := some (l.foldl (fun a r => r.marks s.clk.reading a) b) }).awaits []) := by
  induction l generalizing b s with
  | nil =>
    have hself : (s.mapTsc fun t => { t with active := some b }).awaits [] = s.awaits [] := by
      rw [← ha]; rfl
    rw [List.foldl_nil, hself]
    exact settles_quiet hq
  | cons r rest ih =>
    refine settles_take hq ?_
    rw [takeReport_marks (hl r (by simp)) (by simpa using ha) hc (by simpa using hs) (by simpa using ho)]
    have hnext := ih (fun x hx => hl x (by simp [hx])) (r.marks s.clk.reading b) (by simp [hc])
      (mapActive (r.marks s.clk.reading) (s.awaits rest)) (by simp [mapActive]) (by simp [mapActive, ha])
      (by simpa [mapActive] using hs) (by simpa [mapActive] using ho)
    exact hnext

/-! ### The hand-over (R176) -/

/-- What a recording whose time is up, with a successor to hand the deck to, has. -/
structure HandsOver (a : Active) (e f : PlanEntry) (run : RunInfo) (s : State) : Prop where
  quiet : s.reports = []
  mode : s.pwr.mode = .on
  deckUp : s.pwr.deckUp = true
  entry : s.pwr.entry = .none
  active : s.tsc.active = some a
  plan : s.tsc.plan = [e, f]
  is : e.is a.slot a.date = true
  other : f.is a.slot a.date = false
  bound : a.slot < 16
  successor : f.slot < 16
  control : a.control = .time
  records : a.state = .recording
  remaining : a.remaining = 0
  run : a.run = some run
  next : f.state = .next
  timed : f.control = .time
  set : s.clk.state ≠ .unset
  opened : s.clk.reached f.windowEnd = false
  state : s.mec.state = .record
  owner : s.mec.owner = .timer
  spin : s.mec.spin = false
  pending : s.mec.pending = none
  tab : s.mec.tab ≠ .absent
  used : (s.preset (s.slot f.slot).preset).used = true
  holder : s.tar.holder = .record

/-- The ended occurrence leaves its record and its entry; the successor is the one that is NEXT with its window open. -/
theorem closeActive_successor (hp : s.tsc.plan = [e, f]) (he : e.is a.slot a.date = true) (hf : f.is a.slot a.date = false)
    (hn : f.state = .next) (hu : s.clk.state ≠ .unset) (hw : s.clk.reached f.windowEnd = false) (ho : o.abrupt = false) :
    (closeActive a o s).tsc.plan = [f] ∧ (closeActive a o s).successor o = some f := by
  have hplan : (closeActive a o s).tsc.plan = [f] := by simp [closeActive_eq, hp, he, hf]
  refine ⟨hplan, ?_⟩
  simp [State.successor, ho, hplan, hn, hu, PlanEntry.open, hw]

/-- The slots after an ending, whose record keeps its preset. -/
theorem closeActive_slots (hb : a.slot < 16) :
    (closeActive a o s).slot a.slot = (s.slot a.slot).ended (resultOf a o s) ∧
    (∀ m, m ≠ a.slot → (closeActive a o s).slot m = s.slot m) ∧
    ∀ m, ((closeActive a o s).slot m).preset = (s.slot m).preset := by
  have hsl : (closeActive a o s).tsc.slots = (mapSlot a.slot (Slot.ended (resultOf a o s)) s).tsc.slots := by
    simp [closeActive_eq]
  have hsame : (closeActive a o s).slot a.slot = (s.slot a.slot).ended (resultOf a o s) := by
    rw [slot_of_slots hsl, slot_mapSlot_same _ hb]
  have hne : ∀ m, m ≠ a.slot → (closeActive a o s).slot m = s.slot m := fun m hm => by
    rw [slot_of_slots hsl, slot_mapSlot_ne _ hm]
  refine ⟨hsame, hne, fun m => ?_⟩
  by_cases hm : m = a.slot
  · rw [hm, hsame]; rfl
  · rw [hne m hm]

/-- In RECORD_PAUSE the successor arms and rolls on, with TAR's order given before ARMING or within its request. -/
theorem handOver_rolls (hs : u.mec.state = .record) (ho : u.mec.owner = .timer) (hspin : u.mec.spin = false)
    (htab : u.mec.tab ≠ .absent) (hd : u.pwr.deckUp = true) (hentry : u.pwr.entry = .none) (hh : u.tar.holder = .record)
    (hn : (u.slot f.slot).preset = n) (hf : f.slot < 16) (hu : (u.preset n).used = true) :
    ∃ v, RolledOn f n (armedFor f v) (handOver f u) ∧ v.tsc = u.tsc ∧ v.clk = u.clk ∧ v.mec.state = .recordPause ∧
      v.mec.grade = u.mec.grade ∧ v.reports = u.reports ++ [.leftRecord, .paused] := by
  have hpause : (if u.mec.state = .record ∧ u.mec.owner = .timer then timerTarget .recordPause u.mec.grade u else u) =
      pausedFrom u.mec.grade u := by rw [if_pos ⟨hs, ho⟩, timerTarget_pauses _ hs hspin htab]
  have hpreset : ((pausedFrom u.mec.grade u).slot f.slot).preset = n := by
    rw [slot_of_slots (s := u) (by simp), hn]
  have hused : ((pausedFrom u.mec.grade u).preset n).used = true := by simpa [State.preset] using hu
  have hrep := pausedFrom_reports u.mec.grade hs ho
  by_cases hor : (pausedFrom u.mec.grade u).tar.holder = .record ∧ (pausedFrom u.mec.grade u).tar.origin = .timer
  · -- TAR gives the order with the grant
    obtain ⟨o1, o2, o3, o4, o5⟩ := orderFor_used hused
    have hover : handOver f u = armEntry (recordAnswer (orderFor .record (.preset n) (pausedFrom u.mec.grade u)).1) f
        (orderFor .record (.preset n) (pausedFrom u.mec.grade u)).2 := by
      simp only [handOver, hpause, hpreset, if_pos hor]
    refine ⟨(orderFor .record (.preset n) (pausedFrom u.mec.grade u)).2, ?_, by simp, by simp, by simp, by simp, by rw [o5, hrep]⟩
    have hslot : (((orderFor .record (.preset n) (pausedFrom u.mec.grade u)).2).slot f.slot).preset = n := by
      rw [slot_of_slots (s := pausedFrom u.mec.grade u) (by simp), hpreset]
    have hused' : (((orderFor .record (.preset n) (pausedFrom u.mec.grade u)).2).preset n).used = true := by
      simpa [State.preset, o3] using hused
    obtain ⟨m1, -, m2, m3, -, m4, -⟩ := armedFor_spec f (orderFor .record (.preset n) (pausedFrom u.mec.grade u)).2
    obtain ⟨-, c2, c3, -⟩ := claimed_spec (f := f) (s := armedFor f (orderFor .record (.preset n) (pausedFrom u.mec.grade u)).2)
      (by simp [m1]) (by simp [m1, ho]) (by simp [m4, hd])
    rw [hover, armEntry_passes hf (by simp) (by simp [ho]) (by simpa using htab) (by rw [hslot]; exact hused')]
    refine preRoll_chained (by simp [m1]) (by simp [m1, ho]) (by simp [m1, hspin]) (by simp [m1]) (by simpa [m1] using htab)
      (by simp [m4, hd]) (by simp [m4, hentry]) (recordAnswer_answers o1 (by rw [c2, m2, o2]) ?_)
    rw [c3, m3, o4]
    exact hor.1
  · -- RECORD is requested within the pre-roll
    have hover : handOver f u = armEntry (requestRecord n) f (pausedFrom u.mec.grade u) := by
      simp only [handOver, hpause, hpreset, if_neg hor]
    obtain ⟨m1, -, m2, m3, -, m4, -⟩ := armedFor_spec f (pausedFrom u.mec.grade u)
    obtain ⟨-, c2, c3, -, -, -, c7, -⟩ := claimed_spec (f := f) (s := armedFor f (pausedFrom u.mec.grade u))
      (by simp [m1]) (by simp [m1, ho]) (by simp [m4, hd])
    refine ⟨pausedFrom u.mec.grade u, ?_, by simp, by simp, by simp, by simp, hrep⟩
    rw [hover, armEntry_passes hf (by simp) (by simp [ho]) (by simpa using htab) (by rw [hpreset]; exact hused)]
    refine preRoll_chained (by simp [m1]) (by simp [m1, ho]) (by simp [m1, hspin]) (by simp [m1]) (by simpa [m1] using htab)
      (by simp [m4, hd]) (by simp [m4, hentry]) (requestRecord_answers ?_ (by simp [c3, m3, hh]) c7)
    simpa [State.preset, c2, m2] using hused

end

end Sys2Proof.Machine
end

section
/-! The hand-over to the end of its command: the successor in ARMING, RECORD_PAUSE kept (R176). -/

namespace Sys2Proof.Machine

section
variable {s t : State} {a : Active} {e f : PlanEntry} {run : RunInfo}

/-- The outcome of a recording that ran its time. -/
def timedOutcome (e : PlanEntry) : OccOutcome := if e.conflict = .trimmedEnd then .truncated else .complete

theorem timedOutcome_abrupt (e : PlanEntry) : (timedOutcome e).abrupt = false := by
  unfold timedOutcome; split <;> rfl

/-- The time is up, and the deck goes to the successor before the plan is rebuilt. -/
theorem exec_timeUp_handsOver (h : HandsOver a e f run s) :
    exec .recordingTimeUp s = done (rebuild (handOver f (closeActive a (timedOutcome e) s))) := by
  have hentry : s.entry a.slot a.date = some e := by simp [State.entry, h.plan, h.is]
  have hsucc := (closeActive_successor (o := timedOutcome e) h.plan h.is h.other h.next h.set h.opened
    (timedOutcome_abrupt e)).2
  have hover : timeIsUp s = endActive (timedOutcome e) s := by
    simp [timeIsUp, withActive, h.active, h.control, h.records, h.remaining, hentry, timeUpOutcome, timedOutcome]
  change done (when (s.pwr.mode != .backup) timeIsUp s) = _
  rw [when, if_pos (by simp [h.mode]), hover]
  simp only [endActive, h.active, hsucc]

/-- The record of the successor as it is armed at the grade in use. -/
def Active.chained (f : PlanEntry) (g : Grade) : Active := { Active.start f with grade := g }

/-- The deck after the hand-over, before its reports are taken. -/
theorem handOver_spec (h : HandsOver a e f run s) :
    let w := handOver f (closeActive a (timedOutcome e) s)
    w.mec.state = .recordPause ∧ w.mec.owner = .timer ∧ w.mec.grade = s.mec.grade ∧ w.clk = s.clk ∧
      w.tun.tuned.preset = (s.slot f.slot).preset ∧ w.tar.holder = .record ∧ w.tsc.shadow = s.tsc.shadow ∧
      w.tsc.active = some (Active.chained f s.mec.grade) ∧
      (w.slot a.slot).result = some (resultOf a (timedOutcome e) s) ∧ (w.slot f.slot).lastRun = some f.date ∧
      ∃ l, w.reports = [.leftRecord, .paused] ++ l ++ [.paused] ∧ (l = [] ∨ ∃ b, l = [.tuningPassed b]) := by
  obtain ⟨hsame, hne, hpre⟩ := closeActive_slots (s := s) (a := a) (o := timedOutcome e) h.bound
  have hused : ((closeActive a (timedOutcome e) s).preset (s.slot f.slot).preset).used = true := by
    simpa [State.preset] using h.used
  obtain ⟨v, hroll, hvtsc, hvclk, -, hvgrade, hvrep⟩ := handOver_rolls (f := f) (u := closeActive a (timedOutcome e) s)
    (by simp [h.state]) (by simp [h.owner]) (by simp [h.spin]) (by simpa using h.tab) (by simp [h.deckUp]) (by simp [h.entry])
    (by simp [h.holder]) (hpre f.slot) h.successor hused
  obtain ⟨m1, -, -, -, m5, -, m7, m8, -, -, m11⟩ := armedFor_spec f v
  obtain ⟨hfslot, hoslot⟩ := armedFor_slot f v h.successor
  have hslots : ∀ m, (handOver f (closeActive a (timedOutcome e) s)).slot m = (armedFor f v).slot m := fun m =>
    slot_of_slots (by rw [hroll.tsc]; simp [graded, mapEntry, mapActive]) m
  have hv : ∀ m, v.slot m = (closeActive a (timedOutcome e) s).slot m := fun m => slot_of_slots (by rw [hvtsc]) m
  refine ⟨hroll.state, hroll.owner, by rw [hroll.grade, m1, hvgrade]; simp, by rw [hroll.clk, m5, hvclk]; simp, hroll.preset,
    hroll.holder, ?_, ?_, ?_, ?_, ?_⟩
  · rw [hroll.tsc]
    simp [graded, mapEntry, mapActive, m11, hvtsc, closeActive_eq]
  · rw [hroll.tsc]
    simp [graded, mapEntry, mapActive, m8, m1, hvgrade, Active.chained]
  · rw [hslots]
    by_cases hf : a.slot = f.slot
    · rw [hf, hfslot, hv, ← hf, hsame]; rfl
    · rw [hoslot _ hf, hv, hsame]; rfl
  · rw [hslots, hfslot]; rfl
  · obtain ⟨l, hl, hlt⟩ := hroll.reports
    have hc : (closeActive a (timedOutcome e) s).reports = [] := by simp [h.quiet]
    exact ⟨l, by rw [hl, m7, hvrep, hc]; rfl, hlt⟩

/-- A recording whose time is up hands the deck to the occurrence that is NEXT. -/
theorem recordingTimeUp_handsOver (h : HandsOver a e f run s) :
    ∃ t b, exec .recordingTimeUp s = .next t ∧ t.tsc.active = some b ∧ b.slot = f.slot ∧ b.date = f.date ∧
      b.state = .arming ∧ b.grade = s.mec.grade ∧ b.recorded = false ∧ b.transportReady = true ∧
      (t.slot a.slot).result = some (resultOf a (timedOutcome e) s) ∧
      (t.slot f.slot).lastRun = some f.date ∧ t.mec.state = .recordPause ∧ t.mec.owner = .timer ∧
      t.mec.grade = s.mec.grade ∧ t.tar.holder = .record ∧ t.tun.tuned.preset = (s.slot f.slot).preset ∧
      t.tsc.shadow = s.tsc.shadow ∧ t.clk = s.clk := by
  obtain ⟨w1, w2, w3, w4, w5, w6, w7, w8, w9, w10, l, hl, hlt⟩ := handOver_spec h
  obtain ⟨hp, hrep⟩ := rebuild_planOnly w8 (by simp [Active.chained, Active.start])
  have harms : ∀ r ∈ [Report.leftRecord, Report.paused] ++ l ++ [Report.paused], r.arms := by
    rcases hlt with rfl | ⟨b, rfl⟩ <;> simp [Report.arms]
  have hset := settles_marks _ harms (Active.chained f s.mec.grade) h.timed _ (hrep.trans hl) (hp.active.trans w8)
    (by rw [hp.mec, w1]) (by rw [hp.mec, w2])
  have hlen : ([Report.leftRecord, Report.paused] ++ l ++ [Report.paused]).length ≤ Config.reportBound := by
    have hone : l.length ≤ 1 := by rcases hlt with rfl | ⟨b, rfl⟩ <;> simp
    simp only [List.length_append, List.length_cons, List.length_nil, Config.reportBound]
    omega
  have hmarks : ∀ now : Nat, ∃ b, ([Report.leftRecord, Report.paused] ++ l ++ [Report.paused]).foldl
      (fun a (r : Report) => r.marks now a) (Active.chained f s.mec.grade) = b ∧ b.slot = f.slot ∧ b.date = f.date ∧
      b.state = .arming ∧ b.grade = s.mec.grade ∧ b.recorded = false ∧ b.transportReady = true := fun now => by
    rcases hlt with rfl | ⟨x, rfl⟩ <;> simp [Report.marks, Active.chained, Active.start]
  obtain ⟨b, hb, b1, b2, b3, b4, b5, b6⟩ := hmarks (rebuild (handOver f (closeActive a (timedOutcome e) s))).clk.reading
  rw [hb] at hset
  refine ⟨_, b, (exec_timeUp_handsOver h).trans (done_of_settles hset hlen), by simp, b1, b2, b3, b4, b5, b6,
    ?_, ?_, by simp [hp.mec, w1], by simp [hp.mec, w2], by simp [hp.mec, w3],
    by simp [hp.tar, w6], by simp [hp.tun, w5], by simp [hp.shadow, w7], by simp [hp.clk, w4]⟩
  · rw [transmit_slot, slot_of_slots (t := (State.mapTsc _ _).awaits []) (s := handOver f (closeActive a (timedOutcome e) s))
      (by simp [hp.slots]), w9]
  · rw [transmit_slot, slot_of_slots (t := (State.mapTsc _ _).awaits []) (s := handOver f (closeActive a (timedOutcome e) s))
      (by simp [hp.slots]), w10]

end

end Sys2Proof.Machine
end

section
/-! SUPPORT. A rebuild that finds nothing to draw while an occurrence is active (R159 to R163). -/

namespace Sys2Proof.Machine

section
variable {s t : State} {b : Active} {n date : Nat}

/-- Where the slots call for nothing, the active entry is all that is selected. -/
theorem selectPlan_activeAlone (hd : ∀ n, drawSlot s n = []) : selectPlan s = s.activeEntry.toList := by
  have hf : (if s.clk.state = .unset then [] else (List.range 16).flatMap (drawSlot s)) = [] := by
    simp [List.flatMap_eq_nil_iff, hd]
  cases ha : s.activeEntry with
  | none => simp [selectPlan, hf, ha, sortPlan]
  | some x => simp [selectPlan, hf, ha, sortPlan, insertEntry, PlanEntry.is]

/-- The passes keep the one entry of a plan, but for what they compute of it. -/
theorem fitPass_single (x : PlanEntry) (hx : x.is b.slot b.date = true) :
    ∀ y ∈ fitPass s [x], y.is b.slot b.date = true := by
  have hy : fitPass s [x] = [(fitStep s { length := s.tpe.ls, before := none } x).2] := rfl
  rw [hy]
  simp only [List.mem_singleton, forall_eq, fitStep]
  split <;> simpa [PlanEntry.is] using hx

theorem conflictPass_active (x : PlanEntry) (hx : s.isActive x = true) : conflictPass s [x] = [x] := by
  simp [conflictPass, hx, sortPlan, insertEntry]

/-- After the rebuild the active entry is the whole plan. -/
theorem rebuild_activeAlone (ha : s.tsc.active = some b) (hb : b.state ≠ .recording) (hd : ∀ n, drawSlot s n = []) :
    ∀ x ∈ (rebuild s).tsc.plan, x.is b.slot b.date = true := by
  have hdraw : ∀ x ∈ (drawPlan s).tsc.plan, x.is b.slot b.date = true := by
    change ∀ x ∈ fitPass s (conflictPass s (selectPlan s)), _
    rw [selectPlan_activeAlone hd]
    cases he : s.activeEntry with
    | none => simp [conflictPass, fitPass, fitWalk, sortPlan]
    | some y =>
      have hy : y.is b.slot b.date = true := by
        simp only [State.activeEntry, ha, Option.bind_some, State.entry] at he
        exact List.find?_some (p := fun e : PlanEntry => e.is b.slot b.date) he
      rw [Option.toList_some, conflictPass_active y (by simpa [State.isActive, ha] using hy)]
      exact fitPass_single y hy
  have hplan : (rebuild s).tsc.plan = (drawPlan s).tsc.plan.map (PlanEntry.waits (drawPlan s).clk) := by
    rw [rebuild_waits ha hb, armingTest_active (s := drawPlan s) (b := b) (by simp [drawPlan, ha])]
    simp
  rw [hplan]
  intro y hy
  obtain ⟨x, hx, rfl⟩ := List.mem_map.mp hy
  unfold PlanEntry.waits
  split <;> exact hdraw x hx

/-- A slot for one date calls for nothing more once its run guard is at that date (R150, R161). -/
theorem drawSlot_armed (hl : t.slot n = (s.slot n).armed date) (ho : (s.slot n).recurrence = .once)
    (hdate : (s.slot n).once = date) : drawSlot t n = [] := by
  have hg : ((s.slot n).armed date).guarded date = true := by
    unfold Slot.guarded Slot.armed
    cases (s.slot n).guard <;> simp
  have hcalls : ∀ d, ((s.slot n).armed date).callsFor d = true → d = date := fun d hc => by
    have : ((s.slot n).armed date).callsFor d = ((s.slot n).once == d) := by simp [Slot.callsFor, Slot.armed, ho]
    rw [this, hdate] at hc
    exact (beq_iff_eq.mp hc).symm
  simp only [drawSlot, hl]
  split
  · rw [List.filter_eq_nil_iff]
    intro x hx
    obtain ⟨d, hd, rfl⟩ := List.mem_map.mp (List.mem_filter.mp hx).1
    have : (occurrenceOf t.clk n ((s.slot n).armed date) d).date = date := hcalls d (List.mem_filter.mp hd).2
    simp [this, hg]
  · rfl

end

end Sys2Proof.Machine
end

section
/-! The pre-roll that meets a motion timeout, and the successor whose check meets the FAULT (R22, R165, R176, R178). -/

namespace Sys2Proof.Machine

/-- An occurrence in ARMING on a deck that threads for it, with a successor for one date whose window is open. -/
structure PreRollFaults (a : Active) (e f : PlanEntry) (s : State) : Prop where
  quiet : s.reports = []
  mode : s.pwr.mode = .on
  deckUp : s.pwr.deckUp = true
  entry : s.pwr.entry = .none
  active : s.tsc.active = some a
  plan : s.tsc.plan = [e, f]
  is : e.is a.slot a.date = true
  bound : a.slot < 16
  successor : f.slot < 16
  other : f.slot ≠ a.slot
  arming : a.state = .arming
  run : a.run = none
  next : f.state = .next
  set : s.clk.state ≠ .unset
  opened : s.clk.reached f.windowEnd = false
  state : s.mec.state = .threading
  timer : s.mec.motionTimer.isSome
  owner : s.mec.owner = .timer
  used : (s.preset (s.slot f.slot).preset).used = true
  holder : s.tar.holder = .record
  origin : s.tar.origin = .timer
  remembered : s.tar.remembered = false
  syncWait : s.tar.syncWait = false
  draws : ∀ n, n ≠ f.slot → drawSlot s n = []
  recurrence : (s.slot f.slot).recurrence = .once
  once : (s.slot f.slot).once = f.date

/-- The deck in FAULT as the end of the occurrence is taken. -/
def faulted (s : State) : State := ((enterFault .motionTimeout s).awaits [.deckFault]).awaits []

theorem enterFault_owner (c : FaultCause) (s : State) : (enterFault c s).mec.owner = s.mec.owner := by
  simp [enterFault, Mec.enters, Mec.entered]

@[simp] theorem faulted_frame (s : State) :
    (faulted s).tsc = s.tsc ∧ (faulted s).clk = s.clk ∧ (faulted s).tun = s.tun ∧ (faulted s).tar = s.tar ∧
    (faulted s).pwr = s.pwr ∧ (faulted s).reports = [] ∧ (faulted s).mec.state = .fault ∧
    (faulted s).mec.owner = s.mec.owner := by
  simp [faulted, (enterFault_faulted .motionTimeout s).state, enterFault_owner]

/-- The order of the hand-over, given in FAULT too (R102). -/
def faultOrder (a : Active) (f : PlanEntry) (s : State) : State :=
  (orderFor .record (.preset (s.slot f.slot).preset) (closeActive a .deckFault (faulted s))).2

/-- The successor in ARMING, its end reported, before the plan is rebuilt. -/
def chainArmed (a : Active) (f : PlanEntry) (s : State) : State :=
  reportFirst (.occEnd f.slot f.date .deckFault) (armedFor f (faultOrder a f s))

section
variable {s t : State} {a : Active} {e f : PlanEntry}

theorem PreRollFaults.other_is (h : PreRollFaults a e f s) : f.is a.slot a.date = false := by
  simp [PlanEntry.is, h.other]

/-- The successor enters ARMING in FAULT, which its first check refuses. -/
theorem handOver_faulted (h : PreRollFaults a e f s) :
    handOver f (closeActive a .deckFault (faulted s)) = chainArmed a f s := by
  obtain ⟨-, -, hpre⟩ := closeActive_slots (s := faulted s) (a := a) (o := .deckFault) h.bound
  have hp : ((closeActive a .deckFault (faulted s)).slot f.slot).preset = (s.slot f.slot).preset := by
    rw [hpre, slot_of_slots (s := s) (by simp)]
  have hgrant : (closeActive a .deckFault (faulted s)).tar.holder = .record ∧
      (closeActive a .deckFault (faulted s)).tar.origin = .timer := by simp [h.holder, h.origin]
  have hno : ¬ ((closeActive a .deckFault (faulted s)).mec.state = .record ∧
      (closeActive a .deckFault (faulted s)).mec.owner = .timer) := by simp
  simp only [handOver, if_neg hno, hp, if_pos hgrant]
  exact armEntry_fault (by simp)

/-- The ending of the occurrence whose pre-roll has failed hands the deck over. -/
theorem endActive_faulted (h : PreRollFaults a e f s) :
    endActive .deckFault (faulted s) = rebuild (chainArmed a f s) := by
  have hsucc := (closeActive_successor (s := faulted s) (o := .deckFault) (by simpa using h.plan) h.is h.other_is h.next
    (by simpa using h.set) (by simpa using h.opened) rfl).2
  rw [← handOver_faulted h]
  simp only [endActive, faulted_frame, h.active, hsucc]

/-- What the chain leaves of the deck and the slots as the successor is armed. -/
structure ChainArmed (a : Active) (f : PlanEntry) (s w : State) : Prop where
  reports : w.reports = [.occEnd f.slot f.date .deckFault]
  active : w.tsc.active = some (Active.start f)
  ended : w.slot a.slot = (s.slot a.slot).ended (resultOf a .deckFault (faulted s))
  armed : w.slot f.slot = (s.slot f.slot).armed f.date
  others : ∀ n, n ≠ a.slot → n ≠ f.slot → w.slot n = s.slot n
  skip : w.tsc.skip = s.tsc.skip
  state : w.mec.state = .fault
  owner : w.mec.owner = .timer
  holder : w.tar.holder = .record
  remembered : w.tar.remembered = false
  syncWait : w.tar.syncWait = false
  preset : w.tun.tuned.preset = (s.slot f.slot).preset
  clk : w.clk = s.clk
  pwr : w.pwr = s.pwr

/-- The order changes the tuner alone, and the grant stays. -/
theorem faultOrder_spec (h : PreRollFaults a e f s) :
    (faultOrder a f s).mec = (faulted s).mec ∧ (faultOrder a f s).tsc = (closeActive a .deckFault (faulted s)).tsc ∧
    (faultOrder a f s).tun.tuned.preset = (s.slot f.slot).preset ∧
    (faultOrder a f s).tar = { s.tar with orderOf := .record } ∧ (faultOrder a f s).clk = s.clk ∧
    (faultOrder a f s).pwr = s.pwr ∧ (faultOrder a f s).reports = [] := by
  have hused : ((closeActive a .deckFault (faulted s)).preset (s.slot f.slot).preset).used = true := by
    simpa [State.preset] using h.used
  obtain ⟨-, hpreset, -, htar, hrep⟩ := orderFor_used hused
  exact ⟨by simp [faultOrder], by simp [faultOrder], hpreset, by rw [faultOrder, htar]; simp, by simp [faultOrder],
    by simp [faultOrder], by rw [faultOrder, hrep]; simp⟩

theorem chainArmed_spec (h : PreRollFaults a e f s) : ChainArmed a f s (chainArmed a f s) := by
  obtain ⟨hsame, hne, -⟩ := closeActive_slots (s := faulted s) (a := a) (o := .deckFault) h.bound
  obtain ⟨o1, o2, o3, o4, o5, o6, o7⟩ := faultOrder_spec h
  have hfs : ∀ n, (faulted s).slot n = s.slot n := slot_of_slots (by simp)
  have hos : ∀ n, (faultOrder a f s).slot n = (closeActive a .deckFault (faulted s)).slot n := slot_of_slots (by rw [o2])
  obtain ⟨m1, -, m2, m3, m4, m5, m6, m7, -, m9, -⟩ := armedFor_spec f (faultOrder a f s)
  obtain ⟨hf, hother⟩ := armedFor_slot f (faultOrder a f s) h.successor
  have hslot : ∀ n, (chainArmed a f s).slot n = (armedFor f (faultOrder a f s)).slot n := slot_of_slots (by simp [chainArmed])
  constructor
  case ended => rw [hslot, hother _ (Ne.symm h.other), hos, hsame, hfs]
  case armed => rw [hslot, hf, hos, hne _ h.other, hfs]
  case others =>
    intro n ha hn
    rw [hslot, hother _ hn, hos, hne _ ha, hfs]
  case reports => simp [chainArmed, reportFirst, m6, o7]
  case skip => simp [chainArmed, m9, o2, closeActive_eq]
  case active => simp [chainArmed, m7]
  case state => simp [chainArmed, m1, o1]
  case owner => simp [chainArmed, m1, o1, h.owner]
  case holder => simp [chainArmed, m3, o4, h.holder]
  case remembered => simp [chainArmed, m3, o4, h.remembered]
  case syncWait => simp [chainArmed, m3, o4, h.syncWait]
  case preset => simp [chainArmed, m2, o3]
  case clk => simp [chainArmed, m4, o5]
  case pwr => simp [chainArmed, m5, o6]

/-- No slot calls for anything more: the successor's own is guarded. -/
theorem ChainArmed.draws (hw : ChainArmed a f s t) (h : PreRollFaults a e f s) (n : Nat) : drawSlot t n = [] := by
  by_cases hf : n = f.slot
  · rw [hf]
    exact drawSlot_armed hw.armed h.recurrence h.once
  · rw [drawSlot_ended (s := s) (r := resultOf a .deckFault (faulted s)) ?_ hw.clk hw.skip, h.draws n hf]
    by_cases ha : n = a.slot
    · exact .inl (by rw [ha, hw.ended])
    · exact .inr (hw.others n ha hf)

/-- The pre-roll that meets a motion timeout ends its occurrence and its successor DECK_FAULT, and the deck is given back. -/
theorem motionTimeout_chain (h : PreRollFaults a e f s) :
    ∃ t, exec .motionTimeout s = .next t ∧ t.tsc.active = none ∧ t.tsc.plan = [] ∧
      (t.slot a.slot).result =
        some { date := a.date, outcome := .deckFault, run := none, doubtful := a.doubtful, noSignal := a.noSignal } ∧
      (t.slot f.slot).result =
        some { date := f.date, outcome := .deckFault, run := none, doubtful := false, noSignal := false } ∧
      t.tun.tuned.preset = (s.slot f.slot).preset ∧ t.mec.state = .fault ∧ t.mec.owner = .host ∧ t.tar.holder = .none ∧
      t.clk = s.clk := by
  have hw := chainArmed_spec h
  obtain ⟨hp, hrep⟩ := rebuild_planOnly hw.active (by simp [Active.start])
  have hdraws : ∀ n, drawSlot (rebuild (chainArmed a f s)) n = [] := fun n => by
    rw [drawSlot_congr (hp.slot n) hp.clk (by rw [hp.tsc]), hw.draws h n]
  have halone : (rebuild (chainArmed a f s)).Alone (Active.start f) :=
    ⟨by rw [hp.active, hw.active], rebuild_activeAlone hw.active (by simp [Active.start]) (hw.draws h), h.successor, hdraws⟩
  have hholds : (rebuild (chainArmed a f s)).TimerHolds :=
    ⟨by rw [hp.mec, hw.owner], by rw [hp.tar, hw.holder], by rw [hp.tar, hw.remembered], by rw [hp.tar, hw.syncWait],
      by rw [hp.pwr, hw.pwr, h.mode]⟩
  -- the report of the successor's check ends it
  obtain ⟨n, t, hn, hset, hover⟩ := settles_cause (o := .deckFault) (hrep.trans hw.reports) halone hholds
    (by rw [hp.pwr, hw.pwr, h.entry]) (by rw [hp.mec, hw.state]; rfl)
    (by simp [takeReport, endOccurrence, withActive, halone.active, Active.start]) (.inl rfl)
  -- FAULT is a rest, and is reported to TSC, which ends the occurrence
  have hfault : (enterFault .motionTimeout s).reports = [.rest, .deckFault] := by
    simpa [h.quiet] using enterFault_reports (c := .motionTimeout) (s := s) (by rw [h.state]; rfl)
  have hrest : takeReport .rest ((enterFault .motionTimeout s).awaits [.deckFault]) =
      (enterFault .motionTimeout s).awaits [.deckFault] :=
    idle_rest (by simp [h.mode]) (by simp [h.entry]) [.deckFault]
  have hend : takeReport .deckFault (faulted s) = rebuild (chainArmed a f s) := by
    have he := endWhile_eq (states := activeStates) (o := .deckFault) (a := a) (s := faulted s) (by simp [h.active])
      (by rw [h.arming]; rfl)
    exact he.trans (endActive_faulted h)
  have hset' : Settles (n + 1 + 1) (enterFault .motionTimeout s) t :=
    settles_take hfault (by rw [hrest]; exact settles_take rfl (by rw [← hend] at hset; exact hset))
  refine ⟨transmit t, ?_, by simp [hover.active], by simp [hover.plan], ?_, ?_, by simp [hover.tun, hp.tun, hw.preset], ?_,
    by simp [hover.owner], by simp [hover.holder], by simp [hover.clk, hp.clk, hw.clk]⟩
  · rw [exec_motionTimeout, when_powered h.mode h.deckUp, motionTimeout, h.timer, when_true]
    exact done_of_settles hset' (by unfold Config.reportBound; omega)
  · rw [transmit_slot, hover.others a.slot (Ne.symm h.other), hp.slot, hw.ended]
    simp [Slot.ended, resultOf, h.run]
  · have he := hover.ended
    change t.slot f.slot = _ at he
    rw [transmit_slot, he]
    simp [Slot.ended, resultOf, Active.start]
  · simp [hover.state, hp.mec, hw.state, TState.recordPair]

end

end Sys2Proof.Machine
end

section
/-! O51, assembled from its rows. -/

namespace Sys2Proof.Machine

section
variable {a : Active} {run : RunInfo} {s t : State} {o : OccOutcome} {n : TState}

/-- The outcomes that a recording ends with by itself are completions or failures, and a failure sets OCCURRENCE_FAILED. -/
theorem RecordingEnded.asStated (h : RecordingEnded a run s o n t) (ho : o.completes || o.fails) :
    t.tsc.active = none ∧ t.tsc.plan = [] ∧
    (t.slot a.slot).result =
      some { date := a.date, outcome := o, run := some { run with stop := some s.clk.reading }, doubtful := a.doubtful,
             noSignal := a.noSignal } ∧
    (t.slot a.slot).count =
      (if o = .complete ∨ o = .truncated then min 255 ((s.slot a.slot).count + 1) else (s.slot a.slot).count) ∧
    (o ≠ .complete → o ≠ .truncated → t.stickySet .occurrenceFailed = true) ∧
    (∀ n, n ≠ a.slot → t.slot n = s.slot n) ∧ t.tsc.shadow = none ∧
    t.tsc.restored = (if s.tsc.shadow.isSome then s.tsc.shadow else s.tsc.restored) ∧
    t.mec.owner = .host ∧ t.mec.state = n ∧ t.tar.holder = .none ∧ t.clk = s.clk ∧ t.tun = s.tun := by
  have hiff : o.completes = true ↔ o = .complete ∨ o = .truncated := by cases o <;> decide
  refine ⟨h.active, h.plan, h.result, ?_, fun h1 h2 => h.sticky ?_, h.others, h.shadow, h.restored, h.owner, h.state, h.holder,
    h.clk, h.tun⟩
  · rw [h.count]
    exact if_congr hiff rfl rfl
  · have hno : o.completes = false := Bool.eq_false_iff.mpr fun hc => (hiff.mp hc).elim h1 h2
    simpa [hno] using ho

end

end Sys2Proof.Machine

namespace Sys2Proof.Proofs
open Sys2Proof.Machine

/-- Settles O51, from the rows that end a recording, the hand-over and the chain into FAULT. -/
theorem recordingsEnd : Obligations.RecordingsEnd := by
  refine ⟨?ends, ?handsOver, ?chain⟩
  case ends =>
    intro a e run s hq hm hd he ha hp h1 h2 hb h3 h4 h5 hr hs ho hpend hspin hh hrem hsy hw hdr
    have h : TimerRecords a e run s := ⟨hq, hm, hd, he, ha, hp, h1, h2, hb, h3, h4, h5, hr, hs, ho, hpend, hspin, hh, hrem, hsy,
      hdr⟩
    refine ⟨fun hc hz => ?_, fun hc ht hx => ?_, fun hc hx => ?_, fun hl hx => ?_, fun hx => ?_, fun d c p hx hq he hn => ?_,
      fun bytes k hlen hodd hsig hc hlab _ hpre hsel htab hty hnet hk => ⟨fun hst => ?_, fun hst => ?_⟩,
      recordingTimeUp_idle h, labelTrimmedStop_idle h, windowEnd_idle h⟩
    · obtain ⟨t, ht, hend⟩ := recordingTimeUp_ends h hc hz
      exact ⟨t, ht, hend.asStated (by split <;> rfl)⟩
    · obtain ⟨t, ht, hend⟩ := labelTrimmedStop_ends h hc ht hx
      exact ⟨t, ht, hend.asStated rfl⟩
    · obtain ⟨t, ht, hend⟩ := windowEnd_ends h hc hx
      exact ⟨t, ht, hend.asStated rfl⟩
    · obtain ⟨t, ht, hend⟩ := endSensor_ends h hl hx
      exact ⟨t, ht, hend.asStated rfl⟩
    · obtain ⟨t, ht, hend⟩ := reelStall_ends h hx
      exact ⟨t, ht, hend.asStated rfl⟩
    · have hout : phaseIn d = false := Bool.eq_false_iff.mpr fun hi => by
        have := phaseIn_iff.mp hi
        omega
      obtain ⟨t, ht, hend⟩ := lostLock_ends (c := c) (p := p) h hx hq he (by rw [hout]; rfl)
      exact ⟨t, ht, hend.asStated rfl⟩
    · obtain ⟨t, ht, hend⟩ := labelEnds h ⟨hlen, hodd, hsig, hc, hpre, hsel, hty, hnet, k, hlab, hk⟩ hst
      exact ⟨t, ht, hend.asStated rfl⟩
    · exact labelBreaks h ⟨hlen, hodd, hsig, hc, hpre, hsel, hty, hnet, k, hlab, hk⟩ htab hst
  case handsOver =>
    intro a e f run s hq hm hd he ha hp h1 h2 hb hf hne hc hst hz hr hn hfc hset hop hs ho hspin hpend htab hu hh
    have h : HandsOver a e f run s := ⟨hq, hm, hd, he, ha, hp, by simp [PlanEntry.is, h1, h2],
      by simpa [PlanEntry.is, ← not_and_or] using hne, hb, hf, hc, hst, hz, hr, hn, hfc,
      hset, hop, hs, ho, hspin, hpend, htab, hu, hh⟩
    have hres : resultOf a (timedOutcome e) s =
        { date := a.date, outcome := if e.conflict = .trimmedEnd then .truncated else .complete,
          run := some { run with stop := some s.clk.reading }, doubtful := a.doubtful, noSignal := a.noSignal } := by
      simp [resultOf, hr, stopNow, hs, timedOutcome]
    have hover := recordingTimeUp_handsOver h
    rwa [hres] at hover
  case chain =>
    intro a e f s hq hm hd he ha hp h1 h2 hb hf hne hst hr hn hset hop hs ht ho hu hh hor hrem hsy hdr hrec honce
    exact motionTimeout_chain ⟨hq, hm, hd, he, ha, hp, by simp [PlanEntry.is, h1, h2], hb, hf, hne, hst, hr, hn, hset, hop, hs,
      ht, ho, hu, hh, hor, hrem, hsy, hdr, hrec, honce⟩

end Sys2Proof.Proofs
end

section
/-! SUPPORT. The ranges of the tape path and the timer, and the operations of SRV, CTU and TPE that keep them. -/

namespace Sys2Proof.Machine

/-! ### The ranges -/

/-- The three groups of ranges, each of which every step keeps by itself. -/
inductive TapeRange where
  | servo | counter | remaining

/-- The ranges of a group hold. -/
def TapeRange.Holds : TapeRange → State → Prop
  | .servo, s => ServoInv s
  | .counter, s => CounterInv s ∧ SkipInv s
  | .remaining, s => RemainingInv s

section
variable {r : TapeRange} {s t : State}

/-- What the ranges speak of may only shrink or go. -/
theorem TapeRange.Holds.of_ranges (h : r.Holds s) (he : t.srv.err = s.srv.err) (hq : t.srv.quality = s.srv.quality)
    (hr : t.srv.run = s.srv.run) (hv : t.ctu.value = s.ctu.value) (hm : t.ctu.mValue = s.ctu.mValue)
    (hu : t.ctu.unread ≤ s.ctu.unread) (hw : t.ctu.window.length ≤ s.ctu.window.length)
    (hk : t.tsc.skip.length ≤ s.tsc.skip.length) (ha : ∀ a, t.tsc.active = some a → s.tsc.active = some a) :
    r.Holds t := by
  cases r
  case servo => simpa [TapeRange.Holds, ServoInv, he, hq, hr] using h
  case counter =>
    obtain ⟨⟨hvs, hms, hus, hws⟩, hks⟩ := h
    exact ⟨⟨hv ▸ hvs, hm ▸ hms, hu.trans hus, hw.trans hws⟩, hk.trans hks⟩
  case remaining => exact fun a hat => h a (ha a hat)

/-- The ranges speak of SRV, CTU and TSC alone. -/
theorem TapeRange.Holds.of_records (h : r.Holds s) (ht : t.srv = s.srv ∧ t.ctu = s.ctu ∧ t.tsc = s.tsc) : r.Holds t := by
  obtain ⟨hsrv, hctu, htsc⟩ := ht
  exact h.of_ranges (by rw [hsrv]) (by rw [hsrv]) (by rw [hsrv]) (by rw [hctu]) (by rw [hctu]) (by rw [hctu]) (by rw [hctu])
    (by rw [htsc]) (by rw [htsc]; exact fun _ => id)

/-! ### Updates of one block -/

theorem holds_mapMec (f : Mec → Mec) (h : r.Holds s) : r.Holds (s.mapMec f) := h.of_records (by simp)
theorem holds_mapTpe (f : Tpe → Tpe) (h : r.Holds s) : r.Holds (s.mapTpe f) := h.of_records (by simp)
theorem holds_mapTun (f : Tun → Tun) (h : r.Holds s) : r.Holds (s.mapTun f) := h.of_records (by simp)
theorem holds_mapTar (f : Tar → Tar) (h : r.Holds s) : r.Holds (s.mapTar f) := h.of_records (by simp)
theorem holds_mapDld (f : Dld → Dld) (h : r.Holds s) : r.Holds (s.mapDld f) := h.of_records (by simp)
theorem holds_mapClk (f : Clk → Clk) (h : r.Holds s) : r.Holds (s.mapClk f) := h.of_records (by simp)
theorem holds_mapPwr (f : Pwr → Pwr) (h : r.Holds s) : r.Holds (s.mapPwr f) := h.of_records (by simp)
theorem holds_mapLnk (f : Lnk → Lnk) (h : r.Holds s) : r.Holds (s.mapLnk f) := h.of_records (by simp)
theorem holds_mapPins (f : Pins → Pins) (h : r.Holds s) : r.Holds (s.mapPins f) := h.of_records (by simp)

/-- SRV may change what its ranges do not speak of. -/
theorem holds_mapSrv {f : Srv → Srv} (h : r.Holds s)
    (hf : (f s.srv).err = s.srv.err ∧ (f s.srv).quality = s.srv.quality ∧ (f s.srv).run = s.srv.run) : r.Holds (s.mapSrv f) :=
  h.of_ranges hf.1 hf.2.1 hf.2.2 rfl rfl le_rfl le_rfl le_rfl fun _ => id

/-- CTU may change what its ranges do not speak of, and count less. -/
theorem holds_mapCtu {f : Ctu → Ctu} (h : r.Holds s)
    (hf : (f s.ctu).value = s.ctu.value ∧ (f s.ctu).mValue = s.ctu.mValue ∧ (f s.ctu).unread ≤ s.ctu.unread ∧
      (f s.ctu).window.length ≤ s.ctu.window.length) : r.Holds (s.mapCtu f) := by
  obtain ⟨hv, hm, hu, hw⟩ := hf
  exact h.of_ranges rfl rfl rfl hv hm hu hw le_rfl fun _ => id

/-- TSC may change what its ranges do not speak of, and drop the rest. -/
theorem holds_mapTsc {f : Tsc → Tsc} (h : r.Holds s) (hk : (f s.tsc).skip.length ≤ s.tsc.skip.length)
    (ha : ∀ a, (f s.tsc).active = some a → s.tsc.active = some a) : r.Holds (s.mapTsc f) :=
  h.of_ranges rfl rfl rfl rfl rfl le_rfl le_rfl hk ha

/-! ### Operations every block uses -/

theorem holds_raise (n : Notice) (h : r.Holds s) : r.Holds (raise n s) := h.of_records (by simp)
theorem holds_raiseIf (b : Bool) (n : Notice) (h : r.Holds s) : r.Holds (raiseIf b n s) := h.of_records (by simp)
theorem holds_report (x : Report) (h : r.Holds s) : r.Holds (report x s) := h.of_records (by simp)
theorem holds_reportFirst (x : Report) (h : r.Holds s) : r.Holds (reportFirst x s) := h.of_records (by simp)
theorem holds_reportIf (b : Bool) (x : Report) (h : r.Holds s) : r.Holds (reportIf b x s) := h.of_records (by simp)
theorem holds_setSticky (f : Sticky) (h : r.Holds s) : r.Holds (setSticky f s) := h.of_records (by simp)
theorem holds_setReported (f : Reported) (h : r.Holds s) : r.Holds (setReported f s) := h.of_records (by simp)
theorem holds_reply (x : Reply) (h : r.Holds s) : r.Holds (reply x s) := h.of_records (by simp)
theorem holds_replyOk (b : ReplyBody) (h : r.Holds s) : r.Holds (replyOk b s) := h.of_records (by simp)
theorem holds_replyAccepted (b : ReplyBody) (h : r.Holds s) : r.Holds (replyAccepted b s) := h.of_records (by simp)
theorem holds_refuse (x : Reason) (h : r.Holds s) : r.Holds (refuse x s) := h.of_records (by simp)
theorem holds_refuseField (n : Nat) (h : r.Holds s) : r.Holds (refuseField n s) := h.of_records (by simp)

/-- What is done only under a condition keeps the ranges where it does. -/
theorem holds_when {b : Bool} {f : State → State} (h : r.Holds s) (hf : r.Holds (f s)) : r.Holds (when b f s) := by
  unfold when
  split
  · exact hf
  · exact h

/-! ### SRV -/

/-- The drum's stop clears the lock errors (R34). -/
theorem holds_drumStop (h : r.Holds s) : r.Holds (drumStop s) := by
  cases r
  case servo => simp [TapeRange.Holds, ServoInv, drumStop, qualityOf]
  all_goals simpa [TapeRange.Holds, CounterInv, SkipInv, RemainingInv] using h

theorem holds_sweepHold (h : r.Holds s) : r.Holds (sweepHold s) := holds_raise _ (holds_mapSrv h (by simp))
theorem holds_sweepRestart (h : r.Holds s) : r.Holds (sweepRestart s) := holds_mapSrv h (by simp)
theorem holds_sweepTake (n : Nat) (h : r.Holds s) : r.Holds (sweepTake n s) := holds_mapSrv h (by simp)

theorem holds_sweepDown (p : SweepPhase) (h : r.Holds s) : r.Holds (sweepDown p s) := by
  unfold sweepDown
  split
  · exact holds_sweepHold h
  · exact holds_mapSrv h (by simp)

theorem holds_sweepUp (p : SweepPhase) {f : State → State} (h : r.Holds s) (hf : r.Holds (f s)) :
    r.Holds (sweepUp p f s) := by
  unfold sweepUp
  split
  · exact hf
  · exact holds_mapSrv h (by simp)

theorem holds_sweepReading (n : Nat) (h : r.Holds s) : r.Holds (sweepReading n s) := by
  have taken := holds_sweepTake n h
  unfold sweepReading
  grind [holds_sweepUp, holds_sweepDown, holds_sweepHold]

theorem holds_trackingTake (m : TrackMode) (i : Int) (h : r.Holds s) : r.Holds (trackingTake m i s) := by
  unfold trackingTake
  grind [holds_raiseIf, holds_mapSrv, holds_sweepRestart]

theorem holds_setDetected (g : Grade) (h : r.Holds s) : r.Holds (setDetected g s) :=
  holds_raiseIf _ _ (holds_mapSrv h (by simp))

theorem holds_srvPulse (h : r.Holds s) : r.Holds (srvPulse s) := by
  unfold srvPulse
  grind [holds_mapSrv, holds_setDetected]

theorem holds_goBlank (h : r.Holds s) : r.Holds (goBlank s) := holds_raise _ (holds_mapSrv h (by simp))

theorem holds_srvEnterPlay (h : r.Holds s) : r.Holds (srvEnterPlay s) := by
  unfold srvEnterPlay
  grind [holds_mapSrv, holds_sweepRestart]

theorem holds_srvEnterRecord (h : r.Holds s) : r.Holds (srvEnterRecord s) := by
  unfold srvEnterRecord
  grind [holds_setDetected, holds_reportIf, holds_report]

theorem holds_srvLoaded (h : r.Holds s) : r.Holds (srvLoaded s) := by
  unfold srvLoaded
  exact holds_mapSrv (holds_setDetected _ h) (by simp)

/-- One judged frame keeps the lock error counter, the quality with it and the recovery run in their ranges (R32, R33). -/
theorem judge_ranges (good : Bool) {v : Srv} (he : v.err ≤ 255) (hq : v.quality = qualityOf v.err) (hr : v.run < 128) :
    (v.judge good).err ≤ 255 ∧ (v.judge good).quality = qualityOf (v.judge good).err ∧ (v.judge good).run < 128 := by
  unfold Srv.judge
  grind [qualityOf]

theorem holds_judge (good : Bool) (h : r.Holds s) : r.Holds (s.mapSrv fun v => v.judge good) := by
  cases r
  case servo =>
    obtain ⟨he, hq, hr⟩ := h
    exact judge_ranges good he hq hr
  all_goals exact h

/-! ### CTU -/

theorem holds_setSide (h : r.Holds s) : r.Holds (setSide s) := holds_mapCtu h (by simp)

theorem holds_recordCue (k : CueKind) (c : Option Nat) (h : r.Holds s) : r.Holds (recordCue k c s) :=
  holds_raise _ (holds_mapCtu h (by simp))

theorem holds_endSeek (k : CueKind) (h : r.Holds s) : r.Holds (endSeek k s) := by
  unfold endSeek
  split
  · exact h
  · exact holds_recordCue _ _ (holds_mapCtu h (by simp))

theorem holds_abortMark (h : r.Holds s) : r.Holds (abortMark s) := by
  unfold abortMark
  split
  · exact h
  · exact holds_recordCue _ _ (holds_mapCtu h (by simp))

theorem holds_requestMark (code : Nat) (o : Owner) (h : r.Holds s) : r.Holds (requestMark code o s).2 := by
  unfold requestMark
  grind [holds_mapCtu]

theorem holds_setUncertain (b : Bool) (h : r.Holds s) : r.Holds (setUncertain b s) :=
  holds_raiseIf _ _ (holds_mapCtu h (by simp))

theorem holds_setBegun (b : Bool) (h : r.Holds s) : r.Holds (setBegun b s) :=
  holds_raiseIf _ _ (holds_mapCtu h (by simp))

/-- The counter takes a value between its ends, and reads less. -/
theorem holds_setValue {f : Ctu → Ctu} (h : r.Holds s) (hl : counterMin ≤ (f s.ctu).value) (hh : (f s.ctu).value ≤ counterMax)
    (hf : (f s.ctu).mValue = s.ctu.mValue ∧ (f s.ctu).unread ≤ s.ctu.unread ∧
      (f s.ctu).window.length ≤ s.ctu.window.length) : r.Holds (s.mapCtu f) := by
  cases r
  case counter =>
    obtain ⟨hm, hu, hw⟩ := hf
    obtain ⟨⟨_, hms, hus, hws⟩, hks⟩ := h
    exact ⟨⟨⟨hl, hh⟩, (congrArg (fun x => counterMin ≤ x ∧ x ≤ counterMax) hm).mpr hms, hu.trans hus, hw.trans hws⟩, hks⟩
  all_goals exact h

theorem holds_ctuLoaded (h : r.Holds s) : r.Holds (ctuLoaded s) :=
  holds_raiseIf _ _ (holds_setSide (holds_setValue h (show counterMin ≤ 0 by decide) (show (0 : Int) ≤ counterMax by decide) (by simp)))

theorem holds_disarmMatch (h : r.Holds s) : r.Holds (disarmMatch s) := holds_mapCtu h (by simp)

theorem holds_ctuEnterWind (h : r.Holds s) : r.Holds (ctuEnterWind s) := by
  unfold ctuEnterWind
  split
  · exact holds_mapCtu h (by simp)
  · exact holds_setUncertain _ (holds_mapCtu h (by simp))

theorem holds_ctuLeaveReading (o : TState) (h : r.Holds s) : r.Holds (ctuLeaveReading o s) :=
  holds_mapCtu h (by simp)

theorem holds_ctuEnterReading (o n : TState) (h : r.Holds s) : r.Holds (ctuEnterReading o n s) := by
  unfold ctuEnterReading
  grind [holds_mapCtu]

theorem holds_seekEntered (n : TState) (h : r.Holds s) : r.Holds (seekEntered n s) := by
  unfold seekEntered
  grind [holds_mapCtu]

/-! ### TPE leaves the ranges alone -/

theorem holds_mapReel (x : Reel) (f : ReelRec → ReelRec) (h : r.Holds s) : r.Holds (mapReel x f s) := h.of_records (by simp)
theorem holds_mapReels (f : ReelRec → ReelRec) (h : r.Holds s) : r.Holds (mapReels f s) := h.of_records (by simp)
theorem holds_tpeSuspend (h : r.Holds s) : r.Holds (tpeSuspend s) := h.of_records (by simp)
theorem holds_tpeEnterWind (h : r.Holds s) : r.Holds (tpeEnterWind s) := h.of_records (by simp)
theorem holds_tpeLeaveWind (h : r.Holds s) : r.Holds (tpeLeaveWind s) := h.of_records (by simp)
theorem holds_tpeCassetteReset (h : r.Holds s) : r.Holds (tpeCassetteReset s) := h.of_records (by simp)
theorem holds_tpeRestart (h : r.Holds s) : r.Holds (tpeRestart s) := h.of_records (by simp)
theorem holds_tpeBackup (b : Bool) (h : r.Holds s) : r.Holds (tpeBackup b s) := h.of_records (by simp)

end

end Sys2Proof.Machine
end

section
/-! SUPPORT. MEC's operations keep the ranges of the tape path and the timer. -/

namespace Sys2Proof.Machine

section
variable {r : TapeRange} {s : State}

/-! ### Entering a state -/

theorem holds_idleFollow (h : r.Holds s) : r.Holds (idleFollow s) := h.of_records (by simp)
theorem holds_stallFollow (h : r.Holds s) : r.Holds (stallFollow s) := h.of_records (by simp)
theorem holds_targetReached (h : r.Holds s) : r.Holds (targetReached s) := h.of_records (by simp)
theorem holds_makePending (p : PendingTarget) (h : r.Holds s) : r.Holds (makePending p s) := h.of_records (by simp)
theorem holds_senseTab (h : r.Holds s) : r.Holds (senseTab s) := h.of_records (by simp)
theorem holds_recoveryMove (m : RecoveryMove) (n : Nat) (h : r.Holds s) : r.Holds (recoveryMove m n s) := h.of_records (by simp)
theorem holds_releaseTransport (h : r.Holds s) : r.Holds (releaseTransport s) := h.of_records (by simp)

theorem holds_leaveState (o n : TState) (h : r.Holds s) : r.Holds (leaveState o n s) := by
  unfold leaveState
  grind [holds_abortMark, holds_reportIf, holds_tpeSuspend, holds_ctuLeaveReading, holds_tpeLeaveWind]

theorem holds_arriveState (o n : TState) (h : r.Holds s) : r.Holds (arriveState o n s) := by
  unfold arriveState
  extract_lets winds reads starts records pauses plays recorded sought ended begun
  have hreads : r.Holds reads := by grind [holds_ctuEnterWind, holds_tpeEnterWind, holds_ctuEnterReading]
  have hpauses : r.Holds pauses := holds_reportIf _ _ (holds_reportIf _ _ (holds_reportIf _ _ hreads))
  have hrecorded : r.Holds recorded := by grind [holds_srvEnterPlay, holds_srvEnterRecord]
  exact holds_reportIf _ _ (holds_reportIf _ _ (holds_reportIf _ _ (holds_seekEntered _ hrecorded)))

theorem holds_enter (n : TState) (k : Bool) (h : r.Holds s) : r.Holds (enter n k s) := by
  unfold enter
  grind [holds_leaveState, holds_mapMec, holds_drumStop, holds_idleFollow, holds_arriveState, holds_raise, holds_stallFollow]

theorem holds_enterState (n : TState) (h : r.Holds s) : r.Holds (enterState n s) := holds_enter n false h
theorem holds_passThreaded (h : r.Holds s) : r.Holds (passThreaded s) := holds_enter .threaded true h

/-! ### Motions and targets -/

theorem holds_startMotion (n : TState) (h : r.Holds s) : r.Holds (startMotion n s) := by
  unfold startMotion
  exact holds_mapPins _ (holds_mapMec _ (holds_enterState n h))

theorem holds_startLoading (h : r.Holds s) : r.Holds (startLoading s) := holds_startMotion _ (holds_mapMec _ h)

theorem holds_loseTarget (h : r.Holds s) : r.Holds (loseTarget s) := by
  unfold loseTarget
  grind [holds_endSeek, holds_mapMec]

theorem holds_dropTarget (p : PendingTarget) (x : Reason) (h : r.Holds s) : r.Holds (dropTarget p x s) :=
  holds_reportIf _ _ (holds_raise _ (holds_mapMec _ (holds_loseTarget h)))

theorem holds_enterTarget (p : PendingTarget) (h : r.Holds s) : r.Holds (enterTarget p s) := by
  unfold enterTarget
  grind [holds_enterState, holds_mapMec]

theorem holds_routeMotion (n : TState) (p : PendingTarget) (h : r.Holds s) : r.Holds (routeMotion n p s) :=
  holds_startMotion n (holds_mapMec _ h)

theorem holds_beginSpinUp (p : PendingTarget) (h : r.Holds s) : r.Holds (beginSpinUp p s) := by
  unfold beginSpinUp
  split
  · exact holds_enterState _ (holds_dropTarget _ _ h)
  · exact holds_idleFollow (holds_mapMec _ h)

/-! ### Routes -/

theorem holds_routeUnthreaded (p : PendingTarget) (h : r.Holds s) : r.Holds (routeUnthreaded p s) := by
  unfold routeUnthreaded
  grind [holds_targetReached, holds_routeMotion, holds_enterTarget, holds_dropTarget]

theorem holds_routeThreaded (p : PendingTarget) (h : r.Holds s) : r.Holds (routeThreaded p s) := by
  unfold routeThreaded
  grind [holds_targetReached, holds_enterState, holds_routeMotion, holds_enterTarget, holds_beginSpinUp]

theorem holds_routePlaying (p : PendingTarget) (h : r.Holds s) : r.Holds (routePlaying p s) := by
  unfold routePlaying
  grind [holds_targetReached, holds_enterState, holds_routeMotion, holds_enterTarget, holds_beginSpinUp, holds_passThreaded]

theorem holds_routeRecording (p : PendingTarget) (h : r.Holds s) : r.Holds (routeRecording p s) := by
  unfold routeRecording
  grind [holds_targetReached, holds_enterState, holds_routeMotion, holds_enterTarget, holds_mapMec, holds_passThreaded]

theorem holds_routeWinding (p : PendingTarget) (h : r.Holds s) : r.Holds (routeWinding p s) := by
  unfold routeWinding
  grind [holds_targetReached, holds_enterState, holds_routeMotion, holds_enterTarget]

theorem holds_route (p : PendingTarget) (h : r.Holds s) : r.Holds (route p s) := by
  unfold route
  grind [holds_targetReached, holds_dropTarget, holds_routeUnthreaded, holds_routeThreaded, holds_routePlaying,
    holds_routeRecording, holds_routeWinding, holds_routeMotion, holds_mapMec]

theorem holds_duringSpinUp (p q : PendingTarget) (h : r.Holds s) : r.Holds (duringSpinUp p q s) := by
  unfold duringSpinUp
  grind [holds_mapMec, holds_route]

theorem holds_execTarget (p : PendingTarget) (h : r.Holds s) : r.Holds (execTarget p s) := by
  unfold execTarget
  grind [holds_makePending, holds_duringSpinUp, holds_route]

theorem holds_stopTransport (h : r.Holds s) : r.Holds (stopTransport s) := by
  unfold stopTransport
  grind [holds_loseTarget, holds_enterState, holds_mapMec]

theorem holds_hostTarget (t : Target) (v : Speed) (g : Grade) (h : r.Holds s) : r.Holds (hostTarget t v g s) := by
  unfold hostTarget
  grind [holds_mapMec, holds_stopTransport, holds_execTarget]

theorem holds_ctuTarget (t : Target) (h : r.Holds s) : r.Holds (ctuTarget t s) := holds_hostTarget _ _ _ h

theorem holds_timerTarget (t : Target) (g : Grade) (h : r.Holds s) : r.Holds (timerTarget t g s) := by
  unfold timerTarget
  grind [holds_report, holds_stopTransport, holds_execTarget]

/-! ### Motion completion, FAULT and RECOVERY -/

theorem holds_proceed (h : r.Holds s) : r.Holds (proceed s) := by
  unfold proceed
  grind [holds_route]

theorem holds_motionEnds (n : TState) (h : r.Holds s) : r.Holds (motionEnds n s) := holds_enterState n (holds_mapMec _ h)

theorem holds_settleEmpty (h : r.Holds s) : r.Holds (settleEmpty s) :=
  holds_proceed (holds_report _ (holds_tpeCassetteReset (holds_disarmMatch (holds_mapMec _ (holds_motionEnds _ h)))))

theorem holds_loadingDone (h : r.Holds s) : r.Holds (loadingDone s) :=
  holds_proceed (holds_report _ (holds_tpeCassetteReset (holds_srvLoaded (holds_ctuLoaded (holds_senseTab
    (holds_motionEnds _ h))))))

theorem holds_settleUnthreaded (h : r.Holds s) : r.Holds (settleUnthreaded s) :=
  holds_proceed (holds_senseTab (holds_motionEnds _ h))

theorem holds_enterFault (c : FaultCause) (h : r.Holds s) : r.Holds (enterFault c s) :=
  holds_report _ (holds_setSticky _ (holds_raise _ (holds_mapMec _ (holds_enterState _ (holds_mapMec _ (holds_loseTarget h))))))

theorem holds_recoveryRun (h : r.Holds s) : r.Holds (recoveryRun s) := by
  unfold recoveryRun
  grind [holds_settleEmpty, holds_recoveryMove, holds_settleUnthreaded]

theorem holds_recoveryClear (k : Bool) (h : r.Holds s) : r.Holds (recoveryClear k s) := holds_enterState _ (holds_mapMec _ h)

theorem holds_recoverTaken (h : r.Holds s) : r.Holds (recoverTaken s) := by
  unfold recoverTaken
  grind [holds_recoveryRun]

theorem holds_enterRecovery (k e : Bool) (h : r.Holds s) : r.Holds (enterRecovery k e s) := by
  unfold enterRecovery
  grind [holds_recoveryClear, holds_recoveryMove, holds_recoveryRun]

theorem holds_mecPowerUp (h : r.Holds s) : r.Holds (mecPowerUp s) := by
  unfold mecPowerUp
  grind [holds_enterRecovery]

/-! ### MEC's events -/

theorem holds_modeSwitch (p : ModePos) (h : r.Holds s) : r.Holds (modeSwitch p s) := by
  unfold modeSwitch
  grind [holds_loadingDone, holds_proceed, holds_motionEnds, holds_settleEmpty, holds_settleUnthreaded, holds_recoveryRun]

theorem holds_motionTimeout (h : r.Holds s) : r.Holds (motionTimeout s) := holds_when h (holds_enterFault _ h)

theorem holds_spinFails (h : r.Holds s) : r.Holds (spinFails s) := by
  unfold spinFails
  grind [holds_mapMec, holds_enterState, holds_raise, holds_reportIf]

theorem holds_spinFrame (a b : Bool) (h : r.Holds s) : r.Holds (spinFrame a b s) := by
  unfold spinFrame
  grind [holds_enterTarget, holds_mapMec]

theorem holds_idleExpires (h : r.Holds s) : r.Holds (idleExpires s) := by
  refine holds_when h (holds_raise _ ?_)
  grind [holds_mapMec, holds_startMotion, holds_enterState]

theorem holds_endStop (h : r.Holds s) : r.Holds (endStop s) := by
  refine holds_when h ?_
  grind [holds_mapMec, holds_endSeek, holds_enterState, holds_report, holds_reportIf]

theorem holds_applyEndAction (h : r.Holds s) : r.Holds (applyEndAction s) := holds_when h (holds_route _ h)

theorem holds_beginStop (h : r.Holds s) : r.Holds (beginStop s) :=
  holds_when h (holds_endSeek _ (holds_setBegun _ (holds_enterState _ (holds_mapMec _ h))))

theorem holds_reelStalls (h : r.Holds s) : r.Holds (reelStalls s) := by
  unfold reelStalls
  grind [holds_mapMec, holds_routeMotion, holds_endSeek, holds_reportIf, holds_enterState, holds_enterFault]

theorem holds_servoLost (h : r.Holds s) : r.Holds (servoLost s) :=
  holds_when h (holds_reportIf _ _ (holds_enterState _ (holds_mapMec _ h)))

theorem holds_cassetteLeaves (h : r.Holds s) : r.Holds (cassetteLeaves s) := by
  refine holds_when h ?_
  grind [holds_dropTarget, holds_startMotion]

theorem holds_claimTransport (h : r.Holds s) : r.Holds (claimTransport s) := by
  unfold claimTransport
  grind [holds_endSeek, holds_raise, holds_mapMec]

theorem holds_restRequest (h : r.Holds s) : r.Holds (restRequest s) := by
  unfold restRequest
  grind [holds_endSeek, holds_mapMec, holds_stopTransport, holds_execTarget]

end

end Sys2Proof.Machine
end

section
/-! SUPPORT. The tape path's events keep the ranges of the tape path and the timer. -/

namespace Sys2Proof.Machine

section
variable {r : TapeRange} {s : State}

/-! ### The counter and the match -/

theorem counter_clamped (v : Int) :
    counterMin ≤ clampInt counterMin counterMax v ∧ clampInt counterMin counterMax v ≤ counterMax := by
  simp only [clampInt, counterMin, counterMax]
  omega

theorem holds_moveValue (n : Int) (h : r.Holds s) : r.Holds (moveValue n s) :=
  holds_setBegun _ (holds_raiseIf _ _ (holds_setValue h (counter_clamped _).1 (counter_clamped _).2 (by simp)))

theorem holds_fireMatch (h : r.Holds s) : r.Holds (fireMatch s) := by
  have fired : r.Holds (raise .counter (setReported .counterMatched (s.mapCtu fun c => { c with mArmed := false }))) :=
    holds_raise _ (holds_setReported _ (holds_mapCtu h (by simp)))
  unfold fireMatch
  grind [holds_ctuTarget, holds_endSeek]

theorem holds_testMatch (h : r.Holds s) : r.Holds (testMatch s) := by
  unfold testMatch
  grind [holds_setSide, holds_fireMatch]

theorem holds_moveCounter (n : Int) (h : r.Holds s) : r.Holds (moveCounter n s) := by
  unfold moveCounter
  grind [holds_testMatch, holds_moveValue]

theorem holds_counterPulse (h : r.Holds s) : r.Holds (counterPulse s) := by
  have read : r.Holds (s.mapCtu fun c => { c with source := .pulse, acc := 0, unread := 0 }) := holds_mapCtu h (by simp)
  unfold counterPulse
  grind [holds_setSide, holds_moveValue, holds_setUncertain, holds_moveCounter]

/-- The frames unread may count up to 60 (R48). -/
theorem holds_countUnread {n : Nat} (hn : n ≤ 60) (h : r.Holds s) : r.Holds (s.mapCtu fun c => { c with unread := n }) := by
  cases r
  case counter =>
    obtain ⟨⟨hv, hm, _, hw⟩, hk⟩ := h
    exact ⟨⟨hv, hm, hn, hw⟩, hk⟩
  all_goals exact h

theorem holds_sourceToStep (h : r.Holds s) : r.Holds (sourceToStep s) := by
  have counted := holds_countUnread (n := 60) le_rfl h
  unfold sourceToStep
  grind [holds_mapCtu, holds_moveCounter]

theorem holds_counterStep (h : r.Holds s) : r.Holds (counterStep s) := by
  unfold counterStep
  grind [holds_mapCtu, holds_moveCounter]

theorem holds_windMoved (l : Nat) (h : r.Holds s) : r.Holds (windMoved l s) := by
  unfold windMoved
  grind [holds_mapCtu, holds_moveCounter]

/-! ### The supply length and the reels -/

theorem holds_thresholdTest (h : r.Holds s) : r.Holds (thresholdTest s) := h.of_records (by simp)

theorem holds_setLs (l : Option Nat) (m : Method) (h : r.Holds s) : r.Holds (setLs l m s) := by
  unfold setLs
  grind [holds_mapTpe, holds_windMoved, holds_thresholdTest]

theorem holds_directCalc (h : r.Holds s) : r.Holds (directCalc s) := by
  unfold directCalc
  grind [holds_setLs]

theorem holds_ratioCalc (h : r.Holds s) : r.Holds (ratioCalc s) := by
  unfold ratioCalc
  grind [holds_setLs]

theorem holds_profileMoved (p : Profile) (h : r.Holds s) : r.Holds (profileMoved p s) := by
  unfold profileMoved
  grind [holds_report, holds_raise, holds_setUncertain, holds_directCalc]

theorem holds_takeSample (h : r.Holds s) : r.Holds (takeSample s) := by
  unfold takeSample
  grind [holds_profileMoved, holds_mapTpe, holds_mapReels]

theorem holds_closeRev (x : Reel) (v : OpenRev) (h : r.Holds s) : r.Holds (closeRev x v s) := by
  unfold closeRev
  grind [holds_mapReel, holds_directCalc, holds_setLs, holds_takeSample]

theorem holds_edgeMeasuring (x : Reel) (h : r.Holds s) : r.Holds (edgeMeasuring x s) := by
  unfold edgeMeasuring
  grind [holds_mapReel, holds_closeRev]

theorem holds_closeTimed (x : Reel) (n : Nat) (h : r.Holds s) : r.Holds (closeTimed x n s) := by
  unfold closeTimed
  grind [holds_mapReel, holds_ratioCalc]

theorem holds_edgeWinding (x : Reel) (n : Nat) (h : r.Holds s) : r.Holds (edgeWinding x n s) := by
  unfold edgeWinding
  grind [holds_mapReel, holds_closeTimed]

theorem holds_reelEdge (x : Reel) (n : Nat) (h : r.Holds s) : r.Holds (reelEdge x n s) := by
  unfold reelEdge
  grind [holds_edgeMeasuring, holds_edgeWinding]

theorem holds_revOverflow (x : Reel) (h : r.Holds s) : r.Holds (revOverflow x s) := h.of_records (by simp)

/-! ### Capstan steps and control pulses -/

theorem holds_capstanStepTaken (h : r.Holds s) : r.Holds (capstanStepTaken s) := by
  unfold capstanStepTaken
  grind [holds_mapReels, holds_mapTpe, holds_mapSrv, holds_counterStep]

theorem holds_tpePulse (h : r.Holds s) : r.Holds (tpePulse s) := h.of_records (by simp)

theorem holds_seekFound (code : Nat) (h : r.Holds s) : r.Holds (seekFound code s) := by
  unfold seekFound
  grind [holds_mapCtu, holds_recordCue, holds_setReported, holds_ctuTarget]

theorem holds_seekPassed (code : Nat) (h : r.Holds s) : r.Holds (seekPassed code s) := by
  unfold seekPassed
  grind [holds_mapCtu, holds_recordCue, holds_endSeek, holds_ctuTarget]

theorem holds_markRecognised (code : Nat) (h : r.Holds s) : r.Holds (markRecognised code s) := by
  unfold markRecognised
  grind [holds_seekFound, holds_seekPassed, holds_recordCue]

/-- A window of at most 24 classes stays one (R45). -/
theorem pushClass_length (c : PulseClass) {w : List PulseClass} (h : w.length ≤ 24) : (pushClass c w).length ≤ 24 := by
  unfold pushClass
  split <;> simp <;> omega

theorem holds_pushClass (c : PulseClass) (h : r.Holds s) :
    r.Holds (s.mapCtu fun u => { u with window := pushClass c u.window }) := by
  cases r
  case counter =>
    obtain ⟨⟨hv, hm, hu, hw⟩, hk⟩ := h
    exact ⟨⟨hv, hm, hu, pushClass_length c hw⟩, hk⟩
  all_goals exact h

theorem holds_cueRead (b : Bool) (c : PulseClass) (w : List PulseClass) (h : r.Holds s) : r.Holds (cueRead b c w s) := by
  unfold cueRead
  split
  · exact holds_pushClass c h
  · exact holds_markRecognised _ (holds_mapCtu h (by simp))

theorem holds_pulseTaken (duty : Nat) (h : r.Holds s) : r.Holds (pulseTaken duty s) := by
  unfold pulseTaken
  grind [holds_mapSrv, holds_srvPulse, holds_tpePulse, holds_counterPulse, holds_cueRead]

theorem holds_pulseRead (duty : Nat) (h : r.Holds s) : r.Holds (pulseRead duty s) := by
  unfold pulseRead
  grind [holds_pulseTaken, holds_cueRead]

theorem holds_markAdvance (h : r.Holds s) : r.Holds (markAdvance s) := by
  unfold markAdvance
  grind [holds_mapCtu, holds_recordCue]

theorem holds_pulseWritten (h : r.Holds s) : r.Holds (pulseWritten s) := by
  refine holds_when h ?_
  grind [holds_mapCtu, holds_markAdvance, holds_testMatch, holds_moveValue]

/-! ### The servo frame -/

theorem holds_qualityMoved (q : Quality) (h : r.Holds s) : r.Holds (qualityMoved q s) := by
  unfold qualityMoved
  grind [holds_raise, holds_setSticky, holds_report, holds_sweepRestart, holds_reportIf]

theorem holds_judgeFrame (good : Bool) (h : r.Holds s) : r.Holds (judgeFrame good s) :=
  holds_qualityMoved _ (holds_judge good h)

theorem holds_lockFrame (d : Int) (c : CapstanPhase) (h : r.Holds s) : r.Holds (lockFrame d c s) := by
  unfold lockFrame
  grind [holds_mapSrv, holds_judgeFrame, holds_spinFrame]

theorem holds_blankFrame (h : r.Holds s) : r.Holds (blankFrame s) := by
  unfold blankFrame
  grind [holds_goBlank, holds_mapSrv]

theorem holds_unreadFrame (h : r.Holds s) : r.Holds (unreadFrame s) := by
  unfold unreadFrame
  split
  · rename_i hc
    split
    · exact holds_sourceToStep h
    · exact holds_countUnread (n := s.ctu.unread + 1) (by omega) h
  · exact h

theorem holds_frameOver (h : r.Holds s) : r.Holds (frameOver s) := by
  unfold frameOver
  exact holds_mapCtu (holds_mapSrv h (by simp)) (by simp)

theorem holds_servoFrameTaken (d : Int) (c : CapstanPhase) (h : r.Holds s) : r.Holds (servoFrameTaken d c s) := by
  unfold servoFrameTaken
  grind [holds_frameOver, holds_unreadFrame, holds_blankFrame, holds_lockFrame]

/-! ### RESTART and BACKUP -/

theorem holds_srvRestart (h : r.Holds s) : r.Holds (srvRestart s) := by
  unfold srvRestart
  exact holds_mapSrv h (by simp)

theorem holds_ctuRestart (h : r.Holds s) : r.Holds (ctuRestart s) := by
  unfold ctuRestart
  exact holds_mapCtu (holds_abortMark h) (by simp)

theorem holds_ctuBackup (b : Bool) (h : r.Holds s) : r.Holds (ctuBackup b s) := by
  unfold ctuBackup
  grind [holds_mapCtu, holds_abortMark, holds_setUncertain]

end

end Sys2Proof.Machine
end

section
/-! SUPPORT. The tuner, its arbiter, the data line and the clock keep the ranges of the tape path and the timer: a grant may power
the deck up, and a steady second takes one from the remaining seconds. -/

namespace Sys2Proof.Machine

section
variable {r : TapeRange} {s : State}

/-! ### TUN and DLD leave the ranges alone -/

theorem holds_setDetectors (a b : Bool) (h : r.Holds s) : r.Holds (setDetectors a b s) := h.of_records (by simp)
theorem holds_captureEmpty (h : r.Holds s) : r.Holds (captureEmpty s) := h.of_records (by simp)
theorem holds_retuned (h : r.Holds s) : r.Holds (retuned s) := h.of_records (by simp)
theorem holds_setPreset (n : Nat) (p : Preset) (h : r.Holds s) : r.Holds (setPreset n p s) := h.of_records (by simp)
theorem holds_tuningCompletes (h : r.Holds s) : r.Holds (tuningCompletes s) := h.of_records (by simp)
theorem holds_detectorRead (d : Disc) (h : r.Holds s) : r.Holds (detectorRead d s) := h.of_records (by simp)
theorem holds_scanEnd (c : EndCause) (h : r.Holds s) : r.Holds (scanEnd c s) := h.of_records (by simp)
theorem holds_scanDwellRead (d : Disc) (h : r.Holds s) : r.Holds (scanDwellRead d s) := h.of_records (by simp)
theorem holds_scanFineRead (d : Disc) (h : r.Holds s) : r.Holds (scanFineRead d s) := h.of_records (by simp)
theorem holds_scanHoldRead (h : r.Holds s) : r.Holds (scanHoldRead s) := h.of_records (by simp)
theorem holds_scanResume (h : r.Holds s) : r.Holds (scanResume s) := h.of_records (by simp)
theorem holds_tunerPowerDown (h : r.Holds s) : r.Holds (tunerPowerDown s) := h.of_records (by simp)
theorem holds_packetArrives (l : List Byte) (h : r.Holds s) : r.Holds (packetArrives l s) := h.of_records (by simp)

theorem holds_tableChange {f : State → State} (hf : r.Holds (f s)) : r.Holds (tableChange f s) := holds_reportIf _ _ hf

/-! ### TAR -/

theorem holds_deckPowerUp (h : r.Holds s) : r.Holds (deckPowerUp s) := by
  unfold deckPowerUp
  grind [holds_mapPwr, holds_mecPowerUp]

theorem holds_setHolder (x : Holder) (h : r.Holds s) : r.Holds (setHolder x s) := h.of_records (by simp)
theorem holds_completionPassed (b : Bool) (h : r.Holds s) : r.Holds (completionPassed b s) := h.of_records (by simp)
theorem holds_orderFor (x : Holder) (o : Order) (h : r.Holds s) : r.Holds (orderFor x o s).2 := h.of_records (by simp)
theorem holds_recordAnswer (a : TuneAnswer) (h : r.Holds s) : r.Holds (recordAnswer a s) := h.of_records (by simp)
theorem holds_giveOrder (x : Holder) (o : Order) (h : r.Holds s) : r.Holds (giveOrder x o s).2 := h.of_records (by simp)
theorem holds_recordOrder (o : Order) (h : r.Holds s) : r.Holds (recordOrder o s) := h.of_records (by simp)
theorem holds_grantView (c : Channel) (h : r.Holds s) : r.Holds (grantView c s) := h.of_records (by simp)
theorem holds_grantHostWait (h : r.Holds s) : r.Holds (grantHostWait s) := h.of_records (by simp)
theorem holds_refuseHostWait (h : r.Holds s) : r.Holds (refuseHostWait s) := h.of_records (by simp)
theorem holds_syncEnds (x : SyncResult) (h : r.Holds s) : r.Holds (syncEnds x s) := h.of_records (by simp)
theorem holds_tarEndsScan (c : EndCause) (h : r.Holds s) : r.Holds (tarEndsScan c s) := h.of_records (by simp)
theorem holds_recordTakes (h : r.Holds s) : r.Holds (recordTakes s) := h.of_records (by simp)
theorem holds_viewRequest (c : Channel) (h : r.Holds s) : r.Holds (viewRequest c s) := h.of_records (by simp)
theorem holds_scanRequest (f : Nat) (a : Bool) (h : r.Holds s) : r.Holds (scanRequest f a s) := h.of_records (by simp)
theorem holds_dropSync (x : SyncResult) (h : r.Holds s) : r.Holds (dropSync x s) := h.of_records (by simp)
theorem holds_waitLimitReached (h : r.Holds s) : r.Holds (waitLimitReached s) := h.of_records (by simp)
theorem holds_minimumHoldOver (h : r.Holds s) : r.Holds (minimumHoldOver s) := h.of_records (by simp)
theorem holds_tarRestart (h : r.Holds s) : r.Holds (tarRestart s) := h.of_records (by simp)
theorem holds_tarBackup (h : r.Holds s) : r.Holds (tarBackup s) := h.of_records (by simp)

theorem holds_grantSync (h : r.Holds s) : r.Holds (grantSync s) := by
  have ordered : r.Holds (giveOrder .sync .sync (deckPowerUp (report .syncGranted (setHolder .sync (s.mapTar fun t =>
      { t with syncWait := false, waitTimer := false, minHold := true, holdLimit := true }))))).2 :=
    holds_giveOrder _ _ (holds_deckPowerUp (holds_report _ (holds_setHolder _ (holds_mapTar _ h))))
  unfold grantSync
  grind [holds_grantHostWait, holds_setHolder, holds_syncEnds]

theorem holds_tunerFree (h : r.Holds s) : r.Holds (tunerFree s) := by
  unfold tunerFree
  grind [holds_setHolder, holds_grantSync]

theorem holds_requestRecord (n : Nat) (h : r.Holds s) : r.Holds (requestRecord n s) :=
  holds_recordOrder _ (holds_deckPowerUp (holds_setHolder _ (holds_mapTar _ (holds_recordTakes h))))

theorem holds_hostRecordStarts (h : r.Holds s) : r.Holds (hostRecordStarts s) := by
  have held : r.Holds (deckPowerUp (setHolder .record ((recordTakes s).mapTar fun t => { t with origin := .host }))) :=
    holds_deckPowerUp (holds_setHolder _ (holds_mapTar _ (holds_recordTakes h)))
  unfold hostRecordStarts
  grind [holds_giveOrder]

theorem holds_releaseRecord (h : r.Holds s) : r.Holds (releaseRecord s) := by
  unfold releaseRecord
  grind [holds_report, holds_grantView, holds_tunerFree, holds_mapTar]

theorem holds_hostRecordEnds (h : r.Holds s) : r.Holds (hostRecordEnds s) := by
  unfold hostRecordEnds
  grind [holds_releaseRecord]

theorem holds_viewEnds (h : r.Holds s) : r.Holds (viewEnds s) := by
  unfold viewEnds
  grind [holds_tunerFree, holds_mapTar]

theorem holds_scanReleases (h : r.Holds s) : r.Holds (scanReleases s) := by
  unfold scanReleases
  grind [holds_tunerFree]

theorem holds_requestSync (h : r.Holds s) : r.Holds (requestSync s) := by
  unfold requestSync
  grind [holds_grantSync, holds_mapTar]

theorem holds_holdLimitOver (h : r.Holds s) : r.Holds (holdLimitOver s) :=
  holds_when h (holds_tunerFree (holds_syncEnds _ h))

theorem holds_tarStandby (h : r.Holds s) : r.Holds (tarStandby s) := by
  unfold tarStandby
  grind [holds_tunerFree, holds_mapTar, holds_tarEndsScan, holds_refuseHostWait]

/-! ### CLK -/

theorem holds_clockReport (k : ClockKind) (o : ClockState) (n : Int) (h : r.Holds s) : r.Holds (clockReport k o n s) :=
  h.of_records (by simp)
theorem holds_syncGranted (h : r.Holds s) : r.Holds (syncGranted s) := h.of_records (by simp)
theorem holds_syncFailed (x : SyncResult) (h : r.Holds s) : r.Holds (syncFailed x s) := h.of_records (by simp)
theorem holds_withdrawRequest (h : r.Holds s) : r.Holds (withdrawRequest s) := h.of_records (by simp)
theorem holds_clockWraps (h : r.Holds s) : r.Holds (clockWraps s) := h.of_records (by simp)
theorem holds_setReading (n : Nat) (h : r.Holds s) : r.Holds (setReading n s) := h.of_records (by simp)
theorem holds_setSummer (m : Summer) (i : Int) (h : r.Holds s) : r.Holds (setSummer m i s) := h.of_records (by simp)
theorem holds_summerMoves (m : Summer) (i : Int) (h : r.Holds s) : r.Holds (summerMoves m i s) := h.of_records (by simp)
theorem holds_agesPass (n : Nat) (h : r.Holds s) : r.Holds (agesPass n s) := h.of_records (by simp)
theorem holds_setTime (d : DateTime) (h : r.Holds s) : r.Holds (setTime d s) := h.of_records (by simp)
theorem holds_setZone (z : Int) (o : OffsetSource) (x : Option SummerRule) (h : r.Holds s) : r.Holds (setZone z o x s) :=
  h.of_records (by simp)
theorem holds_timePacketTaken (u : Nat) (o : Int) (m b : Bool) (h : r.Holds s) : r.Holds (timePacketTaken u o m b s) :=
  h.of_records (by simp)
theorem holds_candidateExpires (h : r.Holds s) : r.Holds (candidateExpires s) := h.of_records (by simp)
theorem holds_visitAgeReached (h : r.Holds s) : r.Holds (visitAgeReached s) := h.of_records (by simp)
theorem holds_retryExpires (h : r.Holds s) : r.Holds (retryExpires s) := h.of_records (by simp)
theorem holds_clkDropCandidate (h : r.Holds s) : r.Holds (clkDropCandidate s) := h.of_records (by simp)
theorem holds_clkResume (h : r.Holds s) : r.Holds (clkResume s) := h.of_records (by simp)

theorem holds_visitTest (h : r.Holds s) : r.Holds (visitTest s) := by
  unfold visitTest
  grind [holds_mapClk, holds_requestSync]

theorem holds_sourceReported (b : Bool) (h : r.Holds s) : r.Holds (sourceReported b s) := by
  unfold sourceReported
  grind [holds_visitTest, holds_withdrawRequest, holds_mapClk]

theorem holds_setSync (b : Bool) (h : r.Holds s) : r.Holds (setSync b s) := by
  unfold setSync
  grind [holds_visitTest, holds_withdrawRequest, holds_mapClk]

theorem holds_remainingSecond (h : r.Holds s) : r.Holds (remainingSecond s) := by
  cases r
  case remaining => exact remainingSecond_remaining h
  case servo => simpa [TapeRange.Holds, ServoInv] using h
  case counter =>
    refine ⟨by simpa [CounterInv] using h.1, ?_⟩
    unfold remainingSecond
    split
    · exact h.2
    · exact h.2

theorem holds_advanceSecond (h : r.Holds s) : r.Holds (advanceSecond s) := by
  unfold advanceSecond
  extract_lets old next loaded counted
  have hloaded : r.Holds loaded := by grind [holds_mapClk]
  have hcounted : r.Holds counted := holds_remainingSecond hloaded
  grind [holds_mapClk, holds_clockWraps, holds_clockReport, holds_summerMoves, holds_setReading, holds_setSummer]

theorem holds_clockTicks (h : r.Holds s) : r.Holds (clockTicks s) := by
  unfold clockTicks
  grind [holds_agesPass, holds_mapClk, holds_advanceSecond]

theorem holds_clockSecond (h : r.Holds s) : r.Holds (clockSecond s) := by
  unfold clockSecond
  exact holds_advanceSecond (holds_mapClk _ (holds_agesPass _ (holds_mapClk _ h)))

end

end Sys2Proof.Machine
end

section
/-! SUPPORT. TSC's plan and occurrences keep the ranges of the tape path and the timer. -/

namespace Sys2Proof.Machine

section
variable {r : TapeRange} {s : State}

/-! ### The slots, the plan and the active occurrence -/

theorem holds_mapSlot (n : Nat) (f : Slot → Slot) (h : r.Holds s) : r.Holds (mapSlot n f s) :=
  holds_mapTsc h le_rfl fun _ => id

theorem holds_mapEntry (n d : Nat) (f : PlanEntry → PlanEntry) (h : r.Holds s) : r.Holds (mapEntry n d f s) :=
  holds_mapTsc h le_rfl fun _ => id

theorem holds_writeResult (n : Nat) (x : Result) (h : r.Holds s) : r.Holds (writeResult n x s) := by
  unfold writeResult
  refine holds_raise _ (holds_mapTsc ?_ le_rfl fun _ => id)
  grind [holds_mapSlot, holds_setSticky]

/-- The record of the active occurrence may change as long as its remaining seconds keep their range. -/
theorem holds_mapActive {f : Active → Active} (h : r.Holds s) (hf : ∀ a, (f a).remaining = a.remaining) :
    r.Holds (mapActive f s) := by
  cases r
  case remaining => exact mapActive_remaining (fun a ha => hf a ▸ ha) h
  all_goals exact h

/-- The other two groups do not speak of the active occurrence. -/
theorem servo_mapActive (f : Active → Active) (h : TapeRange.servo.Holds s) : TapeRange.servo.Holds (mapActive f s) := h
theorem counter_mapActive (f : Active → Active) (h : TapeRange.counter.Holds s) : TapeRange.counter.Holds (mapActive f s) := h

theorem holds_setOccState (x : OccState) (h : r.Holds s) : r.Holds (setOccState x s) := by
  unfold setOccState
  grind [holds_raise, holds_mapEntry, holds_mapActive]

/-- What is done with the active occurrence keeps the ranges where it does. -/
theorem holds_withActive {f : Active → State → State} (h : r.Holds s) (hf : ∀ a, r.Holds (f a s)) : r.Holds (withActive f s) := by
  unfold withActive
  split
  · exact h
  · exact hf _

theorem holds_closeActive (a : Active) (o : OccOutcome) (h : r.Holds s) : r.Holds (closeActive a o s) := by
  unfold closeActive
  exact holds_mapTsc (holds_writeResult _ _ h) le_rfl (by simp)

theorem holds_trimTaken (h : r.Holds s) : r.Holds (trimTaken s) := by
  cases r
  case remaining => exact trimTaken_remaining h
  all_goals
    unfold trimTaken
    grind [servo_mapActive, counter_mapActive, holds_reportFirst]

theorem holds_drawPlan (h : r.Holds s) : r.Holds (drawPlan s) :=
  h.of_ranges rfl rfl rfl rfl rfl le_rfl le_rfl le_rfl fun _ => id

/-! ### Arming -/

theorem holds_preRoll {tuner : State → State} (ht : ∀ u, r.Holds u → r.Holds (tuner u)) (e : PlanEntry) (h : r.Holds s) :
    r.Holds (preRoll tuner e s) := by
  unfold preRoll
  extract_lets chained grade graded preempted claimed powered
  have hgraded : r.Holds graded := holds_mapEntry _ _ _ (holds_mapActive h fun _ => rfl)
  have hpreempted : r.Holds preempted := by
    dsimp only [preempted]
    split
    · exact holds_mapTsc hgraded le_rfl fun _ => id
    · exact hgraded
  have hclaimed : r.Holds claimed := holds_claimTransport (holds_deckPowerUp hpreempted)
  have hpowered : r.Holds powered := by grind [holds_raise, holds_mapPwr]
  exact holds_timerTarget _ _ (ht _ hpowered)

/-- An occurrence enters ARMING with 0 remaining seconds. -/
theorem holds_arms (e : PlanEntry) (h : r.Holds s) : r.Holds (s.mapTsc fun t => { t with active := some (Active.start e) }) := by
  cases r
  case remaining =>
    intro a ha
    obtain rfl : Active.start e = a := Option.some.inj ha
    exact Nat.zero_le _
  all_goals exact h

theorem holds_armEntry {tuner : State → State} (ht : ∀ u, r.Holds u → r.Holds (tuner u)) (e : PlanEntry) (h : r.Holds s) :
    r.Holds (armEntry tuner e s) := by
  have armed := holds_setOccState .arming (holds_arms e (holds_mapSlot e.slot (fun l => l.armed e.date) h))
  unfold armEntry
  dsimp only
  split
  · exact holds_reportFirst _ armed
  · exact holds_preRoll ht e armed

theorem holds_armingTest (h : r.Holds s) : r.Holds (armingTest s) := by
  unfold armingTest
  dsimp only
  split
  · exact holds_armEntry (fun _ => holds_requestRecord _) _ (holds_raiseIf _ _ (holds_mapTsc h le_rfl fun _ => id))
  · exact holds_raiseIf _ _ (holds_mapTsc h le_rfl fun _ => id)

theorem holds_rebuild (h : r.Holds s) : r.Holds (rebuild s) :=
  holds_raise _ (holds_armingTest (holds_trimTaken (holds_drawPlan h)))

/-! ### Endings -/

theorem holds_startReturn (h : r.Holds s) : r.Holds (startReturn s) := h.of_records (by simp)

theorem holds_releaseDeck (o : OccOutcome) (h : r.Holds s) : r.Holds (releaseDeck o s) := by
  unfold releaseDeck
  split
  · refine holds_report _ (holds_mapTsc (holds_releaseTransport ?_) le_rfl fun _ => id)
    grind [holds_releaseRecord, holds_startReturn, holds_timerTarget]
  · exact h

theorem holds_handOver (e : PlanEntry) (h : r.Holds s) : r.Holds (handOver e s) := by
  unfold handOver
  extract_lets paused preset
  have hpaused : r.Holds paused := by grind [holds_timerTarget]
  split
  · exact holds_armEntry (fun _ => holds_recordAnswer _) e (holds_orderFor _ _ hpaused)
  · exact holds_armEntry (fun _ => holds_requestRecord _) e hpaused

theorem holds_endActive (o : OccOutcome) (h : r.Holds s) : r.Holds (endActive o s) := by
  unfold endActive
  grind [holds_closeActive, holds_rebuild, holds_handOver, holds_releaseDeck]

theorem holds_endAbruptly (o : OccOutcome) (h : r.Holds s) : r.Holds (endAbruptly o s) := by
  unfold endAbruptly
  grind [holds_closeActive, holds_releaseDeck]

theorem holds_endOccurrence (n d : Nat) (o : OccOutcome) (h : r.Holds s) : r.Holds (endOccurrence n d o s) :=
  holds_withActive h fun a => by grind [holds_endActive]

theorem holds_endWhile (l : List OccState) (o : OccOutcome) (h : r.Holds s) : r.Holds (endWhile l o s) :=
  holds_withActive h fun a => by grind [holds_endActive]

theorem holds_targetDropped (x : Reason) (h : r.Holds s) : r.Holds (targetDropped x s) := by
  unfold targetDropped
  grind [holds_endWhile]

/-! ### The marks of an occurrence -/

theorem holds_preRollTest (h : r.Holds s) : r.Holds (preRollTest s) :=
  holds_withActive h fun a => by grind [holds_setOccState]

theorem holds_pauseReached (h : r.Holds s) : r.Holds (pauseReached s) := by
  unfold pauseReached
  grind [holds_preRollTest, holds_mapActive]

theorem holds_tuningPassed (b : Bool) (h : r.Holds s) : r.Holds (tuningPassed b s) :=
  holds_preRollTest (holds_mapActive h fun _ => rfl)

theorem holds_signalChanged (b : Bool) (h : r.Holds s) : r.Holds (signalChanged b s) :=
  holds_mapActive h fun a => by grind

theorem holds_markDoubtful (h : r.Holds s) : r.Holds (markDoubtful s) := holds_mapActive h fun _ => rfl

theorem holds_recordLeft (h : r.Holds s) : r.Holds (recordLeft s) := holds_mapActive h fun _ => rfl

theorem holds_recordEntered (h : r.Holds s) : r.Holds (recordEntered s) := by
  cases r
  case remaining => exact recordEntered_remaining h
  all_goals
    refine holds_withActive h fun a => ?_
    grind [servo_mapActive, counter_mapActive, holds_setOccState, holds_requestMark]

/-! ### Recording, by time and by label -/

theorem holds_timedStart (h : r.Holds s) : r.Holds (timedStart s) :=
  holds_withActive h fun a => by grind [holds_timerTarget]

theorem holds_signalTimesOut (h : r.Holds s) : r.Holds (signalTimesOut s) :=
  holds_withActive h fun a => by grind [holds_endActive]

theorem holds_timeIsUp (h : r.Holds s) : r.Holds (timeIsUp s) :=
  holds_withActive h fun a => by grind [holds_endActive]

theorem holds_labelActs (st : LabelStatus) (a : Active) (h : r.Holds s) : r.Holds (labelActs st a s) := by
  unfold labelActs
  grind [holds_timerTarget, holds_setOccState, holds_endActive]

theorem holds_labelTaken (n : Nat) (k : BitVec 20) (st : LabelStatus) (h : r.Holds s) : r.Holds (labelTaken n k st s) :=
  holds_withActive h fun a => by
    have seen : r.Holds (mapActive (fun a => { a with labelsSeen := true }) s) := holds_mapActive h fun _ => rfl
    grind [holds_labelActs]

theorem holds_fallbackTest (h : r.Holds s) : r.Holds (fallbackTest s) :=
  holds_withActive h fun a => by grind [holds_mapActive, holds_mapEntry]

theorem holds_labelTrimmed (h : r.Holds s) : r.Holds (labelTrimmed s) :=
  holds_withActive h fun a => by grind [holds_endActive]

/-! ### Windows and clock reports -/

theorem holds_missEntries (h : r.Holds s) : r.Holds (missEntries s) := by
  have written : ∀ (l : List PlanEntry) (u : State), r.Holds u → r.Holds (l.foldl (fun u e =>
      writeResult e.slot { date := e.date, outcome := .missed, run := none, doubtful := false, noSignal := false } u) u) := by
    intro l
    induction l with
    | nil => exact fun _ => id
    | cons e l ih => exact fun u hu => ih _ (holds_writeResult _ _ hu)
  unfold missEntries
  exact holds_mapTsc (written _ s h) le_rfl fun _ => id

theorem holds_windowsClose (h : r.Holds s) : r.Holds (windowsClose s) := by
  unfold windowsClose
  refine holds_withActive ?_ fun a => ?_
  all_goals grind [holds_rebuild, holds_missEntries, holds_endActive]

theorem holds_stopMoves (n : Int) (h : r.Holds s) : r.Holds (stopMoves n s) :=
  holds_withActive h fun _ => holds_mapEntry _ _ _ h

/-- Pairs whose occurrence is over leave the skip list (R155). -/
theorem holds_expireSkip (n : Nat) (h : r.Holds s) : r.Holds (s.mapTsc fun t => { t with skip := expireSkip n t.skip }) :=
  holds_mapTsc h (List.length_filter_le _ _) fun _ => id

theorem holds_clockReported (c : ClockReport) (h : r.Holds s) : r.Holds (clockReported c s) := by
  unfold clockReported
  extract_lets unset trimmed missed moved
  have htrimmed : r.Holds trimmed := by
    dsimp only [trimmed]
    split
    · exact h
    · exact holds_expireSkip _ h
  grind [holds_missEntries, holds_stopMoves, holds_endActive, holds_rebuild]

end

end Sys2Proof.Machine
end

section
/-! SUPPORT. PWR, the host's requests and LNK keep the ranges of the tape path and the timer. -/

namespace Sys2Proof.Machine

section
variable {r : TapeRange} {s : State}

/-! ### Standby and the power-down test -/

theorem holds_setPower (f : Pwr → Pwr) (h : r.Holds s) : r.Holds (setPower f s) := h.of_records (by simp)
theorem holds_rxReset (h : r.Holds s) : r.Holds (rxReset s) := h.of_records (by simp)
theorem holds_testPowerDown (h : r.Holds s) : r.Holds (testPowerDown s) := h.of_records (by simp)
theorem holds_downTest (h : r.Holds s) : r.Holds (downTest s) := h.of_records (by simp)
theorem holds_returnTimerExpires (h : r.Holds s) : r.Holds (returnTimerExpires s) := h.of_records (by simp)

theorem holds_enterStandby (h : r.Holds s) : r.Holds (enterStandby s) :=
  holds_reportFirst _ (holds_reportFirst _ (holds_rxReset (holds_mapPwr _ (holds_captureEmpty (holds_tarStandby
    (holds_setPower _ h))))))

theorem holds_standbyFrom (h : r.Holds s) : r.Holds (standbyFrom s) := by
  unfold standbyFrom
  split
  · exact holds_enterStandby h
  · exact holds_restRequest (holds_setPower _ h)

theorem holds_restReported (h : r.Holds s) : r.Holds (restReported s) := by
  unfold restReported
  grind [holds_enterStandby, holds_downTest]

theorem holds_occurrenceReleased (h : r.Holds s) : r.Holds (occurrenceReleased s) := by
  unfold occurrenceReleased
  grind [holds_standbyFrom, holds_mapPwr, holds_restRequest]

/-! ### Waking and the cassette switch -/

theorem holds_enterOn (c : PowerCause) (h : r.Holds s) : r.Holds (enterOn c s) :=
  holds_report _ (holds_deckPowerUp (holds_setPower _ h))

theorem holds_wakes (x : WakeSignal) (h : r.Holds s) : r.Holds (wakes x s) := by
  refine holds_when h ?_
  grind [holds_enterOn, holds_rxReset, holds_mapPwr]

theorem holds_lineIdle (h : r.Holds s) : r.Holds (lineIdle s) := h.of_records (by simp)

theorem holds_cassetteArrives (b : Bool) (h : r.Holds s) : r.Holds (cassetteArrives b s) := by
  refine holds_when h ?_
  have awake : r.Holds (rxReset ((enterOn .cassette (s.mapPins fun p => { p with cassette := true, tab := b })).mapPwr
      fun p => { p with link := .awake })) :=
    holds_rxReset (holds_mapPwr _ (holds_enterOn _ (holds_mapPins _ h)))
  grind [holds_when, holds_startLoading, holds_mapPins]

theorem holds_cassetteGoes (h : r.Holds s) : r.Holds (cassetteGoes s) :=
  holds_when (holds_mapPins _ h) (holds_cassetteLeaves (holds_mapPins _ h))

/-! ### The primary supply and the resets -/

theorem holds_lnkBackup (h : r.Holds s) : r.Holds (lnkBackup s) := h.of_records (by simp)
theorem holds_clkBackup (b : Bool) (h : r.Holds s) : r.Holds (clkBackup b s) := h.of_records (by simp)
theorem holds_supplyAppears (h : r.Holds s) : r.Holds (supplyAppears s) := h.of_records (by simp)
theorem holds_supplyFails (h : r.Holds s) : r.Holds (supplyFails s) := h.of_records (by simp)

theorem holds_tscBackup (h : r.Holds s) : r.Holds (tscBackup s) := by
  unfold tscBackup
  refine holds_mapTsc ?_ le_rfl fun _ => id
  grind [holds_closeActive]

theorem holds_supplyLoss (h : r.Holds s) : r.Holds (supplyLoss s) := by
  refine holds_when h (holds_mapPwr _ (holds_raise _ (holds_lnkBackup (holds_clkBackup _ (holds_tunerPowerDown
    (holds_tarBackup (holds_mapMec _ (holds_srvRestart (holds_drumStop ?_)))))))))
  exact holds_tpeBackup _ (holds_ctuBackup _ (holds_tscBackup h))

theorem holds_supplyReturns (h : r.Holds s) : r.Holds (supplyReturns s) :=
  holds_when h (holds_report _ (holds_clkResume (holds_recoveryClear _ (holds_mapMec _ (holds_raise _ (holds_raise _
    (holds_mapPwr _ h)))))))

/-- The ranges hold after a power-on reset. -/
theorem holds_reset : r.Holds State.reset := by
  cases r
  case servo => exact ⟨by decide, rfl, by decide⟩
  case counter => exact ⟨⟨by decide, by decide, Nat.zero_le _, Nat.zero_le _⟩, Nat.zero_le _⟩
  case remaining => exact fun a ha => nomatch ha

theorem holds_powerOn (p : Pins) : r.Holds (powerOn p s) := by
  unfold powerOn
  exact holds_enterRecovery _ _ (holds_reset.of_records ⟨rfl, rfl, rfl⟩)

theorem holds_restartBlocks (h : r.Holds s) : r.Holds (restartBlocks s) :=
  holds_report _ (holds_enterOn _ (holds_clkDropCandidate (holds_retuned (holds_tpeRestart (holds_srvRestart
    (holds_enterRecovery _ _ (holds_mapMec _ (holds_endAbruptly _ (holds_ctuRestart (holds_tarRestart h))))))))))

/-! ### Requests -/

/-- What is done after the checks of the fields keeps the ranges where it does. -/
theorem holds_checked (l : List (Nat × Bool)) {f : State → State} (h : r.Holds s) (hf : r.Holds (f s)) :
    r.Holds (checked l f s) := by
  unfold checked
  split
  · exact holds_refuseField _ h
  · exact hf

theorem holds_clearReported (m : BitVec 4) (h : r.Holds s) : r.Holds (clearReported m s) := h.of_records (by simp)

theorem holds_reqStatusClear (a b : Byte) (h : r.Holds s) : r.Holds (reqStatusClear a b s) :=
  holds_checked _ h (holds_replyOk _ (holds_mapLnk _ (holds_clearReported _ h)))

theorem holds_reqNoticeMask (m : BitVec 16) (h : r.Holds s) : r.Holds (reqNoticeMask m s) := by
  refine holds_checked _ h (holds_replyOk _ ?_)
  grind [holds_captureEmpty, holds_mapLnk]

theorem holds_reqStandbyEnter (h : r.Holds s) : r.Holds (reqStandbyEnter s) := by
  unfold reqStandbyEnter
  grind [holds_refuse, holds_replyAccepted, holds_setPower, holds_enterStandby, holds_replyOk, holds_standbyFrom]

theorem holds_takeEndAction (e : Byte) (h : r.Holds s) : r.Holds (takeEndAction e s) := h.of_records (by simp)

theorem holds_deckGoTaken (x : Target) (m : Byte) (g : Grade) (k o e : Byte) (h : r.Holds s) :
    r.Holds (deckGoTaken x m g k o e s) :=
  holds_reply _ (holds_reportIf _ _ (holds_hostTarget _ _ _ (holds_trackingTake _ _ (holds_endSeek _
    (holds_takeEndAction _ h)))))

theorem holds_reqDeckGo (t m g k o e : Byte) (h : r.Holds s) : r.Holds (reqDeckGo t m g k o e s) := by
  unfold reqDeckGo
  split
  · exact holds_refuseField _ h
  · exact holds_refuseField _ h
  · refine holds_checked _ h ?_
    grind [holds_refuse, holds_deckGoTaken]

theorem holds_reqCounterSet (m : Byte) (v : BitVec 32) (h : r.Holds s) : r.Holds (reqCounterSet m v s) := by
  refine holds_checked _ h (holds_replyOk _ (holds_raise _ (holds_setSide (holds_setValue h ?_ ?_ (by simp)))))
  · dsimp only
    split
    · decide
    · exact (counter_clamped _).1
  · dsimp only
    split
    · decide
    · exact (counter_clamped _).2

/-- The match takes a value between the ends of the counter. -/
theorem holds_setMatch (v : Int) (a : MatchAction) (h : r.Holds s) : r.Holds (s.mapCtu fun c =>
    { c with mValue := clampInt counterMin counterMax v, mAction := a, mArmed := true }) := by
  cases r
  case counter =>
    obtain ⟨⟨hv, _, hu, hw⟩, hk⟩ := h
    exact ⟨⟨hv, counter_clamped v, hu, hw⟩, hk⟩
  all_goals exact h

theorem holds_reqMatchDisarm (h : r.Holds s) : r.Holds (reqMatchDisarm s) := holds_replyOk _ (holds_disarmMatch h)

theorem holds_reqMatchSet (a : Byte) (v : BitVec 32) (h : r.Holds s) : r.Holds (reqMatchSet a v s) := by
  unfold reqMatchSet
  split
  · exact holds_replyOk _ (holds_setSide (holds_setMatch _ _ h))
  · split
    · exact holds_reqMatchDisarm h
    · exact holds_refuseField _ h

theorem holds_seekTaken (x : SeekRequest) (h : r.Holds s) : r.Holds (seekTaken x s) := by
  unfold seekTaken
  exact holds_replyAccepted _ (holds_hostTarget _ _ _ (holds_mapCtu (holds_endSeek _ h) (by simp)))

theorem holds_reqCueSeek (a b c d e f g i j k : Byte) (l m : BitVec 16) (h : r.Holds s) :
    r.Holds (reqCueSeek a b c d e f g i j k l m s) := by
  unfold reqCueSeek
  refine holds_checked _ h ?_
  grind [holds_refuse, holds_seekTaken]

theorem holds_reqCueWrite (c : BitVec 16) (h : r.Holds s) : r.Holds (reqCueWrite c s) := by
  refine holds_checked _ h ?_
  grind [holds_refuse, holds_replyAccepted, holds_requestMark]

theorem holds_reqTune (m n : Byte) (f : BitVec 16) (o : Byte) (h : r.Holds s) : r.Holds (reqTune m n f o s) := by
  unfold reqTune
  grind [holds_checked, holds_viewRequest, holds_refuseField]

theorem holds_reqPresetWrite (n : Byte) (f : BitVec 16) (o k x : Byte) (l : List Byte) (h : r.Holds s) :
    r.Holds (reqPresetWrite n f o k x l s) :=
  holds_checked _ h (holds_replyOk _ (holds_tableChange (holds_setPreset _ _ h)))

theorem holds_reqPresetStoreFine (n : Byte) (h : r.Holds s) : r.Holds (reqPresetStoreFine n s) := by
  unfold reqPresetStoreFine
  exact holds_checked _ h (holds_replyOk _ (holds_setPreset _ _ h))

theorem holds_reqPresetErase (n : Byte) (h : r.Holds s) : r.Holds (reqPresetErase n s) :=
  holds_checked _ h (holds_replyOk _ (holds_tableChange (holds_setPreset _ _ h)))

theorem holds_reqScanStop (h : r.Holds s) : r.Holds (reqScanStop s) := by
  unfold reqScanStop
  grind [holds_replyOk, holds_report, holds_scanEnd]

theorem holds_reqZonePut (a b c d e f g i j : Byte) (h : r.Holds s) : r.Holds (reqZonePut a b c d e f g i j s) := by
  unfold reqZonePut
  exact holds_checked _ h (holds_replyOk _ (holds_setZone _ _ _ h))

theorem holds_reqWakeSet (f : Byte) (h : r.Holds s) : r.Holds (reqWakeSet f s) := by
  unfold reqWakeSet
  exact holds_checked _ h (holds_replyOk _ (holds_mapPwr _ h))

theorem holds_reqScanContinue (h : r.Holds s) : r.Holds (reqScanContinue s) := by
  unfold reqScanContinue
  exact holds_checked _ h (holds_replyAccepted _ (holds_scanResume h))

theorem holds_reqCaptureSet (a b : Byte) (h : r.Holds s) : r.Holds (reqCaptureSet a b s) := by
  unfold reqCaptureSet
  exact holds_checked _ h (holds_replyOk _ (holds_mapDld _ h))

theorem holds_reqSetTime (a b c d e f : Byte) (h : r.Holds s) : r.Holds (reqSetTime a b c d e f s) := by
  unfold reqSetTime
  exact holds_checked _ h (holds_replyOk _ (holds_setTime _ h))

theorem holds_reqSyncPut (b : Byte) (h : r.Holds s) : r.Holds (reqSyncPut b s) := by
  unfold reqSyncPut
  exact holds_checked _ h (holds_replyOk _ (holds_setSync _ h))

theorem holds_programmeTaken (n : Nat) (p : Slot) (h : r.Holds s) : r.Holds (programmeTaken n p s) :=
  holds_replyOk _ (holds_rebuild (holds_mapSlot _ _ h))

theorem holds_onceChecks (b : Bool) (d : Nat) {f : State → State} (h : r.Holds s) (hf : r.Holds (f s)) :
    r.Holds (onceChecks b d f s) := by
  unfold onceChecks
  grind [holds_refuse, holds_refuseField]

theorem holds_reqEventPut (a b c d e f g i j k l m n o p q : Byte) (u v : BitVec 24) (w x : Byte) (h : r.Holds s) :
    r.Holds (reqEventPut a b c d e f g i j k l m n o p q u v w x s) := by
  unfold reqEventPut
  split
  · exact holds_refuseField _ h
  split
  · exact holds_refuse _ h
  split
  · exact holds_refuseField _ h
  · exact holds_checked _ h (holds_onceChecks _ _ h (holds_programmeTaken _ _ h))

theorem holds_reqEventArm (n : Byte) (h : r.Holds s) : r.Holds (reqEventArm n s) := by
  unfold reqEventArm
  refine holds_checked _ h ?_
  grind [holds_replyOk, holds_rebuild, holds_mapSlot]

theorem holds_reqEventHold (n : Byte) (h : r.Holds s) : r.Holds (reqEventHold n s) := by
  unfold reqEventHold
  refine holds_checked _ h ?_
  grind [holds_replyOk, holds_refuse, holds_rebuild, holds_mapSlot]

theorem holds_eraseSlot (n : Nat) (h : r.Holds s) : r.Holds (eraseSlot n s) := by
  unfold eraseSlot
  exact holds_rebuild (holds_mapTsc (holds_mapSlot _ _ h) (List.length_filter_le _ _) fun _ => id)

theorem holds_reqEventErase (n : Byte) (h : r.Holds s) : r.Holds (reqEventErase n s) := by
  unfold reqEventErase
  refine holds_checked _ h ?_
  grind [holds_replyOk, holds_refuse, holds_eraseSlot]

/-- A skip list of at most 8 pairs stays one (R154). -/
theorem addSkip_length (p : Nat × Nat) {l : List (Nat × Nat)} (h : l.length ≤ 8) : (addSkip p l).length ≤ 8 := by
  unfold addSkip
  grind

theorem holds_cancelEntry (n d : Nat) (h : r.Holds s) : r.Holds (cancelEntry n d s) := by
  refine holds_rebuild ?_
  cases r
  case counter => exact ⟨h.1, addSkip_length _ h.2⟩
  all_goals exact h

theorem holds_cancelTaken (n d : Nat) (h : r.Holds s) : r.Holds (cancelTaken n d s) := by
  unfold cancelTaken
  grind [holds_replyOk, holds_endActive, holds_cancelEntry]

/-- The owning block's part of a request keeps the ranges. -/
theorem holds_request (i : Instr) (h : r.Holds s) : r.Holds (request i s) := by
  cases i
  case statusGet | deckGet | tapeGet | clockGet | planGet => exact holds_replyOk _ h
  case statusClear a b => exact holds_reqStatusClear a b h
  case noticeMask m => exact holds_reqNoticeMask m h
  case restart => exact holds_replyOk _ (holds_restartBlocks (holds_mapLnk _ h))
  case standbyEnter => exact holds_reqStandbyEnter h
  case standbyCancel => exact holds_replyOk _ (holds_setPower _ h)
  case wakeSet f => exact holds_reqWakeSet f h
  case deckGo t m g k o e => exact holds_reqDeckGo t m g k o e h
  case deckGoStop m g k o e => exact holds_reqDeckGo 0 m g k o e h
  case counterSet m v => exact holds_reqCounterSet m v h
  case matchSet a v => exact holds_reqMatchSet a v h
  case matchSetDisarm => exact holds_reqMatchDisarm h
  case cueSeek => exact holds_reqCueSeek _ _ _ _ _ _ _ _ _ _ _ _ h
  case cueWrite c => exact holds_reqCueWrite c h
  case tune m n f o => exact holds_reqTune m n f o h
  case presetPutWrite => exact holds_reqPresetWrite _ _ _ _ _ _ h
  case presetPutStoreFine n => exact holds_reqPresetStoreFine n h
  case presetPutErase n => exact holds_reqPresetErase n h
  case presetGet | eventGet | resultGet => exact holds_checked _ h (holds_replyOk _ h)
  case scanStart => exact holds_checked _ h (holds_scanRequest _ _ h)
  case scanContinue => exact holds_reqScanContinue h
  case scanStop => exact holds_reqScanStop h
  case viewEnd => exact holds_replyOk _ (holds_viewEnds h)
  case captureSet => exact holds_reqCaptureSet _ _ h
  case clockPutSetTime => exact holds_reqSetTime _ _ _ _ _ _ h
  case clockPutSetTrim => exact holds_replyOk _ (holds_mapClk _ h)
  case zonePut => exact holds_reqZonePut _ _ _ _ _ _ _ _ _ h
  case syncPut => exact holds_reqSyncPut _ h
  case eventPut => exact holds_reqEventPut _ _ _ _ _ _ _ _ _ _ _ _ _ _ _ _ _ _ _ _ h
  case eventStateArm n => exact holds_reqEventArm n h
  case eventStateHold n => exact holds_reqEventHold n h
  case eventStateErase n => exact holds_reqEventErase n h
  case cancel => exact holds_checked _ h (holds_cancelTaken _ _ h)
  all_goals exact h

/-! ### The line -/

theorem holds_linkError (f : Sticky) (h : r.Holds s) : r.Holds (linkError f s) := h.of_records (by simp)
theorem holds_setRx (x : Rx) (h : r.Holds s) : r.Holds (setRx x s) := holds_mapLnk _ h
theorem holds_rxError (h : r.Holds s) : r.Holds (rxError s) := holds_setRx _ (holds_linkError _ h)

theorem holds_rxByte (b : Byte) (h : r.Holds s) : r.Holds (rxByte b s) := by
  unfold rxByte
  grind [holds_setRx, holds_rxError, holds_report]

theorem holds_byteArrives (b : Byte) (h : r.Holds s) : r.Holds (byteArrives b s) := holds_when h (holds_rxByte b h)

theorem holds_framingError (b : Byte) (h : r.Holds s) : r.Holds (framingError b s) := by
  refine holds_when h (holds_rxByte _ ?_)
  grind [holds_rxByte]

theorem holds_intoBuffer (k : Byte) {f : State → State} (h : r.Holds s) (hf : ∀ u, r.Holds u → r.Holds (f u)) :
    r.Holds (intoBuffer k f s) := by
  unfold intoBuffer
  split
  · exact holds_linkError _ h
  · exact hf _ (holds_mapLnk _ h)

theorem holds_arrives (k : Byte) {f : State → State} (h : r.Holds s) (hf : ∀ u, r.Holds u → r.Holds (f u)) :
    r.Holds (arrives k f s) := holds_when h (holds_intoBuffer k h hf)

theorem holds_requestRead (k : Byte) (l : List Byte) (h : r.Holds s) : r.Holds (requestRead k l s) := by
  unfold requestRead
  grind [holds_reply, holds_refuseField, holds_request]

theorem holds_frameTested (n : Nat) (l : List Byte) (b : Byte) (h : r.Holds s) : r.Holds (frameTested n l b s) := by
  unfold frameTested
  split
  · split
    · exact holds_intoBuffer _ h fun _ => holds_requestRead _ _
    · exact h
  · exact holds_linkError _ h

/-! ### The reports and the end of a command -/

theorem holds_takeReport (x : Report) (h : r.Holds s) : r.Holds (takeReport x s) := by
  cases x
  case endStop => exact holds_endStop h
  case beginStop => exact holds_beginStop h
  case endAction => exact holds_applyEndAction h
  case servoLost => exact holds_servoLost h
  case recover => exact holds_recoverTaken h
  case targetDropped x => exact holds_targetDropped x h
  case noLock | lostInRecord | tapeEndInRecord | stallInRecord | deckFault | hostStop | noChannel =>
    exact holds_endWhile _ _ h
  case unstable => exact holds_markDoubtful h
  case enteredRecord => exact holds_recordEntered h
  case leftRecord => exact holds_recordLeft h
  case paused => exact holds_pauseReached h
  case tuningPassed b => exact holds_tuningPassed b h
  case signalChange b => exact holds_signalChanged b h
  case label n k st => exact holds_labelTaken n k st h
  case clock c => exact holds_clockReported c h
  case rebuild => exact holds_rebuild h
  case occEnd n d o => exact holds_endOccurrence n d o h
  case hostRecStart => exact holds_hostRecordStarts h
  case hostRecEnd => exact holds_hostRecordEnds h
  case tuningDone b => exact holds_completionPassed b h
  case scanEnded => exact holds_scanReleases h
  case syncGranted => exact holds_syncGranted h
  case syncResult x => exact holds_syncFailed x h
  case sourceExists b => exact holds_sourceReported b h
  case visitTest => exact holds_visitTest h
  case timePacket u o m b => exact holds_timePacketTaken u o m b h
  case rest => exact holds_restReported h
  case downTest => exact holds_downTest h
  case released => exact holds_occurrenceReleased h
  case frame n l c => exact holds_when h (holds_frameTested n l c h)

theorem holds_settle (n : Nat) : ∀ {s : State}, r.Holds s → r.Holds (settle n s) := by
  induction n with
  | zero => exact fun h => h
  | succ n ih =>
    intro s h
    unfold settle
    split
    · exact h
    · exact ih (holds_takeReport _ (h.of_records ⟨rfl, rfl, rfl⟩))

theorem holds_settled (h : r.Holds s) : r.Holds (settled s) := by
  unfold settled
  exact (holds_settle Config.reportBound h).of_records (by simp)

theorem holds_rxBytes (l : List Byte) (h : r.Holds s) : r.Holds (rxBytes l s) := by
  have bytes : ∀ (l : List Byte) (u : State), r.Holds u → r.Holds (l.foldl byteSettles u) := by
    intro l
    induction l with
    | nil => exact fun _ => id
    | cons b l ih =>
      refine fun u hu => ih _ ?_
      unfold byteSettles
      grind [holds_byteArrives, holds_settled]
  unfold rxBytes
  split
  · exact h
  · exact holds_byteArrives _ (bytes _ s h)

end

end Sys2Proof.Machine
end

section
/-! Every row of the table, and so every step, keeps the ranges of the tape path and the timer. -/

namespace Sys2Proof.Machine

section
variable {r : TapeRange} {s : State}

/-! ### The rows that are no request -/

theorem holds_switchReads (p : ModePos) (h : r.Holds s) : r.Holds (switchReads p s) :=
  holds_when (holds_mapPins _ h) (holds_modeSwitch _ (holds_mapPins _ h))

theorem holds_endLights (h : r.Holds s) : r.Holds (endLights s) :=
  holds_when h (holds_when (holds_mapPins _ h) (holds_endStop (holds_stallFollow (holds_mapPins _ h))))

theorem holds_beginLights (h : r.Holds s) : r.Holds (beginLights s) :=
  holds_when h (holds_when (holds_mapPins _ h) (holds_beginStop (holds_stallFollow (holds_mapPins _ h))))

theorem holds_sensorDarkens (x : LeaderSensor) (h : r.Holds s) : r.Holds (sensorDarkens x s) :=
  holds_when (holds_mapPins _ h) (holds_stallFollow (holds_mapPins _ h))

theorem holds_tuningEnds (a b : Bool) (h : r.Holds s) : r.Holds (tuningEnds a b s) :=
  holds_when (holds_setDetectors _ _ h) (holds_tuningCompletes (holds_setDetectors _ _ h))

theorem holds_readingTimer (a b : Bool) (d : Disc) (h : r.Holds s) : r.Holds (readingTimer a b d s) :=
  holds_when (holds_setDetectors _ _ h) (holds_detectorRead _ (holds_setDetectors _ _ h))

theorem holds_scanTimer (p : ScanPhase) (a b : Bool) {f : State → State} (h : r.Holds s)
    (hf : ∀ u, r.Holds u → r.Holds (f u)) : r.Holds (scanTimer p a b f s) :=
  holds_when (holds_setDetectors _ _ h) (hf _ (holds_setDetectors _ _ h))

/-! ### Every row -/

/-- A row whose effect keeps the ranges leaves them kept as its command ends. -/
theorem holds_done {u t : State} (hu : r.Holds u) (ht : done u = .next t) : r.Holds t := by
  cases ht
  exact holds_settled hu

/-- The row of a request is its good frame (log 6). -/
theorem exec_request {i : Instr} {k : Byte} {b : List Byte} (h : encodeRequest i = some (k, b)) (s : State) :
    exec i s = done (arrives k (request i) s) := by
  cases i <;> cases h <;> rfl

theorem holds_exec {i : Instr} {t : State} (h : r.Holds s) (ht : exec i s = .next t) : r.Holds t := by
  cases hk : encodeRequest i with
  | some kb =>
    rw [exec_request hk] at ht
    exact holds_done (holds_arrives _ h fun _ => holds_request i) ht
  | none =>
    cases i
    case frameComplete => exact holds_done (holds_rxBytes _ h) ht
    case framingError => exact holds_done (holds_framingError _ h) ht
    case interByteTimeout | lineError => exact holds_done (holds_when h (holds_rxError h)) ht
    case transmitFrameEnd => exact holds_done (holds_mapLnk _ h) ht
    case wakeEvent x => exact holds_done (holds_wakes x h) ht
    case wakingByteDiscard => exact holds_done h ht
    case linkIdleAwake => exact holds_done (holds_lineIdle h) ht
    case cassetteInserted b => exact holds_done (holds_cassetteArrives b h) ht
    case cassetteRemoved => exact holds_done (holds_cassetteGoes h) ht
    case motionComplete p => exact holds_done (holds_switchReads p h) ht
    case motionTimeout => exact holds_done (holds_when h (holds_motionTimeout h)) ht
    case spinUpTimeout => exact holds_done (holds_when h (holds_spinFails h)) ht
    case idleTimeout => exact holds_done (holds_when h (holds_idleExpires h)) ht
    case endSensorLit => exact holds_done (holds_endLights h) ht
    case beginSensorLit => exact holds_done (holds_beginLights h) ht
    case reelStall => exact holds_done (holds_when h (holds_reelStalls h)) ht
    case servoFrame => exact holds_done (holds_when h (holds_servoFrameTaken _ _ h)) ht
    case trackingReading => exact holds_done (holds_when h (holds_sweepReading _ h)) ht
    case controlPulseRead => exact holds_done (holds_when h (holds_pulseRead _ h)) ht
    case blankDetected => exact holds_done (holds_when h (holds_goBlank h)) ht
    case framesUnreadLimit => exact holds_done (holds_when h (holds_sourceToStep h)) ht
    case capstanStep => exact holds_done (holds_when h (holds_capstanStepTaken h)) ht
    case controlPulseWrite => exact holds_done (holds_when h (holds_pulseWritten h)) ht
    case reelTachoEdge => exact holds_done (holds_when h (holds_reelEdge _ _ h)) ht
    case windRevolutionOverflow => exact holds_done (holds_when h (holds_revOverflow _ h)) ht
    case tuningComplete => exact holds_done (holds_tuningEnds _ _ h) ht
    case detectorReading => exact holds_done (holds_readingTimer _ _ _ h) ht
    case scanDwellEnd => exact holds_done (holds_scanTimer _ _ _ h fun _ => holds_scanDwellRead _) ht
    case scanFineStepEnd => exact holds_done (holds_scanTimer _ _ _ h fun _ => holds_scanFineRead _) ht
    case scanFinalHoldEnd => exact holds_done (holds_scanTimer _ _ _ h fun _ => holds_scanHoldRead) ht
    case syncWaitLimit => exact holds_done (holds_waitLimitReached h) ht
    case minimumHoldExpiry => exact holds_done (holds_minimumHoldOver h) ht
    case holdLimitExpiry => exact holds_done (holds_holdLimitOver h) ht
    case packetArrival => exact holds_done (holds_packetArrives _ h) ht
    case clockSecondAdvance => exact holds_done (holds_clockSecond h) ht
    case candidateExpiry => exact holds_done (holds_candidateExpires h) ht
    case visitAgeLimit => exact holds_done (holds_visitAgeReached h) ht
    case syncRetryExpiry => exact holds_done (holds_retryExpires h) ht
    case armingMoment => exact holds_done (holds_when h (holds_armingTest h)) ht
    case timedRecordStart => exact holds_done (holds_when h (holds_timedStart h)) ht
    case signalTimeout => exact holds_done (holds_when h (holds_signalTimesOut h)) ht
    case recordingTimeUp => exact holds_done (holds_when h (holds_timeIsUp h)) ht
    case labelFallbackTest => exact holds_done (holds_when h (holds_fallbackTest h)) ht
    case windowEnd => exact holds_done (holds_when h (holds_windowsClose h)) ht
    case labelTrimmedStop => exact holds_done (holds_when h (holds_labelTrimmed h)) ht
    case returnTimerExpiry => exact holds_done (holds_returnTimerExpires h) ht
    case supplyLost => exact holds_done (holds_supplyLoss h) ht
    case supplyPresent => exact holds_done (holds_supplyAppears h) ht
    case supplyAbsentReturning => exact holds_done (holds_supplyFails h) ht
    case supplyReturn => exact holds_done (holds_supplyReturns h) ht
    case powerOnReset => exact holds_done (holds_powerOn _) ht
    case clockTick => exact holds_done (holds_clockTicks h) ht
    case endOrBeginSensorDark x => exact holds_done (holds_sensorDarkens x h) ht
    all_goals nomatch hk

theorem holds_step {t : State} (h : r.Holds s) (ht : step s = .next t) : r.Holds t := by
  unfold step at ht
  split at ht
  · cases ht
    exact h
  · refine holds_exec ?_ ht
    exact h.of_records ⟨rfl, rfl, rfl⟩

end

end Sys2Proof.Machine

namespace Sys2Proof.Proofs
open Sys2Proof.Machine

/-- Settles O59: each group of ranges is kept by every operation of the blocks, and so by every row of the table. -/
theorem tapeRangesKept : Obligations.TapeRangesKept :=
  ⟨fun _ _ h ht => holds_step (r := .servo) h ht, fun _ _ h ht => holds_step (r := .counter) h ht,
    fun _ _ h ht => holds_step (r := .remaining) h ht⟩

/-- Settles O60: the records of the reset state, read off; a slot or a preset of any number is one of the empty ones. -/
theorem rangesHoldAtReset : Obligations.RangesHoldAtReset := by
  have slots (n : Nat) : (State.reset.slot n).state = .empty := by
    by_cases hn : n < 16 <;> simp [State.slot, State.reset, Tsc.reset, Slot.reset, hn]
  have presets (n : Nat) : (State.reset.preset n).used = false := by
    unfold State.preset
    split
    · rfl
    · by_cases hn : n - 1 < 99 <;> simp [State.reset, Tun.reset, Preset.empty, hn]
  refine ⟨⟨⟨Nat.zero_le _, by decide⟩, holds_reset (r := .servo), (holds_reset (r := .counter)).1,
    (holds_reset (r := .counter)).2, holds_reset (r := .remaining)⟩, ?_⟩
  exact ⟨rfl, rfl, rfl, rfl, rfl, rfl, rfl, rfl, rfl, rfl, rfl, rfl, rfl, rfl, rfl, rfl, rfl, slots, presets⟩

end Sys2Proof.Proofs
end

section
/-! COUNTER_SET, MATCH_SET and CUE_WRITE (R43, R52, R53). -/

namespace Sys2Proof.Machine

section
variable {s : State}

/-! ### A request that is taken at once -/

/-- The state in which a request's owner acts: the buffer holds the request's kind. -/
def State.holding (kind : Byte) (s : State) : State := s.mapLnk fun l => { l with buffer := some kind }

/-- A request whose owner makes no report ends with the transmit arbiter. -/
theorem exec_answered {i : Instr} {kind : Byte} {body : List Byte} {act : State → State} {u : State}
    (hk : encodeRequest i = some (kind, body)) (ha : request i = act) (hl : s.Listens) (h : act (s.holding kind) = u)
    (hu : u.reports = []) : exec i s = .next (transmit u) := by
  rw [exec_request hk, ha, arrives_listened hl, ← State.holding, h, done_quiet hu]

/-! ### The counter's range -/

theorem clampInt_eq {low high : Int} (h : low ≤ high) (x : Int) : clampInt low high x = max low (min high x) := by
  unfold clampInt
  omega

theorem counterValue_eq (v : BitVec 32) : counterValue v = max (-1080000) (min 1079999 v.toInt) :=
  clampInt_eq (by decide) _

/-! ### COUNTER_SET and MATCH_SET (R52, R53) -/

theorem isWind_iff {n : TState} : n.isWind = true ↔ n = .windFwd ∨ n = .windRev := by
  cases n <;> simp [TState.isWind]

theorem reqCounterSet_bad {mode : Byte} (h : 1 < mode.toNat) (v : BitVec 32) (s : State) :
    reqCounterSet mode v s = reply (.refused .fieldRange 1) s := by
  simp [reqCounterSet, checked_cons, above, h, refuseField]

/-- COUNTER_SET with a mode of its list. -/
theorem reqCounterSet_eq {mode : Byte} (h : mode.toNat ≤ 1) (v : BitVec 32) (s : State) :
    reqCounterSet mode v s =
      let n : Int := if mode = 0 then 0 else counterValue v
      reply (.ok .counter) (raise .counter (s.mapCtu fun c => { c with
        value := n, acc := 0, begun := false, uncertain := false,
        windRef := if s.mec.state.isWind ∧ s.tpe.profile = .calibrated then s.tpe.ls.map Int.ofNat else c.windRef,
        mSide := sideOf n c.mValue })) := by
  simp [reqCounterSet, checked_cons, checked_nil, above, show ¬1 < mode.toNat by omega, setSide, replyOk, State.mapCtu]

/-- The match action a byte names. -/
def matchActionOf (a : Byte) : MatchAction := if a = 0 then .notify else if a = 1 then .stop else .stopThenPlay

theorem pick_matchActions {a : Byte} (h : a.toNat < 3) : pick matchActions a = some (matchActionOf a) := by
  obtain ⟨n, hn, rfl⟩ : ∃ n, n < 3 ∧ a = BitVec.ofNat 8 n := ⟨a.toNat, h, by simp⟩
  interval_cases n <;> rfl

theorem reqMatchSet_bad {a : Byte} (h : 3 < a.toNat) (v : BitVec 32) (s : State) :
    reqMatchSet a v s = reply (.refused .fieldRange 1) s := by
  have hp : pick matchActions a = none := List.getElem?_eq_none (by simp [matchActions]; omega)
  have ha : a ≠ 3 := fun ha => by simp [ha] at h
  simp only [reqMatchSet, hp, ha, if_false, refuseField]

/-- MATCH_SET with an action that arms the match. -/
theorem reqMatchSet_eq {a : Byte} (h : a.toNat < 3) (v : BitVec 32) (s : State) :
    reqMatchSet a v s = reply (.ok .matchRec) (s.mapCtu fun c => { c with
      mValue := counterValue v, mAction := matchActionOf a, mArmed := true, mSide := sideOf c.value (counterValue v) }) := by
  simp [reqMatchSet, pick_matchActions h, setSide, replyOk, State.mapCtu]

/-! ### CUE_WRITE (R43) -/

theorem reqCueWrite_bad {c : BitVec 16} (h : 32768 ≤ c.toNat) (s : State) :
    reqCueWrite c s = reply (.refused .fieldRange 1) s := by
  simp [reqCueWrite, checked_cons, show 32767 < c.toNat by omega, refuseField]

theorem requestMark_free {code : Nat} {o : Owner} (h : s.ctu.writing = none) :
    requestMark code o s = (.writing, s.mapCtu fun c => { c with writing := some { code := code, origin := o, pos := 1 } }) := by
  simp [requestMark, h]

theorem requestMark_waits {code : Nat} {o : Owner} (h : s.ctu.writing.isSome) (hw : s.ctu.waiting = none) :
    requestMark code o s = (.waits, s.mapCtu fun c => { c with waiting := some (code, o) }) := by
  obtain ⟨m, hm⟩ := Option.isSome_iff_exists.mp h
  simp [requestMark, hm, hw]

theorem requestMark_full {code : Nat} {o : Owner} (h : s.ctu.writing.isSome) (hw : s.ctu.waiting.isSome) :
    requestMark code o s = (.full, s) := by
  obtain ⟨m, hm⟩ := Option.isSome_iff_exists.mp h
  obtain ⟨w, hw⟩ := Option.isSome_iff_exists.mp hw
  simp [requestMark, hm, hw]

/-- CUE_WRITE with a code of its range: the transport state, and then what the cue writer answers. -/
theorem reqCueWrite_eq {c : BitVec 16} (h : c.toNat < 32768) (s : State) :
    reqCueWrite c s =
      if s.mec.state = .empty ∨ s.mec.state = .ejecting then reply (.refused .noCassette 0) s
      else if s.mec.state ≠ .record then reply (.refused .notThreaded 0) s
      else match (requestMark c.toNat .host s).1 with
        | .writing | .waits => reply (.accepted .cueWrite) (requestMark c.toNat .host s).2
        | .full => reply (.refused .cueBusy 0) (requestMark c.toNat .host s).2 := by
  simp only [reqCueWrite, checked_cons, checked_nil, show ¬32767 < c.toNat by omega, decide_false, Bool.false_eq_true,
    if_false, refuse, replyAccepted] <;> rfl

section
variable {c : BitVec 16}

theorem reqCueWrite_empty (h : c.toNat < 32768) (hs : s.mec.state = .empty ∨ s.mec.state = .ejecting) :
    reqCueWrite c s = reply (.refused .noCassette 0) s := by
  rw [reqCueWrite_eq h, if_pos hs]

theorem reqCueWrite_out (h : c.toNat < 32768) (he : s.mec.state ≠ .empty) (hj : s.mec.state ≠ .ejecting)
    (hr : s.mec.state ≠ .record) : reqCueWrite c s = reply (.refused .notThreaded 0) s := by
  rw [reqCueWrite_eq h, if_neg (by simp [he, hj]), if_pos hr]

theorem reqCueWrite_free (h : c.toNat < 32768) (hs : s.mec.state = .record) (hw : s.ctu.writing = none) :
    reqCueWrite c s = reply (.accepted .cueWrite)
      (s.mapCtu fun u => { u with writing := some { code := c.toNat, origin := .host, pos := 1 } }) := by
  simp [reqCueWrite_eq h, hs, requestMark_free hw]

theorem reqCueWrite_waits (h : c.toNat < 32768) (hs : s.mec.state = .record) (hw : s.ctu.writing.isSome)
    (hn : s.ctu.waiting = none) :
    reqCueWrite c s = reply (.accepted .cueWrite) (s.mapCtu fun u => { u with waiting := some (c.toNat, .host) }) := by
  simp [reqCueWrite_eq h, hs, requestMark_waits hw hn]

theorem reqCueWrite_full (h : c.toNat < 32768) (hs : s.mec.state = .record) (hw : s.ctu.writing.isSome)
    (hn : s.ctu.waiting.isSome) : reqCueWrite c s = reply (.refused .cueBusy 0) s := by
  simp [reqCueWrite_eq h, hs, requestMark_full hw hn]

end

end

end Sys2Proof.Machine

namespace Sys2Proof.Proofs
open Sys2Proof.Machine

/-- Settles O14, for each request from its field refusal and its equation. -/
theorem counterAndMatchSet : Obligations.CounterAndMatchSet := by
  refine ⟨fun mode v s hl hq => ⟨fun h => ?_, fun h => ?_⟩, fun action v s hl hq => ⟨fun h => ?_, fun h => ?_⟩⟩
  · exact exec_answered (act := reqCounterSet mode v) rfl rfl hl (reqCounterSet_bad h v _) hq
  · refine exec_answered (act := reqCounterSet mode v) rfl rfl hl ?_ hq
    simp [reqCounterSet_eq h, State.holding, isWind_iff, counterValue_eq, reply_eq, raise_eq, linkAwake_mode hl.1,
      Notice.bit, State.mapCtu, State.mapLnk, sideOf]
  · exact exec_answered (act := reqMatchSet action v) rfl rfl hl (reqMatchSet_bad h v _) hq
  · refine exec_answered (act := reqMatchSet action v) rfl rfl hl ?_ hq
    simp [reqMatchSet_eq h, State.holding, State.answering, counterValue_eq, reply_eq, matchActionOf, State.mapCtu,
      State.mapLnk, sideOf]

/-- Settles O18, along CUE_WRITE's refusals and the cue writer's three answers. -/
theorem cueWriteTakesOneAndHoldsOne : Obligations.CueWriteTakesOneAndHoldsOne := by
  refine ⟨fun c s hl hq => ⟨fun h => ?_, fun h hs => ?_, fun h he hj hr => ?_, fun h hs hw => ?_, fun h hs hw hn => ?_,
    fun h hs hw hn => ?_⟩, fun n s => ⟨fun h => ?_, fun h => ?_⟩⟩
  · exact exec_answered (act := reqCueWrite c) rfl rfl hl (reqCueWrite_bad h _) hq
  · exact exec_answered (act := reqCueWrite c) rfl rfl hl (reqCueWrite_empty (s := s.holding 0x15) h hs) hq
  · exact exec_answered (act := reqCueWrite c) rfl rfl hl (reqCueWrite_out (s := s.holding 0x15) h he hj hr) hq
  · exact exec_answered (act := reqCueWrite c) rfl rfl hl (reqCueWrite_free (s := s.holding 0x15) h hs hw) hq
  · exact exec_answered (act := reqCueWrite c) rfl rfl hl (reqCueWrite_waits (s := s.holding 0x15) h hs hw hn) hq
  · exact exec_answered (act := reqCueWrite c) rfl rfl hl (reqCueWrite_full (s := s.holding 0x15) h hs hw hn) hq
  · simp [replyBody, Ctu.hostWaits, flagByte, h]
  · rcases h with h | h <;> simp [replyBody, Ctu.hostWaits, flagByte, h]

end Sys2Proof.Proofs
end

section
/-! A movement of the counter (R48 to R54) and the capstan steps (R38, R49, R60, R61). -/

namespace Sys2Proof.Machine

section
variable {s : State}

/-! ### Rows of the deck -/

/-- In ON with the deck powered, a row of the deck without a report ends with the transmit arbiter. -/
theorem done_powered {f : State → State} (hm : s.pwr.mode = .on) (hd : s.pwr.deckUp = true) (hq : (f s).reports = []) :
    done (when s.deckPowered f s) = .next (transmit (f s)) := by
  rw [when_powered hm hd, done_quiet hq]

/-- The states that read pulses, as the rules list them. -/
theorem readsPulses_iff {n : TState} : n.readsPulses = true ↔ n = .play ∨ n = .searchFwd ∨ n = .searchRev := by
  cases n <;> simp [TState.readsPulses]

/-- A reading state travels back in SEARCH_REV only. -/
theorem reverse_of_reads {n : TState} (h : n.readsPulses = true) : n.reverse = (n == .searchRev) := by
  rcases readsPulses_iff.mp h with rfl | rfl | rfl <;> rfl

theorem travel_of_reads {n : TState} (h : n.readsPulses = true) : n.travel = if n = .searchRev then -1 else 1 := by
  simp [TState.travel, reverse_of_reads h]

theorem measures_iff {n : TState} : n.measures = true ↔ n.readsPulses = true ∨ n = .record := by
  cases n <;> simp [TState.readsPulses, TState.measures]

/-! ### The counter's movement -/

/-- The counter's record after a movement. -/
def Ctu.moved (frames : Int) (c : Ctu) : Ctu :=
  { c with value := max (-1080000) (min 1079999 (c.value + frames)), begun := false }

@[simp] theorem moveValue_ctu (frames : Int) (s : State) : (moveValue frames s).ctu = s.ctu.moved frames := by
  simp [moveValue, raiseIf_eq, Ctu.moved, clampInt_eq, counterMin, counterMax]

@[simp] theorem moveValue_sans (frames : Int) (s : State) :
    (moveValue frames s).lnk.sansNotices = s.lnk.sansNotices := by
  simp [moveValue, setBegun]

/-- A disarmed match makes no test: a movement only sets its side. -/
theorem testMatch_disarmed (h : s.ctu.mArmed = false) : testMatch s = setSide s := by
  simp [testMatch, Ctu.crosses, h]

theorem moveCounter_certain {frames : Int} (h : s.ctu.uncertain = false) :
    moveCounter frames s = testMatch (moveValue frames s) := by
  simp [moveCounter, h]

/-- A movement with the match disarmed. -/
theorem moveCounter_disarmed {frames : Int} (hu : s.ctu.uncertain = false) (ha : s.ctu.mArmed = false) :
    moveCounter frames s = setSide (moveValue frames s) := by
  rw [moveCounter_certain hu, testMatch_disarmed (by simpa [Ctu.moved] using ha)]

/-! ### Capstan steps -/

/-- A reel's record after a capstan step. -/
def ReelRec.stepped (r : ReelRec) : ReelRec := { r with rev := r.rev.map fun v => { v with count := min 65535 (v.count + 1) } }

/-- TPE's record after a capstan step of a measuring state. -/
def Tpe.stepped (t : Tpe) : Tpe :=
  { t with spacing := t.spacing.map (· + 1), supply := t.supply.stepped, takeup := t.takeup.stepped }

/-- SRV's record after a capstan step. -/
def State.steppedSrv (s : State) : Srv :=
  if s.mec.state = .play then { s.srv with pulseSteps := s.srv.pulseSteps.map (· + 1) } else s.srv

/-- A capstan step of a reading state as far as the counter. -/
def State.stepMeasured (s : State) : State := { s with tpe := s.tpe.stepped, srv := s.steppedSrv }

theorem capstanStepTaken_reads (h : s.mec.state.readsPulses = true) : capstanStepTaken s = counterStep s.stepMeasured := by
  have hm := measures_iff.mpr (.inl h)
  simp only [capstanStepTaken, hm, h, State.stepMeasured, State.steppedSrv, if_true]
  split <;> rfl

theorem capstanStepTaken_record (h : s.mec.state = .record) : capstanStepTaken s = { s with tpe := s.tpe.stepped } := by
  simp only [capstanStepTaken, h]
  rfl

theorem capstanStepTaken_other (h : s.mec.state.measures = false) : capstanStepTaken s = s := by
  obtain ⟨hr, hrec⟩ : s.mec.state.readsPulses = false ∧ s.mec.state ≠ .record := by
    simpa [measures_iff] using mt measures_iff.mpr (by simp [h])
  have hp : s.mec.state ≠ .play := fun hp => by simp [hp, TState.measures] at h
  simp [capstanStepTaken, h, hr, hp]

/-- The counter's record after a capstan step that fills no frame. -/
def Ctu.stepped (back : Bool) (c : Ctu) : Ctu := { c with acc := c.acc + 1, accDir := if back then .rev else .fwd }

theorem counterStep_counts {f : Nat} (hb : stepsPerFrame s.srv.basis = f)
    (h : s.ctu.source = .pulse ∨ s.ctu.acc + 1 < f) :
    counterStep s = { s with ctu := s.ctu.stepped s.mec.state.reverse } := by
  subst hb
  have hn : ¬(s.ctu.source = .step ∧ stepsPerFrame s.srv.basis ≤ s.ctu.acc + 1) := by
    rcases h with h | h
    · simp [h]
    · omega
  simp [counterStep, hn, Ctu.stepped, State.mapCtu]

/-- The step that fills a frame. -/
theorem counterStep_fills {f : Nat} (hb : stepsPerFrame s.srv.basis = f) (hs : s.ctu.source = .step)
    (hf : f ≤ s.ctu.acc + 1) :
    counterStep s = moveCounter s.mec.state.travel
      { s with ctu := { s.ctu.stepped s.mec.state.reverse with acc := 0 } } := by
  simp [counterStep, hs, hb, hf, Ctu.stepped, State.mapCtu]

theorem exec_capstanStep (s : State) : exec .capstanStep s = done (when s.deckPowered capstanStepTaken s) := rfl

end

end Sys2Proof.Machine

namespace Sys2Proof.Proofs
open Sys2Proof.Machine

/-- Settles O31: in a reading state the step goes on to the counter, which counts it or moves by the frame it fills. -/
theorem capstanStepIsCounted : Obligations.CapstanStepIsCounted := by
  intro s hq hm hd f reel measured reads srv dir
  have hf : f = stepsPerFrame s.srv.basis := by
    cases h : s.srv.basis <;> simp [f, h, stepsPerFrame]
  have hb : stepsPerFrame s.steppedSrv.basis = f := by
    unfold State.steppedSrv
    split <;> exact hf.symm
  have hdir (hr : s.mec.state.readsPulses = true) : (if s.mec.state.reverse = true then Dir.rev else .fwd) = dir := by
    simp [dir, reverse_of_reads hr]
  refine ⟨fun hr hc => ?_, fun hr hs hc hu ha => ?_, fun hr => ?_, fun hr hn => ?_⟩
  · have hr := readsPulses_iff.mpr hr
    have h : capstanStepTaken s =
        { s with tpe := measured, srv := srv, ctu := { s.ctu with acc := s.ctu.acc + 1, accDir := dir } } := by
      rw [← hdir hr]
      exact (capstanStepTaken_reads hr).trans (counterStep_counts (s := s.stepMeasured) hb hc)
    rw [exec_capstanStep, done_powered hm hd (by rw [h]; exact hq), h]
  · have hr := readsPulses_iff.mpr hr
    have h := (capstanStepTaken_reads hr).trans 
      ((counterStep_fills (s := s.stepMeasured) hb hs hc).trans (moveCounter_disarmed hu ha))
    refine ⟨_, by rw [exec_capstanStep, done_powered hm hd (by rw [h]; simpa [setSide, State.stepMeasured] using hq)], ?_⟩
    simp [h, setSide, State.stepMeasured, Ctu.moved, Ctu.stepped, travel_of_reads hr, hs]
    exact ⟨hdir hr, rfl, rfl⟩
  · have h := capstanStepTaken_record hr
    rw [exec_capstanStep, done_powered hm hd (by rw [h]; exact hq), h]
    rfl
  · have hx : ¬s.mec.state.measures = true := by
      rw [measures_iff, readsPulses_iff]
      exact fun h => h.elim hr hn
    have h := capstanStepTaken_other (eq_false_of_ne_true hx)
    rw [exec_capstanStep, done_powered hm hd (by rw [h]; exact hq), h]

end Sys2Proof.Proofs
end

section
/-! Frames without a pulse, frames unread, and the tracking sweep (R36, R37, R39, R48, R49). -/

namespace Sys2Proof.Machine

section
variable {s : State}

/-! ### The counter source (R48, R49) -/

/-- The frames the accumulator holds, as source STEP begins. -/
theorem sourceToStep_eq (h : s.ctu.source = .pulse) :
    sourceToStep s =
      let u := { s with ctu := { s.ctu with unread := 60, source := .step, acc := s.ctu.acc % stepsPerFrame s.srv.basis } }
      if s.ctu.acc / stepsPerFrame s.srv.basis = 0 then u
      else moveCounter (s.mec.state.travel * (s.ctu.acc / stepsPerFrame s.srv.basis : Nat)) u := by
  simp [sourceToStep, h, State.mapCtu]

theorem exec_blankDetected (s : State) :
    exec .blankDetected s =
      done (when (s.deckPowered && s.mec.state == .play && decide (s.srv.noPulse < 60)) goBlank s) := rfl

theorem exec_framesUnreadLimit (s : State) :
    exec .framesUnreadLimit s =
      done (when (s.deckPowered && s.mec.state.readsPulses && decide (s.ctu.unread < 60)) sourceToStep s) := rfl

/-- The row of the frames unread, where it has its effect. -/
theorem exec_framesUnread (hm : s.pwr.mode = .on) (hd : s.pwr.deckUp = true) (hr : s.mec.state.readsPulses = true)
    (hu : s.ctu.unread < 60) : exec .framesUnreadLimit s = done (sourceToStep s) := by
  simp [exec_framesUnreadLimit, deckPowered_on hm hd, hr, hu, when_true]

/-! ### The sweep (R37) -/

theorem sweepUp_moves {phase : SweepPhase} {f : State → State} (h : s.srv.base ≠ 63) :
    sweepUp phase f s = { s with srv := { s.srv with phase := phase, offset := min 63 (s.srv.base + 4) } } := by
  simp [sweepUp, h, State.mapSrv]

theorem sweepDown_moves {phase : SweepPhase} (h : s.srv.base ≠ -64) :
    sweepDown phase s = { s with srv := { s.srv with phase := phase, offset := max (-64) (s.srv.base - 4) } } := by
  simp [sweepDown, h, State.mapSrv]

theorem sweepUp_bound {phase : SweepPhase} {f : State → State} (h : s.srv.base = 63) : sweepUp phase f s = f s := by
  simp [sweepUp, h]

theorem sweepDown_bound {phase : SweepPhase} (h : s.srv.base = -64) : sweepDown phase s = sweepHold s := by
  simp [sweepDown, h]

theorem sweepReading_measure {r : Nat} (hp : s.srv.phase = .measure) :
    sweepReading r s = sweepUp .tryUp (sweepDown .tryDown) (sweepTake r s) := by
  simp only [sweepReading, hp]

/-- A neighbour above that reads higher is climbed to. -/
theorem sweepReading_higherUp {r : Nat} (hp : s.srv.phase = .tryUp ∨ s.srv.phase = .climbUp) (hb : s.srv.best < r) :
    sweepReading r s = sweepUp .climbUp sweepHold (sweepTake r s) := by
  rcases hp with hp | hp <;> simp only [sweepReading, hp, hb, decide_true, if_true]

/-- A neighbour below that reads higher is climbed to. -/
theorem sweepReading_higherDown {r : Nat} (hp : s.srv.phase = .tryDown ∨ s.srv.phase = .climbDown) (hb : s.srv.best < r) :
    sweepReading r s = sweepDown .climbDown (sweepTake r s) := by
  rcases hp with hp | hp <;> simp only [sweepReading, hp, hb, decide_true, if_true]

/-- A neighbour above that reads no higher is left for p, and the one below is tried. -/
theorem sweepReading_lowerUp {r : Nat} (hp : s.srv.phase = .tryUp) (hb : r ≤ s.srv.best) :
    sweepReading r s = sweepDown .tryDown s := by
  simp [sweepReading, hp, Nat.not_lt.mpr hb]

/-- Any other reading that is no higher ends the sweep. -/
theorem sweepReading_lower {r : Nat} (hp : s.srv.phase = .climbUp ∨ s.srv.phase = .tryDown ∨ s.srv.phase = .climbDown)
    (hb : r ≤ s.srv.best) : sweepReading r s = sweepHold s := by
  rcases hp with hp | hp | hp <;> simp [sweepReading, hp, Nat.not_lt.mpr hb]

theorem readingOf_eight {levels : List Byte} (h : levels.length = 8) : readingOf levels = (levels.map BitVec.toNat).sum := by
  rw [readingOf, List.take_of_length_le h.le, List.sum_eq_foldl, List.foldl_map]

theorem exec_trackingReading (levels : List Byte) (s : State) :
    exec (.trackingReading levels) s =
      done (when (s.deckPowered && s.sweeps levels) (sweepReading (readingOf levels)) s) := rfl

/-- A state in which the sweep takes a reading. -/
structure State.Sweeping (s : State) (levels : List Byte) (r : Nat) : Prop where
  quiet : s.reports = []
  mode : s.pwr.mode = .on
  deckUp : s.pwr.deckUp = true
  play : s.mec.state = .play
  auto : s.srv.mode = .auto
  eight : levels.length = 8
  sum : (levels.map BitVec.toNat).sum = r

section
variable {levels : List Byte} {r : Nat} (h : s.Sweeping levels r)
include h

theorem State.Sweeping.powered : s.deckPowered = true := deckPowered_on h.mode h.deckUp

/-- A reading in HOLD is not taken. -/
theorem exec_tracking_hold (hp : s.srv.phase = .hold) :
    exec (.trackingReading levels) s = .next (transmit s) := by
  simp [exec_trackingReading, State.sweeps, hp, when_false, done_quiet h.quiet]

/-- A reading that leaves SRV at these records. -/
theorem exec_tracking_moves {w : Srv} (hp : s.srv.phase ≠ .hold) (hw : sweepReading r s = { s with srv := w }) :
    exec (.trackingReading levels) s = .next (transmit { s with srv := w }) := by
  have hs : s.sweeps levels = true := by simp [State.sweeps, h.play, h.auto, h.eight, hp]
  rw [exec_trackingReading, h.powered, hs, readingOf_eight h.eight, h.sum, Bool.and_self, when_true, hw,
    done_quiet (by exact h.quiet)]

/-- A reading that ends the sweep at p. -/
theorem exec_tracking_holds {p : Int} {best : Nat} (hp : s.srv.phase ≠ .hold)
    (hw : sweepReading r s = sweepHold { s with srv := { s.srv with base := p, best := best } }) :
    exec (.trackingReading levels) s = .next (transmit { s with
      srv := { s.srv with phase := .hold, base := p, offset := p, best := best },
      lnk := { s.lnk with notices := s.lnk.notices ||| (0x10#12 &&& s.lnk.mask) } }) := by
  have hs : s.sweeps levels = true := by simp [State.sweeps, h.play, h.auto, h.eight, hp]
  have he : sweepReading r s = { s with
      srv := { s.srv with phase := .hold, base := p, offset := p, best := best },
      lnk := { s.lnk with notices := s.lnk.notices ||| (0x10#12 &&& s.lnk.mask) } } := by
    rw [hw, sweepHold, raise_eq]
    simp [State.mapSrv, State.mapLnk, h.mode, Notice.bit]
  rw [exec_trackingReading, h.powered, hs, readingOf_eight h.eight, h.sum, Bool.and_self, when_true, he,
    done_quiet (by exact h.quiet)]

end

end

end Sys2Proof.Machine

namespace Sys2Proof.Proofs
open Sys2Proof.Machine

/-- Settles O28: the two rows of 60 frames by their equations, and the sweep by its phases. -/
theorem framesWithoutPulsesAndSweep : Obligations.FramesWithoutPulsesAndSweep := by
  refine ⟨fun s hq hm hd hs => ⟨fun hn => ?_, fun hu hc hb ha => ?_⟩, ?_, fun levels s hq hm hd => ⟨?_, ?_, ?_⟩⟩
  · have h : goBlank s = { s with
        srv := { s.srv with noPulse := 60, detected := none },
        lnk := { s.lnk with notices := s.lnk.notices ||| (0x10#12 &&& s.lnk.mask) } } := by
      simp [goBlank, raise_eq, State.mapSrv, State.mapLnk, hm, Notice.bit]
    simp only [exec_blankDetected, deckPowered_on hm hd, hs, hn, beq_self_eq_true, decide_true, Bool.and_self, when_true]
    rw [h, done_quiet (by exact hq)]
  · have h : sourceToStep s = { s with ctu := { s.ctu with unread := 60, source := .step } } := by
      simp [sourceToStep_eq hc, hb, stepsPerFrame, Nat.div_eq_of_lt ha, Nat.mod_eq_of_lt ha]
    rw [exec_framesUnread hm hd (readsPulses_iff.mpr (.inl hs)) hu, h, done_quiet (by exact hq)]
  · intro s hq hm hd hr hu hc hun ha f frames
    have hr := readsPulses_iff.mpr hr
    have hf : stepsPerFrame s.srv.basis = f := by
      cases h : s.srv.basis <;> simp [f, h, stepsPerFrame]
    have h := sourceToStep_eq hc
    rw [hf] at h
    by_cases hz : s.ctu.acc / f = 0
    · simp only [hz, if_true] at h
      refine ⟨_, by rw [exec_framesUnread hm hd hr hu, h, done_quiet (by exact hq)], ?_⟩
      simp [hz]
    · simp only [hz, if_false] at h
      replace h := h.trans (moveCounter_disarmed hun ha)
      refine ⟨_, by rw [exec_framesUnread hm hd hr hu, h, done_quiet (by simpa [setSide] using hq)], ?_⟩
      simp [setSide, Ctu.moved, travel_of_reads hr, hz, frames]
  · intro h8 hs ha hp ho
    have h : s.Sweeping levels (levels.map BitVec.toNat).sum := ⟨hq, hm, hd, hs, ha, h8, rfl⟩
    refine exec_tracking_moves h (by simp [hp]) ?_
    rw [sweepReading_measure hp, sweepUp_moves (by simp [sweepTake]; omega)]
    rfl
  · intro h8 hs ha r v moves holds
    have h : s.Sweeping levels r := ⟨hq, hm, hd, hs, ha, h8, rfl⟩
    refine ⟨fun hp ho => ?_, fun hp hb => ⟨fun ho => ?_, fun ho => ?_⟩, fun hp hb => ⟨fun ho => ?_, fun ho => ?_⟩,
      fun hb => ⟨fun hp ho => ?_, fun hp => ?_⟩, fun hp => exec_tracking_hold h hp⟩
    · refine exec_tracking_moves h (fun hn => by simp [v, hn] at hp) ?_
      replace ho : s.srv.offset = 63 := ho
      rw [sweepReading_measure hp, sweepUp_bound ho, sweepDown_moves (by simp [sweepTake, ho])]
      simp [sweepTake, State.mapSrv, v, ho]
    · refine exec_tracking_moves h (fun hn => by simp [v, hn] at hp) ?_
      rw [sweepReading_higherUp hp hb, sweepUp_moves (by exact ho)]
      rfl
    · refine exec_tracking_holds h (fun hn => by simp [v, hn] at hp) ?_
      rw [sweepReading_higherUp hp hb, sweepUp_bound ho, ← ho]
      rfl
    · refine exec_tracking_moves h (fun hn => by simp [v, hn] at hp) ?_
      rw [sweepReading_higherDown hp hb, sweepDown_moves (by exact ho)]
      rfl
    · refine exec_tracking_holds h (fun hn => by simp [v, hn] at hp) ?_
      rw [sweepReading_higherDown hp hb, sweepDown_bound ho, ← ho]
      rfl
    · refine exec_tracking_moves h (fun hn => by simp [v, hn] at hp) ?_
      rw [sweepReading_lowerUp hp hb, sweepDown_moves ho]
    · refine exec_tracking_holds h (fun hn => by simp [v, hn] at hp) ?_
      rcases hp with ⟨hp, ho⟩ | hp
      · rw [sweepReading_lowerUp hp hb, sweepDown_bound ho]
      · rw [sweepReading_lower hp hb]
  · intro hn
    have h : s.sweeps levels = false := by
      rcases hn with hn | hn | hn <;> simp [State.sweeps, hn]
    rw [exec_trackingReading, h, Bool.and_false, when_false, done_quiet hq]

end Sys2Proof.Proofs
end

section
/-! SUPPORT. A match that fires (R54), the tape that CTU stops and plays, and a written control pulse (R40, R42, R44). -/

namespace Sys2Proof.Machine

section
variable {s : State}

/-! ### CTU stops the tape, and lets it play -/

@[simp] theorem ctuTarget_sans (t : Target) (s : State) : (ctuTarget t s).lnk.sansNotices = s.lnk.sansNotices := by
  simp [ctuTarget]

section
variable (h : s.mec.state.stopsThreaded)
include h

theorem ctuStop_eq :
    ctuTarget .stop s = enterState .threaded (s.mapMec fun m => { m with idle := false, spin := false, pending := none }) :=
  stopTransport_threads (s := s.mapMec fun m => { m with idle := false }) h

theorem ctuStop_rests : (ctuTarget .stop s).mec.AtRest .threaded := by
  simp [ctuStop_eq h, Mec.AtRest, TState.drumTurns]

theorem ctuStop_reports :
    (ctuTarget .stop s).reports = s.reports ++ leaveReports s.mec.state .threaded s.mec.owner := by
  simp [ctuStop_eq h, entryReports_silent (n := .threaded) rfl]

theorem ctuStop_pins : (ctuTarget .stop s).pins = s.pins := by simp [ctuStop_eq h]

/-- A stop leaves the counter, the match and the seek, and aborts a mark in writing. -/
theorem ctuStop_ctu :
    (ctuTarget .stop s).ctu.value = s.ctu.value ∧ (ctuTarget .stop s).ctu.mArmed = s.ctu.mArmed ∧
    (ctuTarget .stop s).ctu.seek = s.ctu.seek ∧
    (ctuTarget .stop s).ctu.writing = (if s.mec.state = .record then none else s.ctu.writing) ∧
    (s.mec.state ≠ .record → (ctuTarget .stop s).ctu.cue = s.ctu.cue) := by
  have hn : s.mec.state ≠ .threaded := fun hn => by simp [hn, TState.stopsThreaded] at h
  obtain ⟨hv, -, ha, hw, hc, hk⟩ :=
    enterState_ctu (s := s.mapMec fun m => { m with idle := false, spin := false, pending := none }) (n := .threaded) hn
  rw [← ctuStop_eq h] at hv ha hw hc hk
  refine ⟨hv, ha, ?_, hw, fun hr => by simpa [hr] using hc⟩
  rw [hk]
  cases hd : s.ctu.seek.dir <;> simp [Seek.entered, hd]

end

/-! ### The window of the cue reader -/

@[simp] theorem Ctu.aborted_window (c : Ctu) : c.aborted.window = c.window := by
  unfold Ctu.aborted; split <;> rfl

@[simp] theorem leaveState_window (o n : TState) (s : State) : (leaveState o n s).ctu.window = s.ctu.window := by
  unfold leaveState
  dsimp only
  (repeat' split) <;> simp [ctuLeaveReading]

theorem arriveState_window {o n : TState} (h : s.ctu.window = []) : (arriveState o n s).ctu.window = [] := by
  unfold arriveState ctuEnterWind
  dsimp only
  (repeat' split) <;> simp [ctuEnterReading, setUncertain, h]

/-- A state entered with an empty window keeps it so. -/
theorem enterState_window {n : TState} (h : s.ctu.window = []) : (enterState n s).ctu.window = [] := by
  simp only [enterState, enter, stallFollow, idleFollow]
  (repeat' split) <;> simp [arriveState_window, h]

theorem ctuStop_window (hs : s.mec.state.stopsThreaded) (h : s.ctu.window = []) : (ctuTarget .stop s).ctu.window = [] := by
  rw [ctuStop_eq hs]
  exact enterState_window h

/-! ### A tape that was stopped plays -/

section
variable (h : s.mec.state = .threaded) (hs : s.mec.spin = false)
include h hs

/-- A target PLAY is entered at once. -/
theorem execTarget_plays (v : Speed) (g : Grade) (o : Owner) :
    execTarget { target := .play, speed := v, grade := g, origin := o } s =
      enterState .play (s.mapMec fun m => { m with pending := none }) := by
  rw [execTarget_route (by rw [h]; rfl) hs, route_enters (by rw [h]; rfl) rfl, enterTarget,
    if_neg (by simp [h, Target.stateOf])]
  rfl

theorem ctuPlay_eq :
    ctuTarget .play s = enterState .play (s.mapMec fun m => { m with idle := false, pending := none }) :=
  execTarget_plays (s := s.mapMec fun m => { m with idle := false }) h hs s.mec.speed s.mec.grade .host

theorem ctuPlay_state : (ctuTarget .play s).mec.state = .play := by simp [ctuPlay_eq h hs]

theorem ctuPlay_reports (he : s.pins.endLit = false) : (ctuTarget .play s).reports = s.reports := by
  have hn : entryReports .play (s.mapMec fun m => { m with idle := false, pending := none }) = [] :=
    entryReports_forward he (by simp [h, TState.recordPair]) (.inl rfl)
  simp [ctuPlay_eq h hs, hn]

theorem ctuPlay_ctu :
    (ctuTarget .play s).ctu.value = s.ctu.value ∧ (ctuTarget .play s).ctu.mArmed = s.ctu.mArmed ∧
    (ctuTarget .play s).ctu.cue = s.ctu.cue ∧ (ctuTarget .play s).ctu.seek = s.ctu.seek.entered .play := by
  obtain ⟨hv, -, ha, -, hc, hk⟩ :=
    enterState_ctu (s := s.mapMec fun m => { m with idle := false, pending := none }) (n := .play) (by simp [h])
  rw [← ctuPlay_eq h hs] at hv ha hc hk
  exact ⟨hv, ha, by simpa [h] using hc, hk⟩

theorem ctuPlay_window (hw : s.ctu.window = []) : (ctuTarget .play s).ctu.window = [] := by
  rw [ctuPlay_eq h hs]
  exact enterState_window hw

end

/-! ### The match (R54) -/

/-- The match as it fires: disarmed, with its flag. -/
def matchFired (s : State) : State :=
  raise .counter (setReported .counterMatched (s.mapCtu fun c => { c with mArmed := false }))

@[simp] theorem matchFired_frame (s : State) :
    (matchFired s).mec = s.mec ∧ (matchFired s).reports = s.reports ∧ (matchFired s).pins = s.pins ∧
    (matchFired s).ctu = { s.ctu with mArmed := false } ∧ (matchFired s).tar = s.tar ∧ (matchFired s).pwr = s.pwr := by
  simp [matchFired]

theorem matchFired_line (s : State) : (matchFired s).lnk.line = s.lnk.line := by
  simp [matchFired, setReported_eq, raise_eq]

theorem matchFired_flag (s : State) : (matchFired s).reportedSet .counterMatched = true := by
  simp [matchFired, raise_eq, setReported_eq, State.reportedSet, Reported.bit]

/-- Under TIMER, and with NOTIFY, the match only tells. -/
theorem fireMatch_tells (h : s.ctu.mAction = .notify ∨ s.mec.owner = .timer) : fireMatch s = matchFired s := by
  rcases h with h | h
  · cases ho : s.mec.owner <;> simp [fireMatch, matchFired, h, ho]
  · simp [fireMatch, matchFired, h]

theorem fireMatch_stop (h : s.ctu.mAction = .stop) (ho : s.mec.owner = .host) :
    fireMatch s = ctuTarget .stop (endSeek .abandoned (matchFired s)) := by
  simp [fireMatch, matchFired, h, ho]

theorem fireMatch_stopThenPlay (h : s.ctu.mAction = .stopThenPlay) (ho : s.mec.owner = .host) :
    fireMatch s = ctuTarget .play (ctuTarget .stop (endSeek .abandoned (matchFired s))) := by
  simp [fireMatch, matchFired, h, ho]

theorem testMatch_fires (h : s.ctu.crosses = true) : testMatch s = fireMatch (setSide s) := by simp [testMatch, h]

theorem testMatch_stays (h : s.ctu.crosses = false) : testMatch s = setSide s := by simp [testMatch, h]

/-- The counter's record after the test: the side is set, and a match that fired is disarmed. -/
def Ctu.tested (c : Ctu) : Ctu := { c with mSide := sideOf c.value c.mValue, mArmed := c.mArmed && !c.crosses }

/-- A test without a stop changes the match alone. -/
theorem testMatch_tells (h : s.ctu.crosses = true → s.ctu.mAction = .notify ∨ s.mec.owner = .timer) :
    (testMatch s).ctu = s.ctu.tested ∧ (testMatch s).mec = s.mec ∧ (testMatch s).reports = s.reports ∧
    (testMatch s).pins = s.pins ∧ (testMatch s).lnk.line = s.lnk.line ∧
    (s.ctu.crosses = true → (testMatch s).reportedSet .counterMatched = true) := by
  cases hc : s.ctu.crosses
  · simp [testMatch_stays hc, setSide, Ctu.tested, hc]
  · rw [testMatch_fires hc, fireMatch_tells (s := setSide s) (h hc)]
    simp [matchFired_line, matchFired_flag, setSide, Ctu.tested, hc]

end

end Sys2Proof.Machine
end

section
/-! A written control pulse (R40, R42, R44). -/

namespace Sys2Proof.Machine

section
variable {s : State}

/-- The cue writer after a control pulse (R44). -/
def Ctu.markAdvanced (c : Ctu) : Ctu :=
  match c.writing with
  | none => c
  | some m =>
    if m.pos = 24 then
      { c with
        writing := c.waiting.map fun w => { code := w.1, origin := w.2, pos := 1 }, waiting := none,
        cue := { kind := .written, code := some m.code, counter := c.value } }
    else { c with writing := some { m with pos := m.pos + 1 } }

@[simp] theorem markAdvance_ctu (s : State) : (markAdvance s).ctu = s.ctu.markAdvanced := by
  unfold markAdvance Ctu.markAdvanced
  cases s.ctu.writing with
  | none => rfl
  | some m => by_cases h : m.pos = 24 <;> simp [h, recordCue]

@[simp] theorem markAdvance_sans (s : State) : (markAdvance s).lnk.sansNotices = s.lnk.sansNotices := by
  unfold markAdvance
  (repeat' split) <;> simp [recordCue]

section
variable (c : Ctu)

@[simp] theorem Ctu.markAdvanced_kept :
    c.markAdvanced.value = c.value ∧ c.markAdvanced.mArmed = c.mArmed ∧ c.markAdvanced.mSide = c.mSide ∧
    c.markAdvanced.mValue = c.mValue ∧ c.markAdvanced.mAction = c.mAction ∧ c.markAdvanced.written = c.written := by
  unfold Ctu.markAdvanced
  (repeat' split) <;> simp

theorem Ctu.markAdvanced_none {c : Ctu} (h : c.writing = none) : c.markAdvanced.writing = none := by
  simp [Ctu.markAdvanced, h]

theorem Ctu.markAdvanced_next {c : Ctu} {m : Mark} (h : c.writing = some m) (hp : m.pos ≠ 24) :
    c.markAdvanced.writing = some { m with pos := m.pos + 1 } ∧ c.markAdvanced.waiting = c.waiting := by
  simp [Ctu.markAdvanced, h, hp]

theorem Ctu.markAdvanced_last {c : Ctu} {m : Mark} (h : c.writing = some m) (hp : m.pos = 24) :
    c.markAdvanced.cue = { kind := .written, code := some m.code, counter := c.value } ∧ c.markAdvanced.waiting = none ∧
    c.markAdvanced.writing = c.waiting.map fun w => { code := w.1, origin := w.2, pos := 1 } := by
  simp [Ctu.markAdvanced, h, hp]

end

/-- A written pulse before the match is tested. -/
def pulseCounted (s : State) : State := markAdvance (moveValue 1 (s.mapCtu fun c => { c with written := some c.nextClass }))

theorem pulseWritten_eq (h : s.mec.state = .record) (hu : s.ctu.uncertain = false) :
    pulseWritten s = testMatch (pulseCounted s) := by
  simp [pulseWritten, pulseCounted, when, h, hu]

@[simp] theorem pulseCounted_ctu (s : State) :
    (pulseCounted s).ctu = Ctu.markAdvanced (Ctu.moved 1 { s.ctu with written := some s.ctu.nextClass }) := by
  simp [pulseCounted]

@[simp] theorem pulseCounted_frame (s : State) :
    (pulseCounted s).mec = s.mec ∧ (pulseCounted s).reports = s.reports ∧ (pulseCounted s).pins = s.pins ∧
    (pulseCounted s).tar = s.tar ∧ (pulseCounted s).pwr = s.pwr ∧ (pulseCounted s).lnk.line = s.lnk.line := by
  have hl := Lnk.line_of_sans (a := (pulseCounted s).lnk) (b := s.lnk) (by simp [pulseCounted])
  simp [hl]
  simp [pulseCounted]

/-- A match that lies above the counter is reached from below. -/
theorem crosses_below {c : Ctu} (h : c.mArmed = false ∨ c.mSide = .below) :
    c.crosses = true ↔ c.mArmed = true ∧ c.mSide = .below ∧ c.mValue ≤ c.value := by
  rcases h with h | h <;> simp [Ctu.crosses, h]

/-- The pulse whose movement reaches the match value. -/
theorem pulseCounted_crosses (h : s.ctu.mArmed = false ∨ s.ctu.mSide = .below) :
    (pulseCounted s).ctu.crosses = true ↔
      s.ctu.mArmed = true ∧ s.ctu.mSide = .below ∧ s.ctu.mValue ≤ max (-1080000) (min 1079999 (s.ctu.value + 1)) := by
  rw [crosses_below (by simpa [Ctu.moved] using h)]
  simp [Ctu.moved]

theorem exec_controlPulseWrite (s : State) : exec .controlPulseWrite s = done (when s.deckPowered pulseWritten s) := rfl

/-- A written pulse whose movement stops the host's recording. -/
theorem pulseWritten_stops (h : s.mec.state = .record) (hu : s.ctu.uncertain = false) (ho : s.mec.owner = .host)
    (ha : s.ctu.mAction = .stop) (hc : (pulseCounted s).ctu.crosses = true) :
    (pulseWritten s).mec.AtRest .threaded ∧ (pulseWritten s).reports = s.reports ++ [.hostRecEnd] ∧
    (pulseWritten s).ctu.value = (pulseCounted s).ctu.value ∧ (pulseWritten s).ctu.mArmed = false ∧
    (pulseWritten s).ctu.writing = none := by
  let u := endSeek .abandoned (matchFired (setSide (pulseCounted s)))
  have he : pulseWritten s = ctuTarget .stop u := by
    rw [pulseWritten_eq h hu, testMatch_fires hc, fireMatch_stop (by simpa [setSide, Ctu.moved] using ha) (by simpa using ho)]
  have hm : u.mec = s.mec := by simp [u]
  have hs : u.mec.state.stopsThreaded := by rw [hm, h]; rfl
  obtain ⟨hv, hr, -, hw, -⟩ := ctuStop_ctu hs
  rw [he, ctuStop_reports hs, hv, hr, hw, hm, ho, leaveReports_host (by rw [h]; rfl) rfl]
  refine ⟨ctuStop_rests hs, ?_, ?_, ?_, if_pos h⟩ <;> simp [u, setSide]

end

end Sys2Proof.Machine

namespace Sys2Proof.Proofs
open Sys2Proof.Machine

/-- Settles O30: the classes and their duties, and the pulse through the writer's record and the test of the match. -/
theorem writtenPulseAdvancesTheMark : Obligations.WrittenPulseAdvancesTheMark := by
  refine ⟨⟨rfl, rfl, rfl, fun k => by cases k <;> rfl⟩, ?_⟩
  intro s hq hm hd hs hu v fires
  refine ⟨fun hb hn => ?_, ?_⟩
  · have hc : (pulseCounted s).ctu.crosses = true ↔ fires := pulseCounted_crosses hb
    have ht : (pulseCounted s).ctu.crosses = true →
        (pulseCounted s).ctu.mAction = .notify ∨ (pulseCounted s).mec.owner = .timer := by
      intro hx
      simp only [pulseCounted_ctu, Ctu.markAdvanced_kept, pulseCounted_frame, Ctu.moved]
      by_contra! hh
      exact hn ⟨hc.mp hx, hh.1, by cases ho : s.mec.owner <;> simp_all⟩
    obtain ⟨hctu, hmec, hrep, -, hline, hflag⟩ := testMatch_tells ht
    rw [← pulseWritten_eq hs hu] at hctu hmec hrep hline hflag
    have hval : (pulseWritten s).ctu.value = v := by simp [hctu, Ctu.tested, Ctu.moved, v]
    refine ⟨_, by rw [exec_controlPulseWrite, done_powered hm hd (by simp [hrep, hq])], ?_⟩
    simp only [transmit_records, pulseWritten_frame, hmec, hval, pulseCounted_frame, true_and, and_true]
    simp only [hctu, Ctu.tested, pulseCounted_ctu]
    refine ⟨fun hw => ⟨?_, Ctu.markAdvanced_none hw⟩, fun m hw => ?_, fun m hw hp => Ctu.markAdvanced_next hw hp,
      fun m hw hp => Ctu.markAdvanced_last hw hp, fun hf => ⟨?_, fun hl => ?_⟩, fun hf => ?_⟩
    · simp [Ctu.moved, Ctu.nextClass, hw]
    · simp [Ctu.moved, Ctu.nextClass, hw, markClass]
    · simp [← pulseCounted_ctu, hc.mpr hf]
    · rw [transmit_busy (by simpa [hline] using hl)]
      exact hflag (hc.mpr hf)
    · rw [← pulseCounted_ctu, eq_false_of_ne_true (mt hc.mp hf)]
      simp [Ctu.moved]
  · intro hf ha ho hh hor hre hsy
    obtain ⟨⟨hst, hdr, -, -⟩, hrep, hv, har, hw⟩ :=
      pulseWritten_stops hs hu ho ha ((pulseCounted_crosses (.inr hf.2.1)).mpr hf)
    rw [hq] at hrep
    refine ⟨_, by
      rw [exec_controlPulseWrite, when_powered hm hd]
      exact done_recEnd hrep ⟨by simpa, by simpa, by simpa, by simpa⟩ (by simpa), ?_⟩
    simp [hst, hdr, hv, har, hw, Ctu.moved, v]

end Sys2Proof.Proofs
end

section
/-! A control pulse read (R41, R45, R49, R53, R54): the counter, the match and the cue reader behind them. -/

namespace Sys2Proof.Machine

section
variable {s : State}

/-! ### The pulse as far as the counter -/

/-- A pulse of a reading state after SRV and TPE have taken it (R41). -/
def pulseHeard (s : State) : State :=
  let u := s.mapSrv fun v => { v with pulsed := true }
  tpePulse (if s.mec.state = .play then srvPulse u else u)

@[simp] theorem srvPulse_sans (s : State) : (srvPulse s).lnk.sansNotices = s.lnk.sansNotices := by
  unfold srvPulse
  dsimp only
  (repeat' split) <;> simp

@[simp] theorem pulseHeard_frame (s : State) :
    (pulseHeard s).mec = s.mec ∧ (pulseHeard s).ctu = s.ctu ∧ (pulseHeard s).reports = s.reports ∧
    (pulseHeard s).pins = s.pins ∧ (pulseHeard s).lnk.sansNotices = s.lnk.sansNotices := by
  unfold pulseHeard
  dsimp only
  split <;> simp

/-- The counter moved by the pulse, the match not yet tested (R49). -/
def pulseMoved (s : State) : State :=
  moveValue s.mec.state.travel ((pulseHeard s).mapCtu fun c => { c with source := .pulse, acc := 0, unread := 0 })

@[simp] theorem pulseMoved_frame (s : State) :
    (pulseMoved s).mec = s.mec ∧ (pulseMoved s).reports = s.reports ∧ (pulseMoved s).pins = s.pins ∧
    (pulseMoved s).lnk.sansNotices = s.lnk.sansNotices ∧
    (pulseMoved s).ctu = Ctu.moved s.mec.state.travel { s.ctu with source := .pulse, acc := 0, unread := 0 } := by
  simp [pulseMoved]

/-- A pulse read with the counter certain: the movement, its test, and the cue reader. -/
theorem pulseRead_eq {duty : Nat} (hr : s.mec.state.readsPulses = true) (hu : s.ctu.uncertain = false) :
    pulseRead duty s =
      cueRead s.mec.state.reverse (classOf duty) s.ctu.window (testMatch (pulseMoved s)) := by
  have hc : counterPulse (pulseHeard s) = testMatch (pulseMoved s) := by
    simp [counterPulse, pulseMoved, hu, moveCounter]
  rw [pulseRead, if_pos hr, ← hc]
  rfl

theorem exec_controlPulseRead (duty : Nat) (s : State) :
    exec (.controlPulseRead duty) s = done (when s.deckPowered (pulseRead duty) s) := rfl

/-- A match that lies below the counter is reached from above. -/
theorem crosses_above {c : Ctu} (ha : c.mArmed = true) (h : c.mSide = .above) : c.crosses = true ↔ c.value ≤ c.mValue := by
  simp [Ctu.crosses, ha, h]

/-! ### The cue reader without a seek -/

/-- Without a seek a class read records a mark at most. -/
theorem cueRead_idle {rev : Bool} {c : PulseClass} {w : List PulseClass} (h : s.ctu.seek.state = .idle) :
    (cueRead rev c w s).mec = s.mec ∧ (cueRead rev c w s).reports = s.reports ∧
    (cueRead rev c w s).lnk.sansNotices = s.lnk.sansNotices ∧ (cueRead rev c w s).ctu.value = s.ctu.value ∧
    (cueRead rev c w s).ctu.mArmed = s.ctu.mArmed ∧ (cueRead rev c w s).ctu.unread = s.ctu.unread ∧
    (cueRead rev c w s).ctu.source = s.ctu.source ∧ (cueRead rev c w s).ctu.seek = s.ctu.seek := by
  unfold cueRead
  split
  · simp
  · simp [markRecognised, h, recordCue]

/-! ### The window and the marks (R42, R45) -/

theorem pushClass_eq {c : PulseClass} {w : List PulseClass} (h : w.length ≤ 24) :
    pushClass c w = (w ++ [c]).drop (w.length - 23) := by
  by_cases hw : w.length = 24
  · simp [pushClass, hw, List.drop_append]
  · simp [pushClass, show ¬24 ≤ w.length by omega, show w.length - 23 = 0 by omega]

/-- The classes of some bits. -/
def bitClass (b : Bool) : PulseClass := if b then .long else .short

theorem classBit_bitClass (b : Bool) : classBit (bitClass b) = some b.toNat := by cases b <;> rfl

theorem codeOf_bits (bits : List Bool) :
    codeOf (bits.map bitClass) = some (bits.foldl (fun n b => 2 * n + b.toNat) 0) := by
  unfold codeOf
  generalize 0 = n
  induction bits generalizing n with
  | nil => rfl
  | cons b rest ih => simpa [classBit_bitClass] using ih (2 * n + b.toNat)

/-- The lower bits of a number, read from the first down, complete the upper ones. -/
theorem foldl_testBits (c n : Nat) :
    ((List.range n).map fun i => c.testBit (n - 1 - i)).foldl (fun n b => 2 * n + b.toNat) (c / 2 ^ n) = c := by
  induction n with
  | zero => simp
  | succ n ih =>
    have hstep : 2 * (c / 2 ^ (n + 1)) + (c.testBit n).toNat = c / 2 ^ n := by
      rw [Nat.toNat_testBit, Nat.pow_succ, ← Nat.div_div_eq_div_mul]
      omega
    have hrest : (fun i => c.testBit (n + 1 - 1 - i)) ∘ Nat.succ = fun i => c.testBit (n - 1 - i) := by
      funext i
      simp only [Function.comp, show n + 1 - 1 - i.succ = n - 1 - i by omega]
    rw [List.range_succ_eq_map, List.map_cons, List.map_map, List.foldl_cons, hrest]
    simpa [hstep] using ih

/-- The classes of the mark of a code, in writing order (R42). -/
def markOf (c : Nat) : List PulseClass :=
  (List.range 24).map fun i =>
    if i < 4 then .long else if i < 20 then (if c.testBit (19 - i) then .long else .short) else .short

theorem markForward_markOf {c : Nat} (h : c < 65536) : markForward (markOf c) = some c := by
  have hbits : ((markOf c).drop 4).take 16 = ((List.range 16).map fun i => c.testBit (16 - 1 - i)).map bitClass := rfl
  have hshape : (markOf c).length = 24 ∧ (markOf c).take 4 = List.replicate 4 .long ∧
      (markOf c).drop 20 = List.replicate 4 .short := ⟨rfl, rfl, rfl⟩
  have hcode := foldl_testBits c 16
  rw [Nat.div_eq_of_lt (by simpa using h)] at hcode
  rw [markForward, if_pos hshape, hbits, codeOf_bits, hcode]

/-! ### The seek's pattern (R56) -/

theorem fieldMatches_iff {α : Type} {f : Option α} {test : α → Bool} :
    fieldMatches f test = true ↔ ∀ a, f = some a → test a = true := by
  cases f <;> simp [fieldMatches]

theorem seek_takes_iff {k : Seek} {c : Nat} :
    k.takes c = true ↔
      (∀ x, k.kind = some x → (x = .timed ↔ 32768 ≤ c)) ∧
      (∀ n, k.slot = some n → 32768 ≤ c ∧ (c - 32768) / 64 = n) ∧
      (∀ n, k.day = some n → 32768 ≤ c ∧ (c - 32768) % 64 = n) ∧
      ∀ r, k.range = some r → r.1 ≤ c ∧ c ≤ r.2 := by
  simp only [Seek.takes, Bool.and_eq_true, fieldMatches_iff, beq_iff_eq, decide_eq_true_eq, and_assoc]
  refine and_congr (forall₂_congr fun x _ => ?_) Iff.rfl
  cases x <;> simp

end

end Sys2Proof.Machine
end

section
/-! How a read control pulse ends: the match it fires, the mark it completes, and the seek that meets it. -/

namespace Sys2Proof.Machine

/-- A state whose counter a control pulse moves: the tape is read, and the counter is certain. -/
structure State.Counts (s : State) : Prop where
  quiet : s.reports = []
  mode : s.pwr.mode = .on
  deckUp : s.pwr.deckUp = true
  certain : s.ctu.uncertain = false
  reads : s.mec.state.readsPulses = true

/-- Tuner, arbiter, clock and timer keep their records. -/
def State.SameElsewhere (s t : State) : Prop := t.tun = s.tun ∧ t.tar = s.tar ∧ t.clk = s.clk ∧ t.tsc = s.tsc

section
variable {s u : State} {duty : Nat}

theorem State.Counts.rests (h : s.Counts) : s.mec.state.stopsThreaded ∧ s.mec.state.recordPair = false := by
  rcases readsPulses_iff.mp h.reads with hs | hs | hs <;> rw [hs] <;> decide

theorem exec_pulse (h : s.Counts) (hq : (pulseRead duty s).reports = []) :
    exec (.controlPulseRead duty) s = .next (transmit (pulseRead duty s)) := by
  rw [exec_controlPulseRead, done_powered h.mode h.deckUp hq]

theorem sameElsewhere_pulse (duty : Nat) (s : State) : s.SameElsewhere (transmit (pulseRead duty s)) := by
  simp [State.SameElsewhere]

theorem reportedSet_of_sans {f : Reported} {a b : State} (h : a.lnk.sansNotices = b.lnk.sansNotices) :
    a.reportedSet f = b.reportedSet f := by
  rw [State.reportedSet, State.reportedSet, Lnk.reported_of_sans h]

/-! ### The match -/

/-- A pulse that fires no match that stops the tape. -/
theorem pulseRead_tells (h : s.Counts) (hk : s.ctu.seek.state = .idle) (hc : (pulseMoved s).ctu.crosses = false) :
    (pulseRead duty s).ctu.value = (pulseMoved s).ctu.value ∧ (pulseRead duty s).ctu.mArmed = s.ctu.mArmed ∧
    (pulseRead duty s).ctu.unread = 0 ∧ (pulseRead duty s).ctu.source = .pulse ∧ (pulseRead duty s).mec = s.mec ∧
    (pulseRead duty s).reports = [] := by
  have hu : (setSide (pulseMoved s)).ctu.seek.state = .idle := by simpa [setSide, Ctu.moved] using hk
  obtain ⟨hm, hr, -, hv, ha, hn, hsrc, -⟩ :=
    cueRead_idle (rev := s.mec.state.reverse) (c := classOf duty) (w := s.ctu.window) hu
  rw [pulseRead_eq h.reads h.certain, testMatch_stays hc, hm, hr, hv, ha, hn, hsrc]
  simp [setSide, Ctu.moved, h.quiet]

/-- What a match that has fired leaves, whether the tape goes on or not. -/
structure MatchDone (s u : State) : Prop where
  value : u.ctu.value = (pulseMoved s).ctu.value
  disarmed : u.ctu.mArmed = false
  idle : u.ctu.seek.state = .idle
  quiet : u.reports = s.reports
  line : u.lnk.line = s.lnk.line
  flag : u.reportedSet .counterMatched = true

theorem matchDone_fired (hk : s.ctu.seek.state = .idle) : MatchDone s (matchFired (setSide (pulseMoved s))) where
  value := by simp [setSide]
  disarmed := by simp
  idle := by simpa [setSide, Ctu.moved] using hk
  quiet := by simp
  line := by
    rw [matchFired_line]
    exact Lnk.line_of_sans (by simp)
  flag := matchFired_flag _

theorem MatchDone.stop (h : MatchDone s u) (hs : u.mec.state.stopsThreaded) (hr : u.mec.state.recordPair = false) :
    MatchDone s (ctuTarget .stop u) := by
  obtain ⟨hv, ha, hk, -, -⟩ := ctuStop_ctu hs
  have hl : (ctuTarget .stop u).lnk.sansNotices = u.lnk.sansNotices := by simp
  exact ⟨hv.trans h.value, ha.trans h.disarmed, by rw [hk, h.idle],
    by rw [ctuStop_reports hs, leaveReports_none hr, List.append_nil, h.quiet], (Lnk.line_of_sans hl).trans h.line,
    (reportedSet_of_sans hl).trans h.flag⟩

theorem MatchDone.play (h : MatchDone s u) (hs : u.mec.state = .threaded) (hspin : u.mec.spin = false)
    (he : u.pins.endLit = false) : MatchDone s (ctuTarget .play u) := by
  obtain ⟨hv, ha, -, hk⟩ := ctuPlay_ctu hs hspin
  have hl : (ctuTarget .play u).lnk.sansNotices = u.lnk.sansNotices := by simp
  exact ⟨hv.trans h.value, ha.trans h.disarmed, by rw [hk, Seek.entered_other (by simp [h.idle]), h.idle],
    (ctuPlay_reports hs hspin he).trans h.quiet, (Lnk.line_of_sans hl).trans h.line, (reportedSet_of_sans hl).trans h.flag⟩

theorem MatchDone.read {rev : Bool} {c : PulseClass} {w : List PulseClass} (h : MatchDone s u) :
    MatchDone s (cueRead rev c w u) := by
  obtain ⟨-, hr, hl, hv, ha, -, -, hk⟩ := cueRead_idle (rev := rev) (c := c) (w := w) h.idle
  exact ⟨hv.trans h.value, ha.trans h.disarmed, by rw [hk, h.idle], hr.trans h.quiet, (Lnk.line_of_sans hl).trans h.line,
    (reportedSet_of_sans hl).trans h.flag⟩

section
variable (h : s.Counts) (hk : s.ctu.seek.state = .idle) (hc : (pulseMoved s).ctu.crosses = true)
include h hk hc

/-- A match that only tells. -/
theorem pulseRead_notified (ha : s.ctu.mAction = .notify ∨ s.mec.owner = .timer) :
    MatchDone s (pulseRead duty s) ∧ (pulseRead duty s).mec = s.mec := by
  have hf : testMatch (pulseMoved s) = matchFired (setSide (pulseMoved s)) := by
    rw [testMatch_fires hc, fireMatch_tells (by simpa [setSide, Ctu.moved] using ha)]
  rw [pulseRead_eq h.reads h.certain, hf]
  exact ⟨(matchDone_fired hk).read, by rw [(cueRead_idle (matchDone_fired hk).idle).1]; simp⟩

omit hc in
/-- The tape as the match stops it. -/
theorem matchDone_stopped :
    MatchDone s (ctuTarget .stop (matchFired (setSide (pulseMoved s)))) ∧
    (ctuTarget .stop (matchFired (setSide (pulseMoved s)))).mec.AtRest .threaded := by
  have hs : (matchFired (setSide (pulseMoved s))).mec.state.stopsThreaded ∧
      (matchFired (setSide (pulseMoved s))).mec.state.recordPair = false := by simpa using h.rests
  exact ⟨(matchDone_fired hk).stop hs.1 hs.2, ctuStop_rests hs.1⟩

/-- STOP under the host. -/
theorem pulseRead_stopped (ha : s.ctu.mAction = .stop) (ho : s.mec.owner = .host) :
    MatchDone s (pulseRead duty s) ∧ (pulseRead duty s).mec.AtRest .threaded := by
  obtain ⟨hd, hm⟩ := matchDone_stopped h hk
  have hf : testMatch (pulseMoved s) = ctuTarget .stop (matchFired (setSide (pulseMoved s))) := by
    rw [testMatch_fires hc, fireMatch_stop (by simpa [setSide, Ctu.moved] using ha) (by simpa using ho),
      endSeek_idle (matchDone_fired hk).idle]
  rw [pulseRead_eq h.reads h.certain, hf]
  exact ⟨hd.read, by rwa [(cueRead_idle hd.idle).1]⟩

/-- STOP_THEN_PLAY under the host, with the end sensor dark. -/
theorem pulseRead_plays (ha : s.ctu.mAction = .stopThenPlay) (ho : s.mec.owner = .host) (he : s.pins.endLit = false) :
    MatchDone s (pulseRead duty s) ∧ (pulseRead duty s).mec.state = .play := by
  obtain ⟨hd, hst, -, hspin, -⟩ := matchDone_stopped h hk
  have hp := hd.play hst hspin (by rw [ctuStop_pins (by simpa using h.rests.1)]; simpa)
  have hf : testMatch (pulseMoved s) = ctuTarget .play (ctuTarget .stop (matchFired (setSide (pulseMoved s)))) := by
    rw [testMatch_fires hc, fireMatch_stopThenPlay (by simpa [setSide, Ctu.moved] using ha) (by simpa using ho),
      endSeek_idle (matchDone_fired hk).idle]
  rw [pulseRead_eq h.reads h.certain, hf]
  exact ⟨hp.read, by rw [(cueRead_idle hp.idle).1, ctuPlay_state hst hspin]⟩

end

/-- The pulse at whose movement the match fires, as its command ends. -/
theorem MatchDone.ends (hd : MatchDone s (pulseRead duty s)) (h : s.Counts) (hl : s.lnk.line.isSome) :
    ∃ t, exec (.controlPulseRead duty) s = .next t ∧
      (t.ctu.value = (pulseMoved s).ctu.value ∧ t.ctu.mArmed = false ∧ t.reportedSet .counterMatched = true ∧
        s.SameElsewhere t) ∧ t.mec = (pulseRead duty s).mec := by
  have hb : transmit (pulseRead duty s) = pulseRead duty s := transmit_busy (by rwa [hd.line])
  refine ⟨_, exec_pulse h (hd.quiet.trans h.quiet), ⟨?_, ?_, ?_, sameElsewhere_pulse duty s⟩, by simp⟩
  · simpa using hd.value
  · simpa using hd.disarmed
  · rw [hb]
    exact hd.flag

/-- The match at a pulse, in its four outcomes. -/
theorem match_outcomes (h : s.Counts) (hk : s.ctu.seek.state = .idle) (harm : s.ctu.mArmed = true)
    (he : s.pins.endLit = false) (hl : s.lnk.line.isSome) {reached : Prop}
    (hr : (pulseMoved s).ctu.crosses = true ↔ reached) {v : Int} (hv : (pulseMoved s).ctu.value = v) :
    let fired (t : State) : Prop :=
      t.ctu.value = v ∧ t.ctu.mArmed = false ∧ t.reportedSet .counterMatched = true ∧ s.SameElsewhere t
    (reached → (s.ctu.mAction = .notify ∨ s.mec.owner = .timer) →
      ∃ t, exec (.controlPulseRead duty) s = .next t ∧ fired t ∧ t.mec = s.mec) ∧
    (reached → s.ctu.mAction = .stop → s.mec.owner = .host →
      ∃ t, exec (.controlPulseRead duty) s = .next t ∧ fired t ∧ t.mec.state = .threaded ∧ t.mec.drum = false) ∧
    (reached → s.ctu.mAction = .stopThenPlay → s.mec.owner = .host → s.mec.spin = false →
      ∃ t, exec (.controlPulseRead duty) s = .next t ∧ fired t ∧ t.mec.state = .play) ∧
    (¬reached →
      ∃ t, exec (.controlPulseRead duty) s = .next t ∧ t.ctu.value = v ∧ t.ctu.mArmed = true ∧ t.mec = s.mec) := by
  subst hv
  refine ⟨fun hc ha => ?_, fun hc ha ho => ?_, fun hc ha ho _ => ?_, fun hc => ?_⟩
  · obtain ⟨hd, hm⟩ := pulseRead_notified (duty := duty) h hk (hr.mpr hc) ha
    obtain ⟨t, ht, hf, hmec⟩ := hd.ends h hl
    exact ⟨t, ht, hf, hmec.trans hm⟩
  · obtain ⟨hd, hst, hdr, -, -⟩ := pulseRead_stopped (duty := duty) h hk (hr.mpr hc) ha ho
    obtain ⟨t, ht, hf, hmec⟩ := hd.ends h hl
    exact ⟨t, ht, hf, by rw [hmec, hst], by rw [hmec, hdr]⟩
  · obtain ⟨hd, hst⟩ := pulseRead_plays (duty := duty) h hk (hr.mpr hc) ha ho he
    obtain ⟨t, ht, hf, hmec⟩ := hd.ends h hl
    exact ⟨t, ht, hf, by rw [hmec, hst]⟩
  · obtain ⟨hv, ha, -, -, hm, hq⟩ := pulseRead_tells (duty := duty) h hk (eq_false_of_ne_true (mt hr.mp hc))
    exact ⟨_, exec_pulse h hq, by simpa using hv, by simpa [harm] using ha, by simpa using hm⟩

/-! ### The mark and the seek (R45, R46, R56) -/

/-- The state in which a completed mark is recognised, with the window empty. -/
def markMet (s : State) : State := (setSide (pulseMoved s)).mapCtu fun c => { c with window := [] }

@[simp] theorem markMet_frame (s : State) :
    (markMet s).mec = s.mec ∧ (markMet s).reports = s.reports ∧ (markMet s).pins = s.pins ∧
    (markMet s).lnk.sansNotices = s.lnk.sansNotices ∧ (markMet s).ctu.seek = s.ctu.seek ∧ (markMet s).ctu.window = [] := by
  simp [markMet, setSide, Ctu.moved]

theorem pulseRead_mark {c : Nat} (h : s.Counts) (ha : s.ctu.mArmed = false) (hc : c < 65536)
    (hw : pushClass (classOf duty) s.ctu.window = if s.mec.state.reverse then (markOf c).reverse else markOf c) :
    pulseRead duty s = markRecognised c (markMet s) := by
  have hm : markIn s.mec.state.reverse (pushClass (classOf duty) s.ctu.window) = some c := by
    rw [hw, markIn]
    cases s.mec.state.reverse <;> simp [markForward_markOf hc]
  have ht : testMatch (pulseMoved s) = setSide (pulseMoved s) := testMatch_disarmed (by simpa [Ctu.moved] using ha)
  simp only [pulseRead_eq h.reads h.certain, cueRead, hm, ht, markMet]

/-- What a recognised mark leaves of the cue record, the window and the seek. -/
structure CueEnds (kind : CueKind) (code : Option Nat) (k : Seek) (u : State) : Prop where
  cue : u.ctu.cue = { kind := kind, code := code, counter := u.ctu.value }
  window : u.ctu.window = []
  seek : u.ctu.seek = k
  quiet : u.reports = []

theorem cueEnds_recorded {kind : CueKind} {code : Option Nat} {k : Seek} (hw : u.ctu.window = []) (hk : u.ctu.seek = k)
    (hq : u.reports = []) : CueEnds kind code k (recordCue kind code u) := by
  constructor <;> simp [recordCue, hw, hk, hq]

theorem CueEnds.stop {kind : CueKind} {code : Option Nat} {k : Seek} (h : CueEnds kind code k u)
    (hs : u.mec.state = .searchFwd) : CueEnds kind code k (ctuTarget .stop u) := by
  have hst : u.mec.state.stopsThreaded ∧ u.mec.state.recordPair = false ∧ u.mec.state ≠ .record := by rw [hs]; decide
  obtain ⟨hst, hr, hn⟩ := hst
  obtain ⟨hv, -, hk, -, hc⟩ := ctuStop_ctu hst
  exact ⟨by rw [hc hn, hv, h.cue], ctuStop_window hst h.window, hk.trans h.seek,
    by rw [ctuStop_reports hst, leaveReports_none hr, List.append_nil, h.quiet]⟩

theorem CueEnds.play {kind : CueKind} {code : Option Nat} {k : Seek} (h : CueEnds kind code k u) (hk : k.state ≠ .waiting)
    (hs : u.mec.state = .threaded) (hspin : u.mec.spin = false) (he : u.pins.endLit = false) :
    CueEnds kind code k (ctuTarget .play u) := by
  obtain ⟨hv, -, hc, hsk⟩ := ctuPlay_ctu hs hspin
  exact ⟨by rw [hc, hv, h.cue], ctuPlay_window hs hspin h.window,
    by rw [hsk, h.seek, Seek.entered_other hk], (ctuPlay_reports hs hspin he).trans h.quiet⟩

/-- A mark that ends the seek, as it is told. -/
def markTold (c : Nat) (u : State) : State :=
  setReported .cueFound
    (recordCue .found (some c) (u.mapCtu fun x => { x with seek := { x.seek with state := .idle } }))

@[simp] theorem markTold_frame (c : Nat) (u : State) : (markTold c u).mec = u.mec ∧ (markTold c u).pins = u.pins := by
  simp [markTold]

theorem markTold_line (c : Nat) (u : State) : (markTold c u).lnk.line = u.lnk.line := by
  simp [markTold, recordCue, setReported_eq, raise_eq]

theorem markTold_flag (c : Nat) (u : State) : (markTold c u).reportedSet .cueFound = true := by
  simp [markTold, setReported_eq, State.reportedSet, Reported.bit]

theorem cueEnds_told {c : Nat} (hw : u.ctu.window = []) (hq : u.reports = []) :
    CueEnds .found (some c) { u.ctu.seek with state := .idle } (markTold c u) := by
  constructor <;> simp [markTold, recordCue, hw, hq]

theorem seekFound_eq (c : Nat) (u : State) :
    seekFound c u =
      if u.ctu.seek.endPlay then ctuTarget .play (ctuTarget .stop (markTold c u)) else ctuTarget .stop (markTold c u) := rfl

/-- A mark that the seek's pattern meets. -/
theorem seekFound_ends {c : Nat} (hw : u.ctu.window = []) (hq : u.reports = []) (hs : u.mec.state = .searchFwd)
    (he : u.pins.endLit = false) :
    CueEnds .found (some c) { u.ctu.seek with state := .idle } (seekFound c u) ∧
    (seekFound c u).lnk.sansNotices = (markTold c u).lnk.sansNotices ∧
    (seekFound c u).mec.state = if u.ctu.seek.endPlay then .play else .threaded := by
  have hm : (markTold c u).mec.state = .searchFwd := by simpa
  have hst : (markTold c u).mec.state.stopsThreaded := by rw [hm]; rfl
  obtain ⟨hth, -, hspin, -⟩ := ctuStop_rests hst
  have hstop := (cueEnds_told (c := c) hw hq).stop hm
  rw [seekFound_eq]
  split
  · exact ⟨hstop.play nofun hth hspin (by rw [ctuStop_pins hst]; simpa), by simp, ctuPlay_state hth hspin⟩
  · exact ⟨hstop, by simp, hth⟩

/-- A mark that the seek passes before its limit. -/
theorem seekPassed_counts {c : Nat} (h : u.ctu.seek.limit = 0 ∨ u.ctu.seek.passed + 1 < u.ctu.seek.limit) :
    seekPassed c u = recordCue .passed (some c)
      (u.mapCtu fun x => { x with seek := { x.seek with passed := x.seek.passed + 1 } }) := by
  have hn : ¬(u.ctu.seek.limit ≠ 0 ∧ u.ctu.seek.limit ≤ u.ctu.seek.passed + 1) := by omega
  rw [seekPassed, if_neg (by simpa [recordCue] using hn)]

/-- The mark at which the seek reaches its limit. -/
theorem seekPassed_ends {c : Nat} (hw : u.ctu.window = []) (hq : u.reports = []) (hs : u.mec.state = .searchFwd)
    (hk : u.ctu.seek.state = .running) (hl : u.ctu.seek.limit ≠ 0) (hp : u.ctu.seek.limit ≤ u.ctu.seek.passed + 1) :
    CueEnds .notFound none { u.ctu.seek with passed := u.ctu.seek.passed + 1, state := .idle } (seekPassed c u) ∧
    (seekPassed c u).mec.state = .threaded := by
  let p := recordCue .passed (some c)
    (u.mapCtu fun x => { x with seek := { x.seek with passed := x.seek.passed + 1 } })
  have hpm : p.mec.state = .searchFwd := by simpa [p]
  have hend : CueEnds .passed (some c) { u.ctu.seek with passed := u.ctu.seek.passed + 1 } p :=
    cueEnds_recorded hw rfl hq
  have hstop := hend.stop hpm
  have he : seekPassed c u = endSeek .notFound (ctuTarget .stop p) := by
    rw [seekPassed, if_pos (by simpa [recordCue] using ⟨hl, hp⟩)]
  have hrun : (ctuTarget .stop p).ctu.seek.state ≠ .idle := by simp [hstop.seek, hk]
  rw [he, endSeek, if_neg hrun]
  refine ⟨cueEnds_recorded (by simpa using hstop.window) (by simp [hstop.seek]) (by simpa using hstop.quiet), ?_⟩
  simpa using (ctuStop_rests (s := p) (by rw [hpm]; rfl)).1
/-- How a command shows the cue event of a completed mark. -/
def State.CueShown (kind : CueKind) (code : Option Nat) (s t : State) : Prop :=
  t.ctu.cue = { kind := kind, code := code, counter := t.ctu.value } ∧ t.ctu.window = [] ∧ s.SameElsewhere t

theorem CueEnds.shown {kind : CueKind} {code : Option Nat} {k : Seek} (hc : CueEnds kind code k (pulseRead duty s))
    (h : s.Counts) :
    exec (.controlPulseRead duty) s = .next (transmit (pulseRead duty s)) ∧
      s.CueShown kind code (transmit (pulseRead duty s)) :=
  ⟨exec_pulse h hc.quiet, by simpa using hc.cue, by simpa using hc.window, sameElsewhere_pulse duty s⟩

section
variable {c : Nat} (h : s.Counts) (hm : pulseRead duty s = markRecognised c (markMet s))
include h hm

/-- Without a running seek the mark is PASSED. -/
theorem mark_without_seek (hk : s.ctu.seek.state = .idle) :
    ∃ t, exec (.controlPulseRead duty) s = .next t ∧ s.CueShown .passed (some c) t ∧ t.mec = s.mec := by
  rw [markRecognised, if_neg (by simp [hk])] at hm
  have hc : CueEnds .passed (some c) s.ctu.seek (pulseRead duty s) := by
    rw [hm]
    exact cueEnds_recorded (by simp) (by simp) (by simpa using h.quiet)
  obtain ⟨hx, hsh⟩ := hc.shown h
  exact ⟨_, hx, hsh, by simp [hm]⟩

section
variable (hs : s.mec.state = .searchFwd) (hk : s.ctu.seek.state = .running)
include hs hk

/-- The mark the running seek looks for. -/
theorem mark_found (ht : s.ctu.seek.takes c = true) (he : s.pins.endLit = false) (hl : s.lnk.line.isSome) :
    ∃ t, exec (.controlPulseRead duty) s = .next t ∧ s.CueShown .found (some c) t ∧ t.ctu.seek.state = .idle ∧
      t.reportedSet .cueFound = true ∧ t.mec.state = if s.ctu.seek.endPlay then .play else .threaded := by
  rw [markRecognised, if_pos (by simpa using hk), if_pos (by simpa using ht)] at hm
  obtain ⟨hc, hsans, hst⟩ :=
    seekFound_ends (c := c) (u := markMet s) (by simp) (by simpa using h.quiet) (by simpa using hs) (by simpa using he)
  rw [← hm] at hc hsans hst
  obtain ⟨hx, hsh⟩ := hc.shown h
  have hb : transmit (pulseRead duty s) = pulseRead duty s := transmit_busy (by
    rw [Lnk.line_of_sans hsans, markTold_line, Lnk.line_of_sans (b := s.lnk) (by simp)]
    exact hl)
  refine ⟨_, hx, hsh, by simp [hc.seek], ?_, by simpa using hst⟩
  rw [hb, reportedSet_of_sans hsans]
  exact markTold_flag _ _

omit hs in
/-- A mark the running seek passes and counts. -/
theorem mark_counted (ht : ¬s.ctu.seek.takes c = true)
    (hl : s.ctu.seek.limit = 0 ∨ s.ctu.seek.passed + 1 < s.ctu.seek.limit) :
    ∃ t, exec (.controlPulseRead duty) s = .next t ∧ s.CueShown .passed (some c) t ∧
      t.ctu.seek = { s.ctu.seek with passed := s.ctu.seek.passed + 1 } ∧ t.mec = s.mec := by
  rw [markRecognised, if_pos (by simpa using hk), if_neg (by simpa using ht), seekPassed_counts (by simpa using hl)] at hm
  have hc : CueEnds .passed (some c) { s.ctu.seek with passed := s.ctu.seek.passed + 1 } (pulseRead duty s) := by
    rw [hm]
    exact cueEnds_recorded (by simp) (by simp) (by simpa using h.quiet)
  obtain ⟨hx, hsh⟩ := hc.shown h
  exact ⟨_, hx, hsh, by simp [hc.seek], by simp [hm]⟩

/-- The mark at which the running seek gives up. -/
theorem mark_limit (ht : ¬s.ctu.seek.takes c = true) (hl : s.ctu.seek.limit ≠ 0)
    (hp : s.ctu.seek.limit ≤ s.ctu.seek.passed + 1) :
    ∃ t, exec (.controlPulseRead duty) s = .next t ∧ s.CueShown .notFound none t ∧ t.ctu.seek.state = .idle ∧
      t.mec.state = .threaded := by
  rw [markRecognised, if_pos (by simpa using hk), if_neg (by simpa using ht)] at hm
  obtain ⟨hc, hst⟩ := seekPassed_ends (c := c) (u := markMet s) (by simp) (by simpa using h.quiet) (by simpa using hs)
    (by simpa using hk) (by simpa using hl) (by simpa using hp)
  rw [← hm] at hc hst
  obtain ⟨hx, hsh⟩ := hc.shown h
  exact ⟨_, hx, hsh, by simp [hc.seek], by simpa using hst⟩

end

end

end

end Sys2Proof.Machine

namespace Sys2Proof.Proofs
open Sys2Proof.Machine

/-- Settles O29: the movement with its match tested from both sides, and the mark in each of the seek's outcomes. -/
theorem readPulseMovesTheCounter : Obligations.ReadPulseMovesTheCounter := by
  refine ⟨fun duty s hq hm hd hu ha hk => ?_, fun duty s hq hm hd hu ha hside hk hs he hl => ?_,
    fun duty s hq hm hd hu ha hside hk hs he hl => ?_, ?_⟩
  · have moves (hr : s.mec.state.readsPulses = true) (n : Int) (hn : s.mec.state.travel = n) :
        ∃ t, exec (.controlPulseRead duty) s = .next t ∧
          t.ctu.value = max (-1080000) (min 1079999 (s.ctu.value + n)) ∧ t.ctu.unread = 0 ∧ t.ctu.source = .pulse ∧
          t.mec = s.mec ∧ t.tun = s.tun ∧ t.clk = s.clk ∧ t.tsc = s.tsc := by
      have h : s.Counts := ⟨hq, hm, hd, hu, hr⟩
      obtain ⟨hv, -, hun, hsrc, hmec, hrep⟩ :=
        pulseRead_tells (duty := duty) h hk (by simp [Ctu.crosses, Ctu.moved, ha])
      exact ⟨_, exec_pulse h hrep, by simp [hv, Ctu.moved, hn], by simp [hun], by simp [hsrc], by simp [hmec], by simp⟩
    refine ⟨fun hs => ?_, fun hs => ?_⟩
    · exact moves (readsPulses_iff.mpr (by tauto)) 1 (by rcases hs with hs | hs <;> rw [hs] <;> rfl)
    · exact moves (readsPulses_iff.mpr (by tauto)) (-1) (by rw [hs]; rfl)
  · have h : s.Counts := ⟨hq, hm, hd, hu, readsPulses_iff.mpr (.inl hs)⟩
    have ht : s.mec.state.travel = 1 := by rw [hs]; rfl
    have hv : (pulseMoved s).ctu.value = max (-1080000) (min 1079999 (s.ctu.value + 1)) := by simp [Ctu.moved, ht]
    have hr := crosses_below (c := (pulseMoved s).ctu) (.inr (by simpa [Ctu.moved] using hside))
    obtain ⟨h1, h2, h3, h4⟩ := match_outcomes (duty := duty) h hk ha he hl
      (reached := s.ctu.mValue ≤ max (-1080000) (min 1079999 (s.ctu.value + 1))) (by
        rw [hr, hv]
        simp [Ctu.moved, ha, hside]) hv
    exact ⟨h1, h2, h3, fun hn => h4 (not_le.mpr hn)⟩
  · have h : s.Counts := ⟨hq, hm, hd, hu, readsPulses_iff.mpr (.inr (.inr hs))⟩
    have ht : s.mec.state.travel = -1 := by rw [hs]; rfl
    have hv : (pulseMoved s).ctu.value = max (-1080000) (min 1079999 (s.ctu.value - 1)) := by
      simp [Ctu.moved, ht, Int.sub_eq_add_neg]
    have hr := crosses_above (c := (pulseMoved s).ctu) (by simpa [Ctu.moved] using ha) (by simpa [Ctu.moved] using hside)
    obtain ⟨h1, h2, h3, h4⟩ := match_outcomes (duty := duty) h hk ha he hl
      (reached := max (-1080000) (min 1079999 (s.ctu.value - 1)) ≤ s.ctu.mValue) (by
        rw [hr, hv]
        simp [Ctu.moved]) hv
    exact ⟨h1, h2, h3, fun hn => h4 (not_le.mpr hn)⟩
  · intro duty c s hq hm hd hu ha ho he hl hc hw read last mark k meets ends
    have recognised (hr : s.mec.state.readsPulses = true)
        (hl : last = if s.mec.state.reverse then mark.reverse else mark) :
        s.Counts ∧ pulseRead duty s = markRecognised c (markMet s) :=
      have h : s.Counts := ⟨hq, hm, hd, hu, hr⟩
      ⟨h, pulseRead_mark h ha hc ((pushClass_eq hw).trans hl)⟩
    have meets_iff : k.takes c = true ↔ meets := seek_takes_iff
    refine ⟨fun hk hs hmark => ?_, fun hk hs hmark => ?_, fun hk hs hspin hmark => ?_⟩
    · have hrev : s.mec.state.reverse = false := by rcases hs with hs | hs <;> rw [hs] <;> rfl
      obtain ⟨h, hp⟩ := recognised (readsPulses_iff.mpr (by tauto)) (by rw [hrev]; exact hmark)
      exact mark_without_seek h hp hk
    · obtain ⟨h, hp⟩ := recognised (readsPulses_iff.mpr (by tauto)) (by rw [hs]; exact hmark)
      exact mark_without_seek h hp hk
    · obtain ⟨h, hp⟩ := recognised (readsPulses_iff.mpr (by tauto)) (by rw [hs]; exact hmark)
      exact ⟨fun hmt => mark_found h hp hs hk (meets_iff.mpr hmt) he hl,
        fun hmt => mark_counted h hp hk (mt meets_iff.mp hmt),
        fun hmt => mark_limit h hp hs hk (mt meets_iff.mp hmt)⟩

end Sys2Proof.Proofs
end

section
/-! SUPPORT. Reel revolutions (R60 to R72): what a closed revolution leaves of TPE, the lengths and the profile. -/

namespace Sys2Proof.Machine

/-- A revolution of a measuring state gives a C (R61). -/
def OpenRev.accepted (v : OpenRev) : Prop := 1600 ≤ v.count ∧ v.count ≤ 6400 ∧ v.spoiled = false

theorem OpenRev.not_accepted {v : OpenRev} (h : v.count < 1600 ∨ 6400 < v.count ∨ v.spoiled = true) : ¬v.accepted := by
  rintro ⟨h1, h2, h3⟩
  rcases h with h | h | h
  · omega
  · omega
  · simp [h3] at h

/-- The reel after an accepted revolution, with the next one open. -/
def ReelRec.accepts (count : Nat) (r : ReelRec) : ReelRec :=
  { r with c := some count, status := .valid, run := 0, fresh := true, rev := some OpenRev.start }

section
variable {s u : State} {v : OpenRev} {elapsed : Nat}

theorem exec_reelTachoEdge (reel : Reel) (elapsed : Nat) (s : State) :
    exec (.reelTachoEdge reel elapsed) s = done (when s.deckPowered (reelEdge reel elapsed) s) := rfl

theorem exec_windOverflow (reel : Reel) (s : State) :
    exec (.windRevolutionOverflow reel) s = done (when s.deckPowered (revOverflow reel) s) := rfl

/-- An edge that changes no more than TPE's record. -/
theorem exec_edge_tpe {reel : Reel} {t : Tpe} (hq : s.reports = []) (hm : s.pwr.mode = .on) (hd : s.pwr.deckUp = true)
    (h : reelEdge reel elapsed s = { s with tpe := t }) :
    exec (.reelTachoEdge reel elapsed) s = .next (transmit { s with tpe := t }) := by
  rw [exec_reelTachoEdge, done_powered hm hd (by rw [h]; exact hq), h]

theorem reelEdge_play {reel : Reel} (h : s.mec.state = .play) : reelEdge reel elapsed s = edgeMeasuring reel s := by
  simp [reelEdge, h, TState.measures]

theorem reelEdge_wind {reel : Reel} (h : s.mec.state = .windFwd ∨ s.mec.state = .windRev) :
    reelEdge reel elapsed s = edgeWinding reel elapsed s := by
  rcases h with h | h <;> simp [reelEdge, h, TState.measures, TState.isWind]

/-! ### An edge of a measuring state (R60, R61) -/

section
variable {reel : Reel}

theorem edgeMeasuring_opens (h : (s.tpe.reel reel).rev = none) :
    edgeMeasuring reel s = mapReel reel (fun r => { r with rev := some OpenRev.start }) s := by
  rw [edgeMeasuring, h]

theorem edgeMeasuring_advances (h : (s.tpe.reel reel).rev = some v) (he : v.edges ≠ 3) :
    edgeMeasuring reel s = mapReel reel (fun r => { r with rev := some { v with edges := v.edges + 1 } }) s := by
  simp only [edgeMeasuring, h, he, if_false]

theorem edgeMeasuring_closes (h : (s.tpe.reel reel).rev = some v) (he : v.edges = 3) :
    edgeMeasuring reel s = closeRev reel v s := by
  simp only [edgeMeasuring, h, he, if_true]

end

theorem close_accepted {r : ReelRec} (h : v.accepted) :
    r.close v.count v.spoiled = ({ r with c := some v.count, status := .valid, run := 0, fresh := true }, true) :=
  if_pos h

/-- A take-up revolution that is accepted. -/
theorem closeRev_takeup (h : v.accepted) :
    closeRev .takeup v s = takeSample (s.mapTpe fun t => { t with takeup := t.takeup.accepts v.count }) := by
  simp only [closeRev, Tpe.reel, close_accepted h, mapReel, if_true]
  rfl

/-- The supply reel after an accepted revolution. -/
def State.supplyAccepts (n : Nat) (s : State) : State := s.mapTpe fun t => { t with supply := t.supply.accepts n }

/-- A supply revolution that is accepted: the length, and then the sample. -/
theorem closeRev_supply (h : v.accepted) :
    closeRev .supply v s = takeSample (directCalc (s.supplyAccepts v.count)) := by
  simp only [closeRev, Tpe.reel, close_accepted h, mapReel, if_true]
  rfl

/-- TPE's record after a supply revolution that is not accepted (R61, R66). -/
def Tpe.rejects (t : Tpe) : Tpe :=
  match t.supply.status with
  | .valid => { t with supply := { t.supply with status := .rejected, run := 1, fresh := false, rev := some OpenRev.start } }
  | .rejected =>
    { t with
      supply := { t.supply with c := none, status := .invalid, run := 0, fresh := false, rev := some OpenRev.start },
      ls := none }
  | .invalid => { t with supply := { t.supply with fresh := false, rev := some OpenRev.start } }

theorem closeRev_rejected (h : ¬v.accepted) : closeRev .supply v s = { s with tpe := s.tpe.rejects } := by
  have hc : ¬(1600 ≤ v.count ∧ v.count ≤ 6400 ∧ v.spoiled = false) := h
  cases hs : s.tpe.supply.status <;>
    simp [closeRev, ReelRec.close, hc, hs, Tpe.reel, Tpe.rejects, mapReel, setLs, State.mapTpe]

/-! ### A sample needs both reels fresh (R68) -/

theorem takeSample_stale (h : s.tpe.supply.fresh = false ∨ s.tpe.takeup.fresh = false) : takeSample s = s := by
  rcases h with h | h <;> simp [takeSample, h]

/-! ### The thresholds (R74) -/

/-- A threshold's side at so many seconds remaining. -/
def sideAt (limit remaining : Nat) : TapeSide := if remaining < limit then .below else .above

@[simp] theorem sideTest_fst (limit remaining : Nat) (side : TapeSide) :
    (sideTest limit remaining side).1 = sideAt limit remaining := by
  unfold sideTest sideAt; split <;> rfl

theorem sideTest_snd (limit remaining : Nat) (side : TapeSide) :
    (sideTest limit remaining side).2 = (decide (remaining < limit) && side != .below) := by
  unfold sideTest; split <;> simp [*]

/-- What the thresholds' test leaves, where a length is held. -/
theorem thresholdTest_spec {l : Nat} (h : s.tpe.ls = some l) :
    let r := l / stepsPerSecond s.currentGrade
    (thresholdTest s).tpe = { s.tpe with lowSide := sideAt 300 r, critSide := sideAt 30 r } ∧
    (thresholdTest s).lnk.line = s.lnk.line ∧
    (r < 300 → s.tpe.lowSide ≠ .below → (thresholdTest s).reportedSet .tapeLow = true) ∧
    (r < 30 → s.tpe.critSide ≠ .below → (thresholdTest s).reportedSet .tapeCritical = true) := by
  intro r
  have hr : s.tpe.remaining s.currentGrade = some r := by simp [Tpe.remaining, h, r]
  unfold thresholdTest
  rw [hr]
  simp only [sideTest_fst, sideTest_snd]
  refine ⟨?_, ?_, fun h1 h2 => ?_, fun h1 h2 => ?_⟩
  · (repeat' split) <;> simp
  · (repeat' split) <;> simp [raiseIf_eq, setReported_eq]
  · have hl : (decide (r < 300) && s.tpe.lowSide != .below) = true := by simp [h1, h2]
    simp only [hl, if_true]
    split <;> simp [raiseIf_eq, setReported_eq, State.reportedSet, Reported.bit]
  · have hc : (decide (r < 30) && s.tpe.critSide != .below) = true := by simp [h1, h2]
    simp only [hc, if_true]
    simp [raiseIf_eq, setReported_eq, State.reportedSet, Reported.bit]

/-! ### A new length (R66) -/

/-- A length computed in PLAY: it is held with its method, the thresholds are tested where it is new. -/
structure LsComputed (n : Nat) (m : Method) (s u : State) : Prop where
  tpe : u.tpe = { s.tpe with ls := some n, method := m, lowSide := u.tpe.lowSide, critSide := u.tpe.critSide }
  mec : u.mec = s.mec
  srv : u.srv = s.srv
  ctu : u.ctu = s.ctu
  reports : u.reports = s.reports
  line : u.lnk.line = s.lnk.line

theorem setLs_play {n : Nat} {m : Method} (h : s.mec.state = .play) :
    setLs (some n) m s =
      let u := s.mapTpe fun t => { t with ls := some n, method := m }
      if s.tpe.ls = some n then u else thresholdTest u := by
  by_cases hn : s.tpe.ls = some n
  · simp [setLs, hn]
  · have hb : (s.tpe.ls != some n) = true := by simpa using hn
    simp [setLs, hb, hn, h, TState.isWind, TState.testsTape]

theorem setLs_computed {n : Nat} {m : Method} (h : s.mec.state = .play) : LsComputed n m s (setLs (some n) m s) := by
  rw [setLs_play h]
  dsimp only
  split
  · constructor <;> rfl
  · obtain ⟨ht, hl, -, -⟩ := thresholdTest_spec (s := s.mapTpe fun t => { t with ls := some n, method := m }) rfl
    constructor <;> simp [ht, hl]

/-- The direct method, from the supply reel's C (R65). -/
theorem directCalc_eq {c : Nat} (h : s.tpe.supply.c = some c) :
    directCalc s = setLs (some (s.tpe.clampLength (lengthOfSquare (c ^ 2)))) .direct s := by
  rw [directCalc, h]

theorem clampLength_other {t : Tpe} {l : Nat} (h : t.profile ≠ .calibrated) : t.clampLength l = l := by
  cases hp : t.profile <;> simp_all [Tpe.clampLength]

theorem clampLength_calibrated {t : Tpe} {l total : Nat} (h : t.profile = .calibrated) (ht : t.lt = some total) :
    t.clampLength l = min l total := by
  simp [Tpe.clampLength, h, ht]

/-! ### The profile (R68 to R71) -/

theorem sample_kept (kx : Nat) (t : Tpe) :
    (t.sample kx).supply = t.supply ∧ (t.sample kx).takeup = t.takeup ∧ (t.sample kx).ls = t.ls := by
  unfold Tpe.sample
  (repeat' split) <;> simp

/-- TPE's record after a sample, before a change of the profile is followed. -/
def Tpe.sampled (kx : Nat) (t : Tpe) : Tpe :=
  Tpe.sample kx { t with supply := { t.supply with fresh := false }, takeup := { t.takeup with fresh := false } }

theorem sampled_reels (kx : Nat) (t : Tpe) :
    (t.sampled kx).supply = { t.supply with fresh := false } ∧ (t.sampled kx).takeup = { t.takeup with fresh := false } := by
  obtain ⟨hs, ht, -⟩ := sample_kept kx
    { t with supply := { t.supply with fresh := false }, takeup := { t.takeup with fresh := false } }
  exact ⟨hs, ht⟩

/-- What a sample makes of the profile depends on the profile alone. -/
theorem sampled_congr {kx : Nat} {t t' : Tpe} (hp : t'.profile = t.profile) (hk : t'.k = t.k) (hl : t'.lt = t.lt)
    (hm : t'.mismatch = t.mismatch) :
    (t'.sampled kx).profile = (t.sampled kx).profile ∧ (t'.sampled kx).k = (t.sampled kx).k ∧
    (t'.sampled kx).lt = (t.sampled kx).lt ∧ (t'.sampled kx).mismatch = (t.sampled kx).mismatch := by
  simp only [Tpe.sampled, Tpe.sample, hp, hk, hm]
  (repeat' split) <;> simp [*]

theorem clampLength_congr {t t' : Tpe} (hp : t'.profile = t.profile) (hl : t'.lt = t.lt) (l : Nat) :
    t'.clampLength l = t.clampLength l := by
  simp only [Tpe.clampLength, hp, hl]

/-- A change of the profile in PLAY is told, and the length is computed again. -/
theorem profileMoved_play {old : Profile} (h : s.mec.state = .play) (hp : s.tpe.profile ≠ old)
    (hst : s.tpe.supply.status = .valid) : profileMoved old s = directCalc (report .rebuild (raise .tape s)) := by
  simp [profileMoved, hp, h, hst, TState.isWind]

/-- What a sample in PLAY leaves. -/
structure Sampled (kx l : Nat) (s u : State) : Prop where
  reels : u.tpe.supply = { s.tpe.supply with fresh := false } ∧ u.tpe.takeup = { s.tpe.takeup with fresh := false }
  profile : u.tpe.profile = (s.tpe.sampled kx).profile
  k : u.tpe.k = (s.tpe.sampled kx).k
  lt : u.tpe.lt = (s.tpe.sampled kx).lt
  mismatch : u.tpe.mismatch = (s.tpe.sampled kx).mismatch
  ls : (s.tpe.sampled kx).profile ≠ s.tpe.profile → u.tpe.ls = some ((s.tpe.sampled kx).clampLength l)
  mec : u.mec = s.mec
  ctu : u.ctu = s.ctu
  reports : u.reports = s.reports ++ if (s.tpe.sampled kx).profile = s.tpe.profile then [] else [.rebuild]

theorem takeSample_play {cs ct : Nat} (h : s.mec.state = .play) (hfs : s.tpe.supply.fresh = true)
    (hft : s.tpe.takeup.fresh = true) (hcs : s.tpe.supply.c = some cs) (hct : s.tpe.takeup.c = some ct)
    (hst : s.tpe.supply.status = .valid) :
    Sampled (cs ^ 2 + ct ^ 2) (lengthOfSquare (cs ^ 2)) s (takeSample s) := by
  let q := s.tpe.sampled (cs ^ 2 + ct ^ 2)
  have ht : takeSample s = profileMoved s.tpe.profile { s with tpe := q } := by
    simp only [takeSample, hfs, hft, hcs, hct]
    rfl
  obtain ⟨hsup, htak⟩ := sampled_reels (cs ^ 2 + ct ^ 2) s.tpe
  rw [ht]
  by_cases hp : q.profile = s.tpe.profile
  · rw [profileMoved, if_pos hp]
    refine ⟨⟨hsup, htak⟩, rfl, rfl, rfl, rfl, fun hn => absurd hp hn, rfl, rfl, ?_⟩
    rw [if_pos hp, List.append_nil]
  · let u := report .rebuild (raise .tape { s with tpe := q })
    have hu : u.tpe = q := by simp [u]
    have hm : profileMoved s.tpe.profile { s with tpe := q } = directCalc u :=
      profileMoved_play h hp (by simpa [q, hsup] using hst)
    have hc : u.tpe.supply.c = some cs := by simpa [hu, q, hsup] using hcs
    have hl := setLs_computed (s := u) (n := u.tpe.clampLength (lengthOfSquare (cs ^ 2))) (m := .direct) (by simpa [u] using h)
    rw [← directCalc_eq hc, ← hm, hu] at hl
    obtain ⟨htpe, hmec, -, hctu, hrep, -⟩ := hl
    rw [hu] at htpe
    constructor
    case ls => exact fun _ => by rw [htpe]
    case reports => rw [hrep, if_neg hp]; simp [u, report_eq]
    case reels => rw [htpe]; exact ⟨hsup, htak⟩
    case mec => rw [hmec]; simp [u]
    case ctu => rw [hctu]; simp [u]
    all_goals rw [htpe]

/-! ### A revolution of a wind (R50, R64, R72) -/

theorem edgeWinding_closes {reel : Reel} (h : (s.tpe.reel reel).rev = some v) (he : v.edges = 3)
    (hn : v.count + elapsed ≤ 65535) : edgeWinding reel elapsed s = closeTimed reel (v.count + elapsed) s := by
  simp only [edgeWinding, h, he, if_true, if_neg (Nat.not_lt.mpr hn)]

/-- With the match disarmed a length's change in a wind moves the counter and nothing else. -/
theorem windMoved_kept {l : Nat} (ha : s.ctu.mArmed = false) :
    (windMoved l s).mec = s.mec ∧ (windMoved l s).tpe = s.tpe ∧ (windMoved l s).reports = s.reports := by
  unfold windMoved
  cases hr : s.ctu.windRef with
  | none => simp
  | some ref =>
    cases hu : s.ctu.uncertain
    · dsimp only
      rw [if_neg (by simp)]
      split
      · simp
      · rw [moveCounter_disarmed (by simpa using hu) (by simpa using ha)]
        simp [setSide]
    · simp

/-- The frames that a wind's new length stands for, and the reference they leave (R50). -/
theorem windMoved_ctu {l : Nat} {ref f : Int} (ha : s.ctu.mArmed = false) (hr : s.ctu.windRef = some ref)
    (hu : s.ctu.uncertain = false) (hlow : -1080000 ≤ s.ctu.value) (hhigh : s.ctu.value ≤ 1079999)
    (hf : (stepsPerFrame s.srv.basis : Int) = f) :
    (windMoved l s).ctu.value = max (-1080000) (min 1079999 (s.ctu.value + (ref - l).tdiv f)) ∧
    (windMoved l s).ctu.windRef = some (ref - (ref - l).tdiv f * f) := by
  simp only [windMoved, hr, hu, hf, Bool.false_eq_true, if_false]
  split
  · rename_i h0
    simp only [State.mapCtu_ctu, h0]
    exact ⟨by omega, trivial⟩
  · rw [moveCounter_disarmed (by simpa using hu) (by simpa using ha)]
    simp [setSide, Ctu.moved]

theorem setLs_wind {n : Nat} {m : Method} (h : s.mec.state = .windFwd ∨ s.mec.state = .windRev)
    (ha : s.ctu.mArmed = false) :
    setLs (some n) m s =
      let u := s.mapTpe fun t => { t with ls := some n, method := m }
      if s.tpe.ls = some n then u else windMoved n u := by
  by_cases hn : s.tpe.ls = some n
  · simp [setLs, hn]
  · have hb : (s.tpe.ls != some n) = true := by simpa using hn
    obtain ⟨hm, -, -⟩ := windMoved_kept (s := s.mapTpe fun t => { t with ls := some n, method := m }) (l := n) ha
    have hw : s.mec.state.isWind = true ∧ s.mec.state.testsTape = false := by rcases h with h | h <;> rw [h] <;> decide
    simp [setLs, hb, hn, hw.1, hm, hw.2]

/-- With the match disarmed a length in a wind leaves MEC, and of TPE all but the length and its method. -/
theorem setLs_wind_kept {n : Nat} {m : Method} (h : s.mec.state = .windFwd ∨ s.mec.state = .windRev)
    (ha : s.ctu.mArmed = false) :
    (setLs (some n) m s).mec = s.mec ∧ (setLs (some n) m s).tpe = { s.tpe with ls := some n, method := m } ∧
    (setLs (some n) m s).reports = s.reports := by
  rw [setLs_wind h ha]
  dsimp only
  split
  · simp
  · exact windMoved_kept ha

/-- What a new length of a wind makes of the counter and its reference. -/
theorem setLs_wind_ctu {l : Nat} {m : Method} {ref f : Int} (h : s.mec.state = .windFwd ∨ s.mec.state = .windRev)
    (ha : s.ctu.mArmed = false) (hn : s.tpe.ls ≠ some l) (hr : s.ctu.windRef = some ref) (hu : s.ctu.uncertain = false)
    (hlow : -1080000 ≤ s.ctu.value) (hhigh : s.ctu.value ≤ 1079999) (hf : (stepsPerFrame s.srv.basis : Int) = f) :
    (setLs (some l) m s).ctu.value = max (-1080000) (min 1079999 (s.ctu.value + (ref - l).tdiv f)) ∧
    (setLs (some l) m s).ctu.windRef = some (ref - (ref - l).tdiv f * f) := by
  rw [setLs_wind h ha]
  dsimp only
  rw [if_neg hn]
  exact windMoved_ctu (s := s.mapTpe fun t => { t with ls := some l, method := m }) ha hr hu hlow hhigh hf

theorem ratioCalc_eq {ts tt : Nat} (hp : s.tpe.profile = .calibrated) (hs : s.tpe.supply.t = some ts)
    (ht : s.tpe.takeup.t = some tt) :
    ratioCalc s = setLs (some (s.tpe.clampLength (lengthOfSquare (ratioSquare s.tpe.k ts tt)))) .ratio s := by
  simp only [ratioCalc, hp, hs, ht]

theorem revOverflow_wind {reel : Reel} (hs : s.mec.state = .windFwd ∨ s.mec.state = .windRev)
    (hr : (s.tpe.reel reel).rev.isSome) :
    revOverflow reel s = mapReel reel (fun r => { r with t := none, rev := none }) s := by
  rw [revOverflow, isWind_iff.mpr hs, hr, Bool.and_self, when_true]

theorem revOverflow_other {reel : Reel} (hf : s.mec.state ≠ .windFwd) (hr : s.mec.state ≠ .windRev) :
    revOverflow reel s = s := by
  have hw : s.mec.state.isWind = false := eq_false_of_ne_true (mt isWind_iff.mp (by tauto))
  rw [revOverflow, hw, Bool.false_and, when_false]

/-- The supply reel's T after a revolution of a wind. -/
def State.timed (n : Nat) (s : State) : State :=
  s.mapTpe fun t => { t with supply := { t.supply with t := some n, rev := some OpenRev.start } }

theorem closeTimed_short {n : Nat} (h : n < 20) :
    closeTimed .supply n s =
      { s with tpe := { s.tpe with supply := { s.tpe.supply with t := none, rev := some OpenRev.start } } } := by
  simp [closeTimed, h, mapReel, State.mapTpe]

theorem closeTimed_supply {n : Nat} (h : 20 ≤ n) : closeTimed .supply n s = ratioCalc (s.timed n) := by
  simp [closeTimed, Nat.not_lt.mpr h, mapReel, State.timed]

end

end Sys2Proof.Machine
end

section
/-! A reel edge as a command (O32), clause by clause. -/

namespace Sys2Proof.Machine

section
variable {s : State} {v : OpenRev} {elapsed : Nat}

/-- The length of a count (R65). -/
theorem lengthOfSquare_eq (sq : Nat) : lengthOfSquare sq = (sq - 2669956) * 13038 / 65536 := rfl

/-- An accepted supply revolution in PLAY, the length computed and no sample taken. -/
theorem edge_supply_alone (hs : s.mec.state = .play) (hr : s.tpe.supply.rev = some v) (he : v.edges = 3) (ha : v.accepted)
    (hf : s.tpe.takeup.fresh = false) :
    reelEdge .supply elapsed s = setLs (some (s.tpe.clampLength (lengthOfSquare (v.count ^ 2)))) .direct
      (s.supplyAccepts v.count) := by
  rw [reelEdge_play hs, edgeMeasuring_closes (reel := .supply) hr he, closeRev_supply ha, directCalc_eq (c := v.count) rfl,
    takeSample_stale]
  · rfl
  · right
    rw [(setLs_computed (by exact hs)).tpe]
    exact hf

/-- A new length of an uncalibrated cassette meets the thresholds (R74). -/
theorem setLs_thresholds {l r : Nat} {u : State} (hs : s.mec.state = .play) (hn : s.tpe.ls ≠ some l)
    (hr : l / stepsPerSecond s.srv.basis = r) (hu : u = setLs (some l) .direct s) :
    u.tpe.lowSide = sideAt 300 r ∧ u.tpe.critSide = sideAt 30 r ∧
    (r < 300 → s.tpe.lowSide ≠ .below → u.reportedSet .tapeLow = true) ∧
    (r < 30 → s.tpe.critSide ≠ .below → u.reportedSet .tapeCritical = true) := by
  obtain ⟨ht, -, hlow, hcrit⟩ :=
    thresholdTest_spec (s := s.mapTpe fun t => { t with ls := some l, method := .direct }) (l := l) rfl
  have hg : (s.mapTpe fun t => { t with ls := some l, method := .direct }).currentGrade = s.srv.basis := by
    simp [State.currentGrade, hs]
  rw [setLs_play hs, if_neg hn] at hu
  rw [← hu, hg, hr] at ht hlow hcrit
  exact ⟨by rw [ht], by rw [ht], hlow, hcrit⟩

/-- An accepted supply revolution in PLAY with the take-up reel fresh: the length, and then a sample. -/
theorem edge_supply_sample (hs : s.mec.state = .play) (hr : s.tpe.supply.rev = some v) (he : v.edges = 3) (ha : v.accepted)
    {ct : Nat} (hf : s.tpe.takeup.fresh = true) (hc : s.tpe.takeup.c = some ct) :
    ∃ u, LsComputed (s.tpe.clampLength (lengthOfSquare (v.count ^ 2))) .direct
        (s.supplyAccepts v.count) u ∧
      Sampled (v.count ^ 2 + ct ^ 2) (lengthOfSquare (v.count ^ 2)) u (reelEdge .supply elapsed s) := by
  have hl := setLs_computed (s := s.supplyAccepts v.count)
    (n := s.tpe.clampLength (lengthOfSquare (v.count ^ 2))) (m := .direct) (by exact hs)
  refine ⟨_, hl, ?_⟩
  rw [reelEdge_play hs, edgeMeasuring_closes (reel := .supply) hr he, closeRev_supply ha, directCalc_eq (c := v.count) rfl]
  apply takeSample_play (ct := ct)
  · rw [hl.mec]; exact hs
  all_goals rw [hl.tpe]
  · rfl
  · exact hf
  · rfl
  · exact hc
  · rfl

/-! ### The sample's outcomes (R69, R70) -/

/-- Whether a sample is off the profile's K by more than a part of it. -/
def Tpe.off (kx part : Nat) (t : Tpe) : Prop := t.k + t.k / part < kx ∨ kx + t.k / part < t.k

theorem distance_le_iff {kx part : Nat} {t : Tpe} : distance kx t.k ≤ t.k / part ↔ ¬t.off kx part := by
  unfold distance Tpe.off
  generalize t.k / part = d
  omega

section
variable {kx : Nat} {t : Tpe}

theorem sampled_unknown (h : t.profile = .unknown) :
    (t.sampled kx).profile = .provisional ∧ (t.sampled kx).k = kx := by
  simp [Tpe.sampled, Tpe.sample, h]

theorem sampled_provisional_off (h : t.profile = .provisional) (ho : t.off kx 64) :
    (t.sampled kx).profile = .provisional ∧ (t.sampled kx).k = kx := by
  have hd := mt distance_le_iff.mp (not_not.mpr ho)
  simp [Tpe.sampled, Tpe.sample, h, hd]

theorem sampled_agrees (h : t.profile = .provisional) (ho : ¬t.off kx 64) :
    (t.sampled kx).profile = .calibrated ∧ (t.sampled kx).k = (t.k + kx) / 2 ∧ (t.sampled kx).mismatch = 0 ∧
    (t.sampled kx).lt = some (totalLength ((t.k + kx) / 2)) := by
  have hd := distance_le_iff.mpr ho
  simp [Tpe.sampled, Tpe.sample, h, hd]

theorem sampled_confirms (h : t.profile = .calibrated) (ho : ¬t.off kx 32) :
    (t.sampled kx).profile = .calibrated ∧ (t.sampled kx).k = t.k ∧ (t.sampled kx).mismatch = 0 := by
  have hd := distance_le_iff.mpr ho
  simp [Tpe.sampled, Tpe.sample, h, hd]

theorem sampled_mismatch (h : t.profile = .calibrated) (ho : t.off kx 32) (hn : t.mismatch ≠ 2) :
    (t.sampled kx).profile = .calibrated ∧ (t.sampled kx).k = t.k ∧ (t.sampled kx).mismatch = t.mismatch + 1 := by
  have hd := mt distance_le_iff.mp (not_not.mpr ho)
  simp [Tpe.sampled, Tpe.sample, h, hd, hn]

theorem sampled_dropped (h : t.profile = .calibrated) (ho : t.off kx 32) (hn : t.mismatch = 2) :
    (t.sampled kx).profile = .provisional ∧ (t.sampled kx).k = kx ∧ (t.sampled kx).lt = none ∧
    (t.sampled kx).mismatch = 0 := by
  have hd := mt distance_le_iff.mp (not_not.mpr ho)
  simp [Tpe.sampled, Tpe.sample, h, hd, hn]

end

/-! ### How the command ends -/

/-- An edge whose reports are a rebuild at most, with nothing to draw. -/
theorem exec_edge_rebuilds {reel : Reel} (hm : s.pwr.mode = .on) (hd : s.pwr.deckUp = true) (ha : s.tsc.active = none)
    (hc : s.clk.state = .unset)
    (hr : (reelEdge reel elapsed s).reports = [] ∨ (reelEdge reel elapsed s).reports = [.rebuild]) :
    ∃ t, exec (.reelTachoEdge reel elapsed) s = .next t ∧ t.tpe = (reelEdge reel elapsed s).tpe ∧
      t.mec = (reelEdge reel elapsed s).mec ∧ t.tun = s.tun ∧ t.clk = s.clk := by
  have hn : (reelEdge reel elapsed s).DrawsNothing := ⟨by simpa using ha, .inl (by simpa using hc)⟩
  obtain ⟨t, ht, hp, -⟩ := settles_rebuilds rfl hn (by rcases hr with hr | hr <;> simp [hr])
  refine ⟨transmit t, ?_, by simp [hp.tpe], by simp [hp.mec], by simp [hp.tun], by simp [hp.clk]⟩
  rw [exec_reelTachoEdge, when_powered hm hd]
  exact done_of_settles ht (by rcases hr with hr | hr <;> rw [hr] <;> decide)

/-- How a command shows the sample that an accepted supply revolution makes. -/
structure SampleShown (kx l count : Nat) (s t : State) : Prop where
  c : t.tpe.supply.c = some count
  stale : t.tpe.supply.fresh = false ∧ t.tpe.takeup.fresh = false
  profile : t.tpe.profile = (s.tpe.sampled kx).profile
  k : t.tpe.k = (s.tpe.sampled kx).k
  lt : t.tpe.lt = (s.tpe.sampled kx).lt
  mismatch : t.tpe.mismatch = (s.tpe.sampled kx).mismatch
  ls : (s.tpe.sampled kx).profile ≠ s.tpe.profile → t.tpe.ls = some ((s.tpe.sampled kx).clampLength l)
  mec : t.mec = s.mec
  tun : t.tun = s.tun
  clk : t.clk = s.clk

theorem exec_edge_sample (hq : s.reports = []) (hm : s.pwr.mode = .on) (hd : s.pwr.deckUp = true)
    (hs : s.mec.state = .play) (hr : s.tpe.supply.rev = some v) (he : v.edges = 3) (ha : v.accepted)
    (hact : s.tsc.active = none) (hclk : s.clk.state = .unset) {ct : Nat} (hf : s.tpe.takeup.fresh = true)
    (hc : s.tpe.takeup.c = some ct) :
    ∃ t, exec (.reelTachoEdge .supply elapsed) s = .next t ∧
      SampleShown (v.count ^ 2 + ct ^ 2) (lengthOfSquare (v.count ^ 2)) v.count s t := by
  obtain ⟨u, hlc, hsm⟩ := edge_supply_sample (elapsed := elapsed) hs hr he ha hf hc
  have hrep : (reelEdge .supply elapsed s).reports = [] ∨ (reelEdge .supply elapsed s).reports = [.rebuild] := by
    rw [hsm.reports, hlc.reports, show (s.supplyAccepts v.count).reports = [] from hq]
    split <;> simp
  obtain ⟨t, ht, htpe, hmec, htun, htclk⟩ := exec_edge_rebuilds hm hd hact hclk hrep
  have hprofile : u.tpe.profile = s.tpe.profile := by rw [hlc.tpe]; rfl
  obtain ⟨hp, hk, hl, hmis⟩ := sampled_congr (kx := v.count ^ 2 + ct ^ 2) hprofile (by rw [hlc.tpe]; rfl)
    (by rw [hlc.tpe]; rfl) (by rw [hlc.tpe]; rfl)
  obtain ⟨hsup, htak⟩ := hsm.reels
  refine ⟨t, ht, by rw [htpe, hsup, hlc.tpe]; rfl, by rw [htpe, hsup, htak]; exact ⟨rfl, rfl⟩,
    by rw [htpe, hsm.profile, hp], by rw [htpe, hsm.k, hk], by rw [htpe, hsm.lt, hl], by rw [htpe, hsm.mismatch, hmis],
    fun hn => ?_, by rw [hmec, hsm.mec, hlc.mec]; rfl, htun, htclk⟩
  rw [htpe, hsm.ls (by rwa [hp, hprofile]), clampLength_congr hp hl]

end

end Sys2Proof.Machine

namespace Sys2Proof.Proofs
open Sys2Proof.Machine

/-- Settles O32, by where an edge falls: on the take-up reel, rejected or accepted on the supply reel, in a wind, or past its
limit there. -/
theorem reelRevolutions : Obligations.ReelRevolutions := by
  refine ⟨fun elapsed s hq hm hd hs => ?_, fun elapsed v s hq hm hd hs hr he hbad => ?_,
    fun elapsed v s hq hm hd hs hr he hsp hlow hhigh hact hclk => ?_, fun elapsed v s hq hm hd hs hr he => ?_,
    fun s hq hm hd => ?_⟩
  · refine ⟨fun hr => ?_, fun v hr he => ?_, fun v hr he hsp hlow hhigh hf => ?_⟩
    · exact exec_edge_tpe hq hm hd ((reelEdge_play hs).trans (edgeMeasuring_opens (reel := .takeup) hr))
    · exact exec_edge_tpe hq hm hd ((reelEdge_play hs).trans (edgeMeasuring_advances (reel := .takeup) hr he))
    · refine exec_edge_tpe hq hm hd ((reelEdge_play hs).trans ?_)
      rw [edgeMeasuring_closes (reel := .takeup) hr he, closeRev_takeup ⟨hlow, hhigh, hsp⟩,
        takeSample_stale (by exact .inl hf)]
      rfl
  · intro new
    exact exec_edge_tpe (elapsed := elapsed) (reel := .supply) hq hm hd
      ((reelEdge_play hs).trans ((edgeMeasuring_closes (reel := .supply) hr he).trans
        (closeRev_rejected (OpenRev.not_accepted hbad))))
  · intro l r
    have hacc : v.accepted := ⟨hlow, hhigh, hsp⟩
    have hrate : l / stepsPerSecond s.srv.basis = r := by
      cases hb : s.srv.basis <;> simp [r, hb, stepsPerSecond]
    refine ⟨fun hf => ?_, fun ct hf hc => ?_⟩
    · have hedge := edge_supply_alone (elapsed := elapsed) hs hr he hacc hf
      have hls := setLs_computed (s := s.supplyAccepts v.count)
        (n := s.tpe.clampLength (lengthOfSquare (v.count ^ 2))) (m := .direct) hs
      rw [← hedge] at hls
      have hrep : (reelEdge .supply elapsed s).reports = [] := hls.reports.trans hq
      refine ⟨_, by rw [exec_reelTachoEdge, done_powered hm hd hrep], ?_⟩
      simp only [transmit_records, reelEdge_frame, hls.mec, hls.ctu, and_true]
      refine ⟨by rw [hls.tpe]; rfl, by rw [hls.tpe]; rfl, by rw [hls.tpe]; rfl, by rw [hls.tpe],
        fun hp => ⟨by rw [hls.tpe, clampLength_other hp]; rfl, fun hn => ?_⟩, fun total hp ht => ?_, rfl, rfl⟩
      · rw [clampLength_other hp] at hedge
        obtain ⟨h300, h30, hlo, hcr⟩ := setLs_thresholds (s := s.supplyAccepts v.count) (l := l) hs hn hrate hedge
        refine ⟨h300, h30, fun hline => ?_⟩
        rw [transmit_busy (by rw [hls.line]; exact hline)]
        exact ⟨hlo, hcr⟩
      · rw [hls.tpe, clampLength_calibrated hp ht]
        rfl
    · intro kx off
      obtain ⟨t, ht, h⟩ := exec_edge_sample (elapsed := elapsed) hq hm hd hs hr he hacc hact hclk hf hc
      refine ⟨t, ht, h.c, h.stale.1, h.stale.2, h.mec, h.tun, h.clk, ?_⟩
      rw [h.profile, h.k, h.lt, h.mismatch]
      refine ⟨fun hp => ?_, fun hp ho => sampled_provisional_off hp ho, fun hp ho => ?_,
        fun hp ho => sampled_confirms hp ho, fun hp ho hx => sampled_mismatch hp ho hx,
        fun hp ho hx => sampled_dropped hp ho hx⟩
      · obtain ⟨hp', hk'⟩ := sampled_unknown (kx := kx) hp
        refine ⟨hp', hk', ?_⟩
        rw [h.ls (by rw [hp', hp]; decide), clampLength_other (by rw [hp']; decide)]
        rfl
      · obtain ⟨hp', hk', hm', hlt'⟩ := sampled_agrees hp ho
        refine ⟨hp', hk', hm', by rw [hlt', hk']; rfl, ?_⟩
        rw [h.ls (by rw [hp', hp]; decide), clampLength_calibrated hp' hlt', hk']
        rfl
  · intro n
    refine ⟨fun hn => ?_, fun tt total hn hmax ha hp hlt htt => ?_⟩
    · exact exec_edge_tpe hq hm hd
        ((reelEdge_wind hs).trans ((edgeWinding_closes (reel := .supply) hr he (by omega)).trans (closeTimed_short hn)))
    · intro l
      have hedge : reelEdge .supply elapsed s = setLs (some l) .ratio (s.timed n) := by
        rw [reelEdge_wind hs, edgeWinding_closes (reel := .supply) hr he hmax, closeTimed_supply hn,
          ratioCalc_eq (s := s.timed n) hp rfl htt, clampLength_calibrated (t := (s.timed n).tpe) hp hlt]
        rfl
      obtain ⟨hkm, hkt, hkr⟩ := setLs_wind_kept (s := s.timed n) (n := l) (m := .ratio) hs ha
      rw [← hedge] at hkm hkt hkr
      refine ⟨_, by rw [exec_reelTachoEdge, done_powered hm hd (hkr.trans hq)], by simp [hkt, State.timed],
        by simp [hkt, State.timed], by simp [hkt], by simp [hkt], by simp [hkm, State.timed], by simp, by simp, by simp, ?_⟩
      intro ref href hu hne hlow hhigh f frames
      have hf : (stepsPerFrame s.srv.basis : Int) = f := by
        cases hb : s.srv.basis <;> simp [f, hb, stepsPerFrame]
      have hw := setLs_wind_ctu (s := s.timed n) (m := .ratio) hs ha hne href hu hlow hhigh hf
      rw [← hedge] at hw
      simpa [State.timed, frames] using hw
  · refine ⟨fun hs => ⟨fun hr => ?_, fun hr => ?_⟩, fun hf hr reel => ?_⟩
    · rw [exec_windOverflow, done_powered hm hd (by simpa using hq), revOverflow_wind (reel := .supply) hs hr]
      rfl
    · rw [exec_windOverflow, done_powered hm hd (by simpa using hq), revOverflow_wind (reel := .takeup) hs hr]
      rfl
    · rw [exec_windOverflow, done_powered hm hd (by simpa using hq), revOverflow_other hf hr]

end Sys2Proof.Proofs
end

section
/-! The queries of the host (R82, R135, R149, R153, R157, R196, R200). -/

namespace Sys2Proof.Machine

@[simp] theorem holding_frame (k : Byte) (s : State) :
    (s.holding k).mec = s.mec ∧ (s.holding k).tun = s.tun ∧ (s.holding k).tar = s.tar ∧ (s.holding k).dld = s.dld ∧
    (s.holding k).clk = s.clk ∧ (s.holding k).tsc = s.tsc ∧ (s.holding k).pwr = s.pwr ∧ (s.holding k).fresh = s.fresh ∧
    (s.holding k).reports = s.reports := by
  simp [State.holding]

/-- A request with one check: the field is refused, or its owner goes on. -/
theorem checked_one (n : Nat) (b : Bool) (act : State → State) (s : State) :
    checked [(n, b)] act s = if b = true then reply (.refused .fieldRange n) s else act s :=
  checked_cons n b [] act s

theorem above_iff {last : Nat} {b : Byte} : above last b = true ↔ last < b.toNat := by simp [above]

/-- A query of a numbered record: its number is out of range, or the reply is made ready. -/
theorem checked_query {n : Byte} {b : ReplyBody} (l : Nat) (s : State) :
    checked [(1, above l n)] (replyOk b) s = reply (if l < n.toNat then .refused .fieldRange 1 else .ok b) s := by
  rw [checked_one]
  by_cases h : l < n.toNat <;> simp [above_iff, h, replyOk]

end Sys2Proof.Machine

namespace Sys2Proof.Proofs
open Sys2Proof.Machine

/-- Settles O9: each query makes its reply ready, and the three that name a record check its number first. -/
theorem queriesOnlyReply : Obligations.QueriesOnlyReply := by
  intro s hl hq
  refine ⟨exec_answered rfl rfl hl rfl hq, exec_answered rfl rfl hl rfl hq, exec_answered rfl rfl hl rfl hq,
    exec_answered rfl rfl hl rfl hq, exec_answered rfl rfl hl rfl hq, fun n => ?_, fun n => ?_, fun n => ?_⟩
  · refine exec_answered rfl rfl hl ((checked_query 99 _).trans ?_) hq
    by_cases h : n = 0 <;> simp only [h, if_true, if_false] <;> rfl
  · exact exec_answered rfl rfl hl (checked_query 15 _) hq
  · exact exec_answered rfl rfl hl (checked_query 15 _) hq

end Sys2Proof.Proofs
end

section
/-! SUPPORT. The tuner's table and its record: what an entry holds after a change, what an order makes of the tuned record, and
what a grant to VIEW comes to (R79, R86 to R88, R92, R104). -/

namespace Sys2Proof.Machine

section
variable {s t : State}

/-! ### The preset table (R79) -/

theorem setPreset_tun {n : Nat} (hn : n ≠ 0) (p : Preset) (s : State) :
    (setPreset n p s).tun = { s.tun with presets := s.tun.presets.setIfInBounds (n - 1) p } := by
  simp [setPreset, hn]

/-- An entry depends on the table alone. -/
theorem preset_congr (h : t.tun.presets = s.tun.presets) (n : Nat) : t.preset n = s.preset n := by
  simp only [State.preset, h]

theorem setPreset_same {n : Nat} (h1 : 1 ≤ n) (h99 : n ≤ 99) (p : Preset) (s : State) : (setPreset n p s).preset n = p := by
  have hn : n ≠ 0 := by omega
  simp [State.preset, setPreset_tun hn, hn, show n - 1 < 99 by omega]

theorem setPreset_other {m n : Nat} (h : m ≠ n) (p : Preset) (s : State) : (setPreset n p s).preset m = s.preset m := by
  by_cases hn : n = 0
  · simp [setPreset, hn]
  by_cases hm : m = 0
  · simp [State.preset, hm]
  have hne : n - 1 ≠ m - 1 := by omega
  simp [State.preset, setPreset_tun hn, hm, hne]

/-- A USED entry has a number of the table. -/
theorem number_of_used {n : Nat} (h : (s.preset n).used = true) : 1 ≤ n ∧ n ≤ 99 := by
  unfold State.preset at h
  by_cases hn : n = 0
  · simp [hn, Preset.empty] at h
  by_cases h99 : n ≤ 99
  · omega
  · simp [hn, show ¬n - 1 < 99 by omega, Preset.empty] at h

/-! ### Orders (R87, R88) -/

/-- The frequency is tuned, and the tuning has ended: an order for it is answered at once (R88). -/
def Tun.tunedTo (t : Tun) (f : Nat) : Prop := (t.tuned.state = .signal ∨ t.tuned.state = .noSignal) ∧ t.tuned.freq = f

/-- What a new order for the tuned frequency changes (R88). -/
def Tun.renamed (src : Source) (n : Nat) (t : Tun) : Tun := { t with tuned := { t.tuned with source := src, preset := n } }

/-- TUN's record with the module set to a frequency (R86, R87): the settle timer runs for the time given, or for 80 ms where the
band switches change. -/
def Tun.tunes (src : Source) (n freq : Nat) (fine : Int) (st : TunedState) (same : Nat) (t : Tun) : Tun :=
  { t with
    tuned :=
      { source := src, preset := n, freq := freq, fine := fine, band := some (bandOf freq), divider := dividerOf freq fine,
        state := st, disagree := 0, settle := some (if t.tuned.band = some (bandOf freq) then same else 80) },
    afc := .idle, reading := false }

@[simp] theorem tuneTo_tun (src : Source) (n freq : Nat) (fine : Int) (st : TunedState) (same : Nat) (s : State) :
    (tuneTo src n freq fine st same s).tun = s.tun.tunes src n freq fine st same := by
  simp [tuneTo, Tun.tunes]

/-- What an order stands for depends on TUN's record alone. -/
theorem orderTarget_congr (h : t.tun = s.tun) (o : Order) : t.orderTarget o = s.orderTarget o := by
  simp only [State.orderTarget, State.syncPreset, preset_congr (congrArg Tun.presets h)]

variable {o : Order} {src : Source} {n freq : Nat} {fine : Int}

theorem tuneOrder_done (h : s.orderTarget o = some (src, n, freq, fine)) (ht : s.tun.tunedTo freq) :
    tuneOrder o s = (.done (s.tun.tuned.state == .signal), s.mapTun (Tun.renamed src n)) := by
  rw [tuneOrder, h]
  exact if_pos ht

theorem tuneOrder_begun (h : s.orderTarget o = some (src, n, freq, fine)) (ht : ¬s.tun.tunedTo freq) :
    tuneOrder o s = (.begun, tuneTo src n freq fine .settling 20 s) := by
  rw [tuneOrder, h]
  exact if_neg ht

/-- A completion is passed on to RECORD alone (R108). -/
theorem completionPassed_other (h : s.tar.holder ≠ .record) (b : Bool) : completionPassed b s = s := by
  simp [completionPassed, reportIf, h]

/-! ### VIEW is granted (R92, R104) -/

/-- VIEW holds the tuner for a channel. -/
def viewHeld (c : Channel) (s : State) : State := setHolder .view (s.mapTar fun t => { t with view := some c })

@[simp] theorem viewHeld_tar (c : Channel) (s : State) :
    (viewHeld c s).tar = { s.tar with holder := .view, view := some c } := by
  simp [viewHeld, setHolder, raiseIf_eq]

@[simp] theorem viewHeld_frame (c : Channel) (s : State) :
    (viewHeld c s).mec = s.mec ∧ (viewHeld c s).tun = s.tun ∧ (viewHeld c s).dld = s.dld ∧ (viewHeld c s).clk = s.clk ∧
    (viewHeld c s).tsc = s.tsc ∧ (viewHeld c s).pwr = s.pwr ∧ (viewHeld c s).reports = s.reports := by
  simp [viewHeld]

theorem grantView_eq (c : Channel) (s : State) :
    grantView c s = (giveOrder .view c.order (viewHeld c s)).2.mapTun fun t => { t with lastView := c.number } := rfl

/-- What a grant to VIEW for a channel makes of the state, where the channel names a source, a preset, a frequency and a fine
offset. -/
structure ViewGranted (c : Channel) (src : Source) (n freq : Nat) (fine : Int) (s u : State) : Prop where
  holder : u.tar.holder = .view
  view : u.tar.view = some c
  same : s.tun.tunedTo freq → u.tun = { s.tun.renamed src n with lastView := n } ∧ u.dld = s.dld
  new : ¬s.tun.tunedTo freq → u.tun = { s.tun.tunes src n freq fine .settling 20 with lastView := n }
  mec : u.mec = s.mec
  clk : u.clk = s.clk
  tsc : u.tsc = s.tsc
  pwr : u.pwr = s.pwr
  reports : u.reports = s.reports

theorem grantView_granted {c : Channel} (h : s.orderTarget c.order = some (src, n, freq, fine)) (hc : c.number = n) :
    ViewGranted c src n freq fine s (grantView c s) := by
  have htarget : (viewHeld c s).orderTarget c.order = some (src, n, freq, fine) := (orderTarget_congr (by simp) _).trans h
  subst hc
  rw [grantView_eq]
  by_cases ht : s.tun.tunedTo freq
  · have hgive : (giveOrder .view c.order (viewHeld c s)).2 =
        orderIs .view ((viewHeld c s).mapTun (Tun.renamed src c.number)) := by
      simp only [giveOrder, orderFor, tuneOrder_done htarget (by simpa using ht), answerPassed]
      exact completionPassed_other (by simp [orderIs]) _
    rw [hgive]
    constructor <;> simp [orderIs, ht]
  · have hgive : (giveOrder .view c.order (viewHeld c s)).2 =
        orderIs .view (tuneTo src c.number freq fine .settling 20 (viewHeld c s)) := by
      simp only [giveOrder, orderFor, tuneOrder_begun htarget (by simpa using ht), answerPassed]
      rfl
    rw [hgive]
    constructor <;> simp [orderIs, ht]

end

end Sys2Proof.Machine
end

section
/-! TUNE in its four modes (R92). -/

namespace Sys2Proof.Machine

/-! ### The order in which NEXT and PREVIOUS look at the presets -/

/-- How many presets NEXT looks at before a preset, from the last view preset. -/
def upFrom (v p : Nat) : Nat := (p + 98 - min 99 v) % 99

/-- How many presets PREVIOUS looks at before a preset, from the last view preset. -/
def downFrom (v p : Nat) : Nat := ((if v = 0 ∨ 99 < v then 100 else v) + 98 - p) % 99

theorem mem_presetNumbers {p : Nat} : p ∈ presetNumbers ↔ 1 ≤ p ∧ p ≤ 99 := by
  simp only [presetNumbers, List.mem_map, List.mem_range]
  exact ⟨by rintro ⟨a, ha, rfl⟩; omega, fun h => ⟨p - 1, by omega, by omega⟩⟩

theorem presetNumbers_ascend : presetNumbers.Pairwise (· < ·) := by
  rw [presetNumbers, List.pairwise_map]
  exact List.pairwise_lt_range.imp (by omega)

theorem mem_stepsFrom {next : Bool} {v p : Nat} : p ∈ stepsFrom next v ↔ 1 ≤ p ∧ p ≤ 99 := by
  cases next <;> simp [stepsFrom, mem_presetNumbers] <;> omega

/-- NEXT goes upward and around. -/
theorem stepsFrom_next (v : Nat) : (stepsFrom true v).Pairwise (upFrom v · < upFrom v ·) := by
  unfold stepsFrom upFrom
  rw [if_pos rfl, List.pairwise_append]
  refine ⟨(presetNumbers_ascend.filter _).imp_of_mem fun ha hb hab => ?_,
    (presetNumbers_ascend.filter _).imp_of_mem fun ha hb hab => ?_, fun a ha b hb => ?_⟩
  all_goals
    simp only [List.mem_filter, mem_presetNumbers, decide_eq_true_eq] at ha hb
    omega

/-- PREVIOUS goes downward and around. -/
theorem stepsFrom_previous (v : Nat) : (stepsFrom false v).Pairwise (downFrom v · < downFrom v ·) := by
  unfold stepsFrom downFrom
  rw [if_neg Bool.false_ne_true, List.pairwise_append, List.pairwise_reverse, List.pairwise_reverse]
  refine ⟨(presetNumbers_ascend.filter _).imp_of_mem fun ha hb hab => ?_,
    (presetNumbers_ascend.filter _).imp_of_mem fun ha hb hab => ?_, fun a ha b hb => ?_⟩
  all_goals
    simp only [List.mem_reverse, List.mem_filter, mem_presetNumbers, decide_eq_true_eq] at ha hb
    split <;> omega

/-- In a list that ascends by a key, the first that qualifies is the one of least key. -/
theorem find?_eq_some_of_least {l : List Nat} {key : Nat → Nat} {P : Nat → Bool} {p : Nat}
    (hl : l.Pairwise (key · < key ·)) (hp : p ∈ l) (hP : P p = true) (hleast : ∀ q ∈ l, P q = true → key p ≤ key q) :
    l.find? P = some p := by
  induction l with
  | nil => cases hp
  | cons a l ih =>
    obtain ⟨hlt, hl⟩ := List.pairwise_cons.mp hl
    rcases List.mem_cons.mp hp with rfl | hp
    · exact List.find?_cons_of_pos hP
    · have ha : ¬P a = true := fun ha => by
        have := hleast a (by simp) ha
        have := hlt p hp
        omega
      rw [List.find?_cons_of_neg ha]
      exact ih hl hp fun q hq => hleast q (by simp [hq])

section
variable {s : State}

/-- A preset that NEXT and PREVIOUS may take (R92). -/
def State.qualifies (s : State) (p : Nat) : Prop := 1 ≤ p ∧ p ≤ 99 ∧ (s.preset p).used = true ∧ (s.preset p).skip = false

theorem stepPreset_least {next : Bool} {p : Nat} {key : Nat → Nat} (hkey : (stepsFrom next s.tun.lastView).Pairwise (key · < key ·))
    (hp : s.qualifies p) (hleast : ∀ q, s.qualifies q → key p ≤ key q) : s.stepPreset next = some p := by
  obtain ⟨h1, h99, hu, hs⟩ := hp
  refine find?_eq_some_of_least hkey (mem_stepsFrom.mpr ⟨h1, h99⟩) (by simp [hu, hs]) fun q hq hP => ?_
  obtain ⟨q1, q99⟩ := mem_stepsFrom.mp hq
  simp only [Bool.and_eq_true, Bool.not_eq_true'] at hP
  exact hleast q ⟨q1, q99, hP⟩

theorem stepPreset_none {next : Bool} (h : ∀ p, ¬s.qualifies p) : s.stepPreset next = none := by
  refine List.find?_eq_none.mpr fun q hq hP => ?_
  obtain ⟨q1, q99⟩ := mem_stepsFrom.mp hq
  simp only [Bool.and_eq_true, Bool.not_eq_true'] at hP
  exact h q ⟨q1, q99, hP⟩

/-! ### TUNE's channel -/

theorem outside_iff {low high n : Nat} : outside low high n = true ↔ n < low ∨ high < n := by simp [outside]

section
variable {mode n fine : Byte} {f : BitVec 16}

theorem reqTune_badMode (h : 4 ≤ mode.toNat) : reqTune mode n f fine s = reply (.refused .fieldRange 1) s := by
  have hne : ∀ m : Byte, m.toNat < 4 → mode ≠ m := fun m hm he => by subst he; omega
  simp only [reqTune, hne 0 (by decide), hne 1 (by decide), hne 2 (by decide), hne 3 (by decide), or_self, if_false, refuseField]

theorem reqTune_preset : reqTune 0 n f fine s =
    if n.toNat = 0 ∨ 99 < n.toNat ∨ (s.preset n.toNat).used = false then reply (.refused .fieldRange 2) s
    else viewRequest (.preset n.toNat) s := by
  rw [reqTune, if_pos rfl, checked_one]
  refine if_congr ?_ rfl rfl
  rw [Bool.or_eq_true, outside_iff, Bool.not_eq_true', or_assoc, Nat.lt_one_iff]

theorem reqTune_direct : reqTune 1 n f fine s =
    if f.toNat < 900 ∨ 17240 < f.toNat then reply (.refused .fieldRange 3) s
    else viewRequest (.direct f.toNat (fineValue fine)) s := by
  rw [reqTune, if_neg (by decide), if_pos rfl, checked_one]
  exact if_congr outside_iff rfl rfl

theorem reqTune_next : reqTune 2 n f fine s = match s.stepPreset true with
    | some p => viewRequest (.preset p) s
    | none => reply (.refused .fieldRange 1) s := rfl

theorem reqTune_previous : reqTune 3 n f fine s = match s.stepPreset false with
    | some p => viewRequest (.preset p) s
    | none => reply (.refused .fieldRange 1) s := rfl

end

/-! ### How the command ends -/

/-- With a reply ready the decoder keeps its records. -/
theorem transmit_replies_dld (r : Reply) (s : State) : (transmit (reply r s)).dld = s.dld := by
  unfold transmit
  split
  · rfl
  split
  · split
    · rfl
    · rfl
    · rename_i h; cases h
  · rfl

theorem hostRequest_record (h : s.tar.holder = .record) (w : HostWait) (b : Bool) (g : State → State) :
    hostRequest w b g s = reply (.refused .tunerHeld 0) s := by
  simp only [hostRequest, h, refuse]

theorem hostRequest_free (h : s.tar.holder = .none) (w : HostWait) (b : Bool) (g : State → State) :
    hostRequest w b g s = g s := by
  simp only [hostRequest, h]

/-- The reply of a granted request is made ready, and the command ends. -/
theorem ViewGranted.replied {c : Channel} {src : Source} {p freq : Nat} {o : Int} {k : Byte} {u : State} (r : Reply)
    (h : ViewGranted c src p freq o (s.holding k) u) : ViewGranted c src p freq o s (transmit (reply r u)) := by
  constructor
  case same => simpa [transmit_replies_dld] using h.same
  case new => simpa using h.new
  all_goals simp [h.holder, h.view, h.mec, h.clk, h.tsc, h.pwr, h.reports]

/-- A TUNE that names a channel: RECORD keeps the tuner, and a free tuner is granted to VIEW. -/
theorem exec_tune_view {m n fine : Byte} {f : BitVec 16} {c : Channel} {src : Source} {p freq : Nat} {o : Int}
    (hl : s.Listens) (hq : s.reports = []) (hreq : reqTune m n f fine (s.holding 0x20) = viewRequest c (s.holding 0x20))
    (ht : s.orderTarget c.order = some (src, p, freq, o)) (hc : c.number = p) :
    (s.tar.holder = .record →
      exec (.tune m n f fine) s = .next (transmit (s.answering 0x20 (.refused .tunerHeld 0)))) ∧
    (s.tar.holder = .none → ∃ t, exec (.tune m n f fine) s = .next t ∧ ViewGranted c src p freq o s t) := by
  refine ⟨fun hh => ?_, fun hh => ?_⟩
  · exact exec_answered (act := reqTune m n f fine) rfl rfl hl (hreq.trans (hostRequest_record (s := s.holding 0x20) hh _ _ _)) hq
  · have hg : ViewGranted c src p freq o (s.holding 0x20) (grantView c (s.holding 0x20)) := grantView_granted ht hc
    exact ⟨_, exec_answered (act := reqTune m n f fine) rfl rfl hl (hreq.trans (hostRequest_free (s := s.holding 0x20) hh _ _ _))
      (hg.reports.trans hq), hg.replied (.accepted .tuned)⟩

end

end Sys2Proof.Machine

namespace Sys2Proof.Proofs
open Sys2Proof.Machine

/-- Settles O33: each mode is refused or names a channel, and a channel is asked for in one way. -/
theorem tuneDirectBeginsATuning : Obligations.TuneDirectBeginsATuning := by
  intro mode n fine f s hl hq refused tunes qualifies v up down
  have hrefused : ∀ m r k, reqTune m n f fine (s.holding 0x20) = reply (.refused r k) (s.holding 0x20) → refused m r k :=
    fun m r k h => exec_answered (act := reqTune m n f fine) rfl rfl hl h hq
  have htunes : ∀ m c src p freq o, reqTune m n f fine (s.holding 0x20) = viewRequest c (s.holding 0x20) →
      s.orderTarget c.order = some (src, p, freq, o) → c.number = p → tunes m c src p freq o := by
    intro m c src p freq o hreq ht hc
    obtain ⟨hrec, hnone⟩ := exec_tune_view hl hq hreq ht hc
    refine ⟨hrec, fun hh => ?_⟩
    obtain ⟨t, hexec, hg⟩ := hnone hh
    exact ⟨t, hexec, hg.holder, hg.view, hg.same, hg.new, hg.mec, hg.clk, hg.tsc, hg.pwr⟩
  have hpreset : ∀ p, (s.preset p).used = true →
      s.orderTarget (Channel.preset p).order = some (.preset, p, (s.preset p).freq, (s.preset p).fine) := fun p hu => by
    simp [State.orderTarget, Channel.order, hu]
  have hnext : ∀ p, (s.holding 0x20).stepPreset true = some p →
      reqTune 2 n f fine (s.holding 0x20) = viewRequest (.preset p) (s.holding 0x20) := fun p hp => by
    rw [reqTune_next, hp]
  have hprevious : ∀ p, (s.holding 0x20).stepPreset false = some p →
      reqTune 3 n f fine (s.holding 0x20) = viewRequest (.preset p) (s.holding 0x20) := fun p hp => by
    rw [reqTune_previous, hp]
  refine ⟨fun h => hrefused _ _ _ (reqTune_badMode h), fun h => hrefused _ _ _ (reqTune_preset.trans (if_pos h)),
    fun h1 h99 hu => ?_, fun h => hrefused _ _ _ (reqTune_direct.trans (if_pos h)), fun hlow hhigh => ?_, fun h => ?_,
    fun p hp => ⟨fun hleast => ?_, fun hleast => ?_⟩⟩
  · refine htunes _ _ _ _ _ _ (reqTune_preset.trans (if_neg ?_)) (hpreset _ hu) rfl
    have hu' : ((s.holding 0x20).preset n.toNat).used = true := hu
    simp only [hu', Bool.true_eq_false, or_false]
    omega
  · rw [show (max (-16) (min 15 fine.toInt) : Int) = fineValue fine from (clampInt_eq (by decide) _).symm]
    exact htunes _ _ _ _ _ _ (reqTune_direct.trans (if_neg (by omega))) rfl rfl
  · have hn : ∀ next, (s.holding 0x20).stepPreset next = none := fun next => stepPreset_none h
    exact ⟨hrefused _ _ _ (by rw [reqTune_next, hn]), hrefused _ _ _ (by rw [reqTune_previous, hn])⟩
  · exact htunes _ _ _ _ _ _ (hnext p (stepPreset_least (stepsFrom_next _) hp hleast)) (hpreset p hp.2.2.1) rfl
  · exact htunes _ _ _ _ _ _ (hprevious p (stepPreset_least (stepsFrom_previous _) hp hleast)) (hpreset p hp.2.2.1) rfl

end Sys2Proof.Proofs
end

section
/-! PRESET_PUT in its three forms (R80, R81). -/

namespace Sys2Proof.Machine

section
variable {s : State} {n : Nat} {p : Preset}

/-! ### Changes of the table (R89) -/

/-- An entry that is no time source leaves the table without one. -/
theorem hasTimeSource_setPreset (h : s.hasTimeSource = false) (hp : p.timeSource = false) :
    (setPreset n p s).hasTimeSource = false := by
  by_cases hn : n = 0
  · simpa [setPreset, hn] using h
  · simp only [State.hasTimeSource, setPreset_tun hn, Vector.any_eq_false] at h ⊢
    intro i hi
    rw [Vector.getElem_setIfInBounds]
    split
    · simp [hp]
    · exact h i hi

/-- A change that brings no time source, and removes none, makes no report. -/
theorem tableChange_quiet (h : s.hasTimeSource = false) (hp : p.timeSource = false) :
    tableChange (setPreset n p) s = setPreset n p s := by
  simp [tableChange, reportIf, h, hasTimeSource_setPreset h hp]

/-- A request that sets one entry leaves all else as it was. -/
theorem exec_setsEntry {i : Instr} {k : Byte} {body : List Byte} {act : State → State} {r : Reply}
    (hk : encodeRequest i = some (k, body)) (ha : request i = act) (hl : s.Listens) (hq : s.reports = []) (h1 : 1 ≤ n)
    (h99 : n ≤ 99) (h : act (s.holding k) = reply r (setPreset n p (s.holding k))) :
    ∃ t, exec i s = .next t ∧ t.preset n = p ∧ (∀ m, m ≠ n → t.preset m = s.preset m) ∧ t.tun.tuned = s.tun.tuned ∧
      t.mec = s.mec ∧ t.tar = s.tar ∧ t.clk = s.clk ∧ t.tsc = s.tsc := by
  have hpreset : ∀ m, (transmit (reply r (setPreset n p (s.holding k)))).preset m = (setPreset n p (s.holding k)).preset m :=
    preset_congr (by simp)
  refine ⟨_, exec_answered hk ha hl h (by simpa using hq), ?_, fun m hm => ?_, ?_⟩
  · rw [hpreset, setPreset_same h1 h99]
  · rw [hpreset, setPreset_other hm]
    exact preset_congr rfl m
  · simp [setPreset_tun (show n ≠ 0 by omega)]

/-! ### The requests -/

section
variable {number fine skip src : Byte} {f : BitVec 16} {name : List Byte}

theorem reqPresetWrite_badNumber (h : number.toNat = 0 ∨ 99 < number.toNat) :
    reqPresetWrite number f fine skip src name s = reply (.refused .fieldRange 1) s := by
  rw [reqPresetWrite, checked_cons, if_pos (outside_iff.mpr (by omega)), refuseField]

theorem reqPresetErase_badNumber (h : number.toNat = 0 ∨ 99 < number.toNat) :
    reqPresetErase number s = reply (.refused .fieldRange 1) s := by
  rw [reqPresetErase, checked_one, if_pos (outside_iff.mpr (by omega))]

theorem reqPresetStoreFine_badNumber (h : number.toNat = 0 ∨ 99 < number.toNat) :
    reqPresetStoreFine number s = reply (.refused .fieldRange 1) s := by
  have hout : outside 1 99 number.toNat = true := outside_iff.mpr (by omega)
  simp only [reqPresetStoreFine, checked_one, hout, Bool.true_or, if_true]

/-- The entry that WRITE makes: the network code is kept at the same frequency (R80). -/
def Preset.written (f : Nat) (fine : Int) (skip : Bool) (name : List Byte) (old : Preset) : Preset :=
  { used := true, freq := f, fine := fine, skip := skip, timeSource := false, name := name,
    network := if old.used ∧ old.freq = f then old.network else none }

theorem reqPresetWrite_eq (h1 : 1 ≤ number.toNat) (h99 : number.toNat ≤ 99) (hs : s.hasTimeSource = false)
    (hlow : 900 ≤ f.toNat) (hhigh : f.toNat ≤ 17240) (hname : name.length ≤ 5)
    (hchars : ∀ b ∈ name, 0x20 ≤ b.toNat ∧ b.toNat ≤ 0x7E) (hskip : skip.toNat ≤ 1) :
    reqPresetWrite number f fine skip 0 name s = reply (.ok (.preset number.toNat))
      (setPreset number.toNat ((s.preset number.toNat).written f.toNat (fineValue fine) (skip == 1) name) s) := by
  have htake : name.take 5 = name := List.take_of_length_le hname
  have hprint : name.all printable = true := List.all_eq_true.mpr fun b hb => by simpa [printable] using hchars b hb
  have hbit : skip = 0 ∨ skip = 1 := by
    rcases Nat.le_one_iff_eq_zero_or_eq_one.mp hskip with h | h
    · exact .inl (BitVec.eq_of_toNat_eq h)
    · exact .inr (BitVec.eq_of_toNat_eq h)
  have hb1 : ¬outside 1 99 number.toNat = true := by rw [outside_iff]; omega
  have hb3 : ¬outside 900 17240 f.toNat = true := by rw [outside_iff]; omega
  have hb7 : ¬decide (16 < name.length) = true := by simp; omega
  simp only [reqPresetWrite, checked_cons, checked_nil, htake, hprint, hb1, hb3, hb7, Bool.not_true, Bool.false_eq_true,
    if_false, flagOf_bit hbit, flagOf_bit (.inl rfl : (0 : Byte) = 0 ∨ (0 : Byte) = 1)]
  rw [tableChange_quiet hs (by rfl)]
  rfl

theorem reqPresetErase_eq (h1 : 1 ≤ number.toNat) (h99 : number.toNat ≤ 99) (hs : s.hasTimeSource = false) :
    reqPresetErase number s = reply (.ok (.preset number.toNat)) (setPreset number.toNat Preset.empty s) := by
  rw [reqPresetErase, checked_one, if_neg (by rw [outside_iff]; omega), tableChange_quiet hs rfl, replyOk]

theorem reqPresetStoreFine_eq (h1 : 1 ≤ number.toNat) (h99 : number.toNat ≤ 99) (hsrc : s.tun.tuned.source = .preset)
    (hn : s.tun.tuned.preset = number.toNat) (hu : (s.preset number.toNat).used = true)
    (hst : s.tun.tuned.state = .signal ∨ s.tun.tuned.state = .noSignal) :
    reqPresetStoreFine number s = reply (.ok (.preset number.toNat)) (setPreset number.toNat
      { s.preset number.toNat with fine := clampInt (-16) 15 s.tun.tuned.fine } s) := by
  have hout : outside 1 99 number.toNat = false := by
    rw [Bool.eq_false_iff, ne_eq, outside_iff]
    omega
  have hstate : (s.tun.tuned.state == .signal || s.tun.tuned.state == .noSignal) = true := by simpa using hst
  simp only [reqPresetStoreFine, checked_one, hout, hsrc, hn, hu, hstate, beq_self_eq_true, Bool.and_self, Bool.not_true,
    Bool.or_self, Bool.false_eq_true, if_false, replyOk]

end

end

end Sys2Proof.Machine

namespace Sys2Proof.Proofs
open Sys2Proof.Machine

/-- Settles O34: each form is refused for its number, or sets one entry of the table. -/
theorem presetTableChanges : Obligations.PresetTableChanges := by
  refine ⟨fun n fine skip f name s hl hq => ⟨fun h => ⟨?_, ?_, ?_⟩, fun h1 h99 hs => ⟨fun hlow hhigh hname hchars hskip => ?_, ?_⟩⟩,
    fun n s hl hq h1 h99 hsrc hn hu hst => ?_⟩
  · exact exec_answered (act := reqPresetWrite n f fine skip 0 name) rfl rfl hl (reqPresetWrite_badNumber h) hq
  · exact exec_answered (act := reqPresetErase n) rfl rfl hl (reqPresetErase_badNumber h) hq
  · exact exec_answered (act := reqPresetStoreFine n) rfl rfl hl (reqPresetStoreFine_badNumber h) hq
  · rw [show (max (-16) (min 15 fine.toInt) : Int) = fineValue fine from (clampInt_eq (by decide) _).symm]
    exact exec_setsEntry (act := reqPresetWrite n f fine skip 0 name) rfl rfl hl hq h1 h99
      (reqPresetWrite_eq (s := s.holding 0x21) h1 h99 hs hlow hhigh hname hchars hskip)
  · exact exec_setsEntry (act := reqPresetErase n) rfl rfl hl hq h1 h99 (reqPresetErase_eq (s := s.holding 0x21) h1 h99 hs)
  · rw [← clampInt_eq (by decide : (-16 : Int) ≤ 15)]
    exact exec_setsEntry (act := reqPresetStoreFine n) rfl rfl hl hq h1 h99
      (reqPresetStoreFine_eq (s := s.holding 0x21) h1 h99 hsrc hn hu hst)

end Sys2Proof.Proofs
end

section
/-! The settle timer of a tuning, and the detector's readings (R87, R90, R91). -/

namespace Sys2Proof.Machine

section
variable {s : State}

/-! ### What the timers call for (log 1) -/

theorem exec_tuningComplete (c y : Bool) (s : State) : exec (.tuningComplete c y) s = done (tuningEnds c y s) := rfl

theorem exec_detectorReading (c y : Bool) (d : Disc) (s : State) :
    exec (.detectorReading c y d) s = done (readingTimer c y d s) := rfl

@[simp] theorem setDetectors_pins (c y : Bool) (s : State) :
    (setDetectors c y s).pins.carrier = c ∧ (setDetectors c y s).pins.sync = y := ⟨rfl, rfl⟩

theorem tuningEnds_completes (h : s.tun.tuned.state = .settling) (hs : s.tun.tuned.settle.isSome) (c y : Bool) :
    tuningEnds c y s = tuningCompletes (setDetectors c y s) := by
  simp [tuningEnds, when, h, hs]

theorem readingTimer_reads (hr : s.tun.reading = true) (h : s.tun.tuned.state = .signal ∨ s.tun.tuned.state = .noSignal)
    (c y : Bool) (d : Disc) : readingTimer c y d s = detectorRead d (setDetectors c y s) := by
  rcases h with h | h <;> simp [readingTimer, when, hr, h]

/-! ### TUN's record after each operation -/

@[simp] theorem tunedState_tun (b : Bool) (s : State) :
    (tunedState b s).tun = { s.tun with
      tuned := { s.tun.tuned with state := if b then .signal else .noSignal, settle := none },
      afc := if b then .tracking else .idle, reading := true } := rfl

@[simp] theorem signalChanges_tun (b : Bool) (s : State) :
    (signalChanges b s).tun = { s.tun with
      tuned := { s.tun.tuned with state := if b then .signal else .noSignal, disagree := 0 },
      afc := if b then .tracking else .idle } := by
  simp [signalChanges]

@[simp] theorem afcReading_tun (d : Disc) (s : State) :
    (afcReading d s).tun = { s.tun with
      tuned := { s.tun.tuned with
        fine := (afcAfter s.tun.tuned.fine d).1, divider := dividerOf s.tun.tuned.freq (afcAfter s.tun.tuned.fine d).1 },
      afc := (afcAfter s.tun.tuned.fine d).2 } := by
  simp [afcReading]

/-! ### The readings (R90) -/

/-- The run of disagreeing readings. -/
def Tun.disagrees (n : Nat) (t : Tun) : Tun := { t with tuned := { t.tuned with disagree := n } }

/-- The discriminator is read while SIGNAL holds (R91). -/
theorem detectorRead_agrees (d : Disc) (hs : s.tun.tuned.state = .signal) (h : (s.pins.carrier && s.pins.sync) = true) :
    detectorRead d s = afcReading d (s.mapTun (Tun.disagrees 0)) := by
  simp only [detectorRead, h, hs, beq_self_eq_true, if_true]
  rfl

/-- A disagreeing reading in SIGNAL is counted, and the discriminator read. -/
theorem detectorRead_counts_signal (d : Disc) (hs : s.tun.tuned.state = .signal)
    (h : (s.pins.carrier && s.pins.sync) = false) (hd : s.tun.tuned.disagree < 2) :
    detectorRead d s = afcReading d (s.mapTun (Tun.disagrees (s.tun.tuned.disagree + 1))) := by
  simp [detectorRead, h, hs, Tun.disagrees, show ¬2 ≤ s.tun.tuned.disagree by omega, State.mapTun]

/-- A disagreeing reading in NO_SIGNAL is counted. -/
theorem detectorRead_counts_noSignal (d : Disc) (hs : s.tun.tuned.state = .noSignal)
    (h : (s.pins.carrier && s.pins.sync) = true) (hd : s.tun.tuned.disagree < 2) :
    detectorRead d s = s.mapTun (Tun.disagrees (s.tun.tuned.disagree + 1)) := by
  simp [detectorRead, h, hs, Tun.disagrees, show ¬2 ≤ s.tun.tuned.disagree by omega, State.mapTun]

/-- The third disagreeing reading in a row changes the state. -/
theorem detectorRead_changes (d : Disc) {b : Bool} (h : (s.pins.carrier && s.pins.sync) = b)
    (hs : b ≠ (s.tun.tuned.state == .signal)) (hd : 2 ≤ s.tun.tuned.disagree) :
    detectorRead d s = signalChanges b s := by
  simp [detectorRead, h, hs, hd]

/-- A reading reports a change of state at most. -/
theorem detectorRead_reports (d : Disc) (s : State) :
    (detectorRead d s).reports = s.reports ∨ ∃ b, (detectorRead d s).reports = s.reports ++ [.signalChange b] := by
  unfold detectorRead
  dsimp only
  split
  · split <;> exact .inl (by simp)
  · split
    · exact .inr ⟨s.pins.carrier && s.pins.sync, by simp [signalChanges]⟩
    · split <;> exact .inl (by simp)

/-! ### AFC's table (R91) -/

theorem afcAfter_low {x : Int} (h : x < 15) : afcAfter x .low = (x + 1, .tracking) := by
  simp [afcAfter, show x < 16 by omega, show ¬x + 1 = 16 by omega]

theorem afcAfter_high {x : Int} (h : -15 < x) : afcAfter x .high = (x - 1, .tracking) := by
  simp [afcAfter, show -16 < x by omega, show ¬x - 1 = -16 by omega]

/-! ### Reports that find nothing to do -/

theorem one_le_reportBound : 1 ≤ Config.reportBound := by decide

/-- A command with one report, whose taking makes no other. -/
theorem done_one {t : State} {r : Report} (h : s.reports = [r]) (ht : takeReport r (s.awaits []) = t) (hq : t.reports = []) :
    done s = .next (transmit t) := by
  have hset : Settles 1 s t := settles_take (n := 0) h (by rw [ht]; exact .quiet hq)
  exact done_of_settles hset one_le_reportBound

/-- Where RECORD does not hold the tuner, a completion is passed to nobody (R108). -/
theorem idle_tuningDone (h : s.tar.holder ≠ .record) (b : Bool) : IdleReport s (.tuningDone b) :=
  fun rest => completionPassed_other (s := { s with reports := rest }) h b

/-- With no occurrence active a change of the signal concerns none (R174). -/
theorem idle_signalChange (h : s.tsc.active = none) (b : Bool) : IdleReport s (.signalChange b) := by
  intro rest
  simp [takeReport, signalChanged, mapActive, h, State.mapTsc]
  simp [← h]

/-- A reading with no occurrence active changes TUN's record alone. -/
theorem exec_reading (hq : s.reports = []) (hr : s.tun.reading = true) (ha : s.tsc.active = none)
    (hs : s.tun.tuned.state = .signal ∨ s.tun.tuned.state = .noSignal) (c y : Bool) (d : Disc) :
    ∃ t, exec (.detectorReading c y d) s = .next t ∧ t.tun = (detectorRead d (setDetectors c y s)).tun ∧
      t.mec = s.mec ∧ t.tar = s.tar ∧ t.clk = s.clk ∧ t.tsc = s.tsc := by
  refine ⟨transmit (detectorRead d (setDetectors c y s)).heard, ?_, by simp⟩
  rw [exec_detectorReading, readingTimer_reads hr hs]
  rcases detectorRead_reports d (setDetectors c y s) with h | ⟨b, h⟩
  · exact done_idle (l := []) (h.trans hq) nofun (by decide)
  · refine done_idle (l := [.signalChange b]) (by simp [h, hq]) ?_ one_le_reportBound
    simpa using idle_signalChange (by simpa using ha) b

end

end Sys2Proof.Machine

namespace Sys2Proof.Proofs
open Sys2Proof.Machine

/-- Settles O36: the completion is passed to nobody where RECORD does not hold the tuner. -/
theorem tuningCompletesInSignalOrNot : Obligations.TuningCompletesInSignalOrNot := by
  intro c y s hq hs hset hh
  refine ⟨transmit (tuningCompletes (setDetectors c y s)).heard, ?_, by simp [tuningCompletes], by simp⟩
  rw [exec_tuningComplete, tuningEnds_completes hs hset]
  refine done_idle (l := [.tuningDone (c && y)]) (by simp [tuningCompletes, hq]) ?_ one_le_reportBound
  simpa using idle_tuningDone (by simpa using hh) (c && y)

/-- Settles O37, by the state and what the detectors read. -/
theorem detectorReadingsDebounceAndTrack : Obligations.DetectorReadingsDebounceAndTrack := by
  intro disc s hq hr ha
  refine ⟨fun c y hs h => ?_, fun c y hs h => ?_, fun hs => ?_⟩
  · obtain ⟨t, ht, htun, hrest⟩ := exec_reading hq hr ha (.inr hs) c y disc
    have hne : true ≠ ((setDetectors c y s).tun.tuned.state == .signal) := by simp [hs]
    rcases Nat.lt_or_ge s.tun.tuned.disagree 2 with hd | hd
    · rw [detectorRead_counts_noSignal disc (by simpa using hs) h (by simpa using hd)] at htun
      exact ⟨t, ht, fun _ => by simp [htun, hs, Tun.disagrees], by omega, by simp [htun, Tun.disagrees], hrest⟩
    · rw [detectorRead_changes disc h hne (by simpa using hd)] at htun
      exact ⟨t, ht, by omega, fun _ => by simp [htun], by simp [htun], hrest⟩
  · obtain ⟨t, ht, htun, hrest⟩ := exec_reading hq hr ha (.inl hs) c y disc
    have hne : false ≠ ((setDetectors c y s).tun.tuned.state == .signal) := by simp [hs]
    rcases Nat.lt_or_ge s.tun.tuned.disagree 2 with hd | hd
    · rw [detectorRead_counts_signal disc (by simpa using hs) h (by simpa using hd)] at htun
      exact ⟨t, ht, fun _ => by simp [htun, hs, Tun.disagrees], by omega, by simp [htun, Tun.disagrees], hrest⟩
    · rw [detectorRead_changes disc h hne (by simpa using hd)] at htun
      exact ⟨t, ht, by omega, fun _ => by simp [htun], by simp [htun], hrest⟩
  · obtain ⟨t, ht, htun, hrest⟩ := exec_reading hq hr ha (.inl hs) true true disc
    rw [detectorRead_agrees disc (by simpa using hs) rfl] at htun
    have hafc : ∀ x a, afcAfter s.tun.tuned.fine disc = (x, a) → t.tun.tuned.fine = x ∧ t.tun.afc = a := by
      intro x a h
      simp [htun, Tun.disagrees, h]
    refine ⟨t, ht, by simp [htun, hs, Tun.disagrees], by simp [htun, Tun.disagrees], ?_, ?_, ?_, ?_, ?_, ?_, ?_, hrest⟩ <;>
      rintro rfl
    · exact hafc _ _ rfl
    · exact fun hf => hafc _ _ (afcAfter_low hf)
    · exact fun hf => hafc _ _ (afcAfter_high hf)
    all_goals exact fun hf => hafc _ _ (by rw [hf]; rfl)

end Sys2Proof.Proofs
end

section
/-! The station scan: its three timers, and the requests that start, continue and stop it (R93 to R97, R104 to R106). -/

namespace Sys2Proof.Machine

section
variable {s : State}

/-! ### The scan's timers (R94, R95) -/

theorem exec_scanDwellEnd (c y : Bool) (d : Disc) (s : State) :
    exec (.scanDwellEnd c y d) s = done (scanTimer .dwell c y (scanDwellRead d) s) := rfl

theorem exec_scanFineStepEnd (c y : Bool) (d : Disc) (s : State) :
    exec (.scanFineStepEnd c y d) s = done (scanTimer .fine c y (scanFineRead d) s) := rfl

theorem exec_scanFinalHoldEnd (c y : Bool) (s : State) :
    exec (.scanFinalHoldEnd c y) s = done (scanTimer .hold c y scanHoldRead s) := rfl

theorem scanTimer_reads {ph : ScanPhase} (hr : s.tun.scan.state = .running) (ht : s.tun.tuned.state = .scanning)
    (hp : s.tun.scan.phase = ph) (c y : Bool) (act : State → State) :
    scanTimer ph c y act s = act (setDetectors c y s) := by
  simp [scanTimer, when, hr, ht, hp]

/-! ### Positions (R94, R95) -/

/-- TUN's record with a stride position taken (R94). -/
def Tun.scansAt (p : Nat) (t : Tun) : Tun :=
  { t with scan := { t.scan with pos := p, phase := .dwell } }.tunes .direct 0 p 0 .scanning 25

@[simp] theorem scanPosition_tun (p : Nat) (s : State) : (scanPosition p s).tun = s.tun.scansAt p := by
  simp [scanPosition, Tun.scansAt]

/-- A position within the range is taken, where the scan has not wrapped (R94). -/
theorem scanNext_within {p : Nat} (hw : s.tun.scan.wrapped = false) (hp : p ≤ 17240) : scanNext p s = scanPosition p s := by
  simp [scanNext, hw, show ¬17240 < p by omega]

/-- A fine step upward within the range (R95). -/
theorem fineStep_up (hs : s.tun.scan.steps < 19) (hh : s.tun.scan.finePos + 1 ≤ 17240) (hl : 900 ≤ s.tun.scan.finePos) :
    fineStep true s = tuneTo .direct 0 (s.tun.scan.finePos + 1) 0 .scanning 20 (s.mapTun fun t =>
      { t with scan := { t.scan with
          finePos := s.tun.scan.finePos + 1, steps := t.scan.steps + 1, stepUp := some true, phase := .fine } }) := by
  unfold fineStep
  rw [if_pos rfl, if_neg (by omega)]

/-- No carrier at the end of a dwell: the next position (R94). -/
theorem scanDwellRead_moves (d : Disc) (hc : s.pins.carrier = false) (hw : s.tun.scan.wrapped = false)
    (hp : s.tun.scan.pos + 20 ≤ 17240) : scanDwellRead d s = scanPosition (s.tun.scan.pos + 20) s := by
  simp only [scanDwellRead, hc, Bool.false_eq_true, if_false, scanMovesOn]
  exact scanNext_within hw hp

/-- A fine reading LOW steps upward, unless the search came from above (R95). -/
theorem scanFineRead_low (hc : s.pins.carrier = true) (hu : s.tun.scan.stepUp ≠ some false) :
    scanFineRead .low s = fineStep true s := by
  simp only [scanFineRead, hc, if_true, fineReading, hu, if_false]

/-- TUN's record with a station found at the end of the final hold (R96). -/
def Tun.found (t : Tun) : Tun :=
  { t with scan := { t.scan with found := min 255 (t.scan.found + 1), last := some t.scan.finePos } }

/-- A station found without auto-store pauses the scan (R96). -/
theorem scanHoldRead_pauses (h : (s.pins.carrier && s.pins.sync) = true) (ha : s.tun.scan.auto = false) :
    scanHoldRead s = scanPause (s.mapTun Tun.found) := by
  simp only [scanHoldRead, h, if_true]
  exact if_neg (by simp [ha])

@[simp] theorem scanPause_tun (s : State) :
    (scanPause s).tun = { (tunedState true s).tun with scan := { s.tun.scan with state := .paused } } := by
  simp [scanPause]

/-! ### The tuner is freed (R97, R105, R106) -/

@[simp] theorem scanEnd_tun (c : EndCause) (s : State) :
    (scanEnd c s).tun = { s.tun with
      scan := { s.tun.scan with state := .idle, cause := c },
      tuned := { s.tun.tuned with
        state := if s.tun.tuned.state = .scanning then .settling else s.tun.tuned.state } } := by
  simp [scanEnd]

theorem tunerFree_eq (h : s.tar.syncWait = false) : tunerFree s = setHolder .none s := by
  simp [tunerFree, setHolder, raiseIf_eq, h]

/-- The end of a scan frees the tuner that the scan held. -/
theorem scanReleases_eq (hh : s.tar.holder = .scan) (hw : s.tar.syncWait = false) : scanReleases s = setHolder .none s := by
  rw [scanReleases, if_pos hh, tunerFree_eq hw]

/-! ### The requests -/

/-- SCAN is granted (R93, R105). -/
theorem grantScan_tun (f : Nat) (a : Bool) (s : State) :
    (grantScan f a s).tun = { s.tun with scan := { s.tun.scan with
      state := .running, start := f, pos := f, wrapped := false, auto := a, found := 0, stored := 0, last := none,
      cause := .none } }.scansAt f := by
  simp [grantScan, scanBegin]

theorem grantScan_holder (f : Nat) (a : Bool) (s : State) : (grantScan f a s).tar.holder = .scan := by
  simp [grantScan, scanBegin]

theorem reqScanStart_free {f : BitVec 16} (h1 : 900 ≤ f.toNat) (h2 : f.toNat ≤ 17240) (hh : s.tar.holder = .none) :
    reqScanStart f 0 s = reply (.accepted .scan) (grantScan f.toNat false s) := by
  rw [reqScanStart, checked_one, if_neg (by rw [outside_iff]; omega), flagOf_bit (.inl rfl), scanRequest, hostRequest_free hh]
  rfl

theorem reqScanContinue_refused (h : s.tun.scan.state ≠ .paused) :
    reqScanContinue s = reply (.refused .fieldRange 1) s := by
  rw [reqScanContinue, checked_one, if_pos (by simpa using h)]

/-- CONTINUE goes on from the station (R96). -/
theorem reqScanContinue_paused (h : s.tun.scan.state = .paused) (hw : s.tun.scan.wrapped = false)
    (hp : s.tun.scan.finePos + 20 ≤ 17240) :
    reqScanContinue s = reply (.accepted .scan) (scanPosition (s.tun.scan.finePos + 20)
      (s.mapTun fun t => { t with scan := { t.scan with state := .running } })) := by
  rw [reqScanContinue, checked_one, if_neg (by simp [h]), scanResume, scanNext_within (by exact hw) hp, replyAccepted]

theorem reqScanStop_idle (h : s.tun.scan.state = .idle) : reqScanStop s = reply (.ok .scan) s := by
  rw [reqScanStop, if_pos h, replyOk]

theorem reqScanStop_stops (h : s.tun.scan.state ≠ .idle) :
    reqScanStop s = reply (.ok .scan) (report .scanEnded (scanEnd .stopped s)) := by
  rw [reqScanStop, if_neg h, replyOk]

theorem reqViewEnd_none (h : s.tar.holder = .none) : reqViewEnd s = reply (.ok .empty) s := by
  simp only [reqViewEnd, viewEnds, h, replyOk]

theorem reqViewEnd_view (h : s.tar.holder = .view) (hw : s.tar.syncWait = false) :
    reqViewEnd s = reply (.ok .empty) (setHolder .none s) := by
  simp only [reqViewEnd, viewEnds, h, tunerFree_eq hw, replyOk]

/-- STOP ends the scan, and the tuner it held is free. -/
theorem exec_scanStop (hl : s.Listens) (hq : s.reports = []) (hs : s.tun.scan.state ≠ .idle) (hh : s.tar.holder = .scan)
    (hw : s.tar.syncWait = false) :
    exec .scanStop s = .next (transmit (setHolder .none (reply (.ok .scan) (scanEnd .stopped (s.holding 0x23))))) := by
  have hreq : reqScanStop (s.holding 0x23) = reply (.ok .scan) (report .scanEnded (scanEnd .stopped (s.holding 0x23))) :=
    reqScanStop_stops hs
  have hquiet : (scanEnd .stopped (s.holding 0x23)).reports = [] := by simpa using hq
  have hawaits : (reply (.ok .scan) (report .scanEnded (scanEnd .stopped (s.holding 0x23)))).awaits [] =
      reply (.ok .scan) (scanEnd .stopped (s.holding 0x23)) := by
    rw [← hquiet]
    rfl
  rw [exec_request (i := .scanStop) rfl, arrives_listened hl]
  refine (congrArg done hreq).trans (done_one (r := .scanEnded) (by rw [reply_eq, State.mapLnk_reports, report_reports, hquiet]; rfl) ?_ (by simpa using hq))
  rw [hawaits]
  exact scanReleases_eq (by simpa using hh) (by simpa using hw)

end

end Sys2Proof.Machine

namespace Sys2Proof.Proofs
open Sys2Proof.Machine

/-- Settles O38: one timer for each phase of the scan. -/
theorem scanReadingsStepTheScan : Obligations.ScanReadingsStepTheScan := by
  intro s hq hr ht hw band
  refine ⟨fun hp hpos sync disc => ?_, fun hp hu hn hhigh hlow sync => ?_, fun hp ha => ?_⟩
  · refine ⟨transmit (scanPosition (s.tun.scan.pos + 20) (setDetectors false sync s)), ?_, ?_⟩
    · rw [exec_scanDwellEnd, scanTimer_reads hr ht hp, scanDwellRead_moves disc rfl (by simpa using hw) (by simpa using hpos)]
      simpa using done_quiet (by simpa using hq)
    · simp [Tun.scansAt, Tun.tunes, bandOf, band]
  · refine ⟨transmit (fineStep true (setDetectors true sync s)), ?_, ?_⟩
    · rw [exec_scanFineStepEnd, scanTimer_reads hr ht hp, scanFineRead_low rfl (by simpa using hu)]
      exact done_quiet (by simpa [fineStep_up, hn, hhigh, hlow] using hq)
    · simp [fineStep_up, hn, hhigh, hlow, Tun.tunes, bandOf, band]
  · refine ⟨transmit (scanPause ((setDetectors true true s).mapTun Tun.found)), ?_, ?_⟩
    · rw [exec_scanFinalHoldEnd, scanTimer_reads hr ht hp, scanHoldRead_pauses rfl (by simpa using ha)]
      exact done_quiet (by simpa [scanPause] using hq)
    · simp [Tun.found, scanPause]

/-- Settles O35, request by request. -/
theorem scanRequestsRunTheScan : Obligations.ScanRequestsRunTheScan := by
  intro s hl hq
  refine ⟨fun f h1 h2 hh => ?_, fun h => ?_, fun h hw hp => ?_, fun h => ?_, fun hs hh hw => ?_, fun hh => ?_, fun hh hw => ?_⟩
  · refine ⟨_, exec_answered (act := reqScanStart f 0) rfl rfl hl (reqScanStart_free h1 h2 hh) (by simpa using hq), ?_⟩
    simp [grantScan_tun, grantScan_holder, Tun.scansAt, Tun.tunes]
  · exact exec_answered rfl rfl hl (reqScanContinue_refused h) hq
  · refine ⟨_, exec_answered rfl rfl hl (reqScanContinue_paused h hw hp) (by simpa using hq), ?_⟩
    simp [Tun.scansAt, Tun.tunes]
  · exact exec_answered rfl rfl hl (reqScanStop_idle h) hq
  · exact ⟨_, exec_scanStop hl hq hs hh hw, by simp⟩
  · exact exec_answered rfl rfl hl (reqViewEnd_none hh) hq
  · refine ⟨_, exec_answered rfl rfl hl (reqViewEnd_view hh hw) (by simpa using hq), ?_⟩
    simp

end Sys2Proof.Proofs
end

section
/-! SUPPORT. A packet of good parity, the capture buffer, and the PACKET notice that hands it over (R112, R113, R119 to R122). -/

namespace Sys2Proof.Machine

section
variable {s : State}

/-! ### The PACKET notice (R121, R199) -/

/-- The transmit arbiter changes no more of the decoder than the capture buffer. -/
theorem transmit_dld (s : State) : ∃ f b, (transmit s).dld = { s.dld with front := f, back := b } := by
  unfold transmit
  split
  · exact ⟨_, _, rfl⟩
  split
  swap
  · exact ⟨_, _, rfl⟩
  split
  · exact ⟨_, _, rfl⟩
  · exact ⟨_, _, rfl⟩
  · unfold transmitNotice
    split
    · rename_i n _ _
      by_cases h : n = .packet
      · subst h
        exact ⟨s.dld.back, none, by simp [beginNotice_packet_eq, captureSent_eq, sendFrame_eq]⟩
      · exact ⟨_, _, by rw [beginNotice_eq n s h]; rfl⟩
    · exact ⟨_, _, rfl⟩

@[simp] theorem transmit_assembly (s : State) :
    (transmit s).dld.asm = s.dld.asm ∧ (transmit s).dld.chars = s.dld.chars := by
  obtain ⟨f, b, h⟩ := transmit_dld s
  simp [h]

/-- On a free line with no reply ready the pending class with the lowest code begins (R199). -/
theorem transmit_begins {n : Notice} (hline : s.lnk.line = none) (ha : s.linkAwake = true) (hp : s.lnk.parts = [])
    (hr : s.lnk.reply = none) (hn : s.firstNotice = some n) : transmit s = beginNotice n s := by
  simp [transmit, transmitNotice, State.repliesGo, hline, ha, hp, hr, hn]

/-- PACKET is the lowest pending class where none before it is pending. -/
theorem firstNotice_packet (hp : s.pendingNotice .packet = true) (h : ∀ m : Notice, m.bit < 6 → s.pendingNotice m = false) :
    s.firstNotice = some .packet := by
  have hd := h .deck (by decide)
  have hc := h .counter (by decide)
  have hq := h .cue (by decide)
  have ht := h .tape (by decide)
  have hv := h .servo (by decide)
  have hu := h .tuner (by decide)
  simp [State.firstNotice, notices, hd, hc, hq, ht, hv, hu, hp]

/-- A class that is withdrawn and raised again where a condition holds is pending exactly where it holds. -/
theorem packetAgain_pending (x m : BitVec 12) (b : Bool) (hm : m.getLsbD 6 = true) :
    (if b = true then x &&& ~~~(1#12 <<< 6) ||| ((1#12 <<< 6) &&& m) else x &&& ~~~(1#12 <<< 6)).getLsbD 6 = b := by
  cases b
  · simp
  · simp [hm]

/-- The notice hands the front record over, and the back record follows it (R121). -/
theorem beginNotice_packet_spec (ha : s.linkAwake = true) (hm : s.lnk.mask.getLsbD 6 = true) :
    (beginNotice .packet s).lnk.line = some (frameOf 0x46 (noticeBody s .packet)) ∧
    (beginNotice .packet s).dld.front = s.dld.back ∧ (beginNotice .packet s).dld.back = none ∧
    (beginNotice .packet s).pendingNotice .packet = s.dld.back.isSome := by
  have hmode := linkAwake_mode ha
  rw [beginNotice_packet_eq, captureSent_eq, raiseIf_eq]
  refine ⟨by simp [sendFrame_eq], by simp [sendFrame_eq], by simp [sendFrame_eq], ?_⟩
  have hbit := packetAgain_pending s.lnk.notices s.lnk.mask s.dld.back.isSome hm
  simpa [State.pendingNotice, Notice.bit, sendFrame_eq, hmode] using hbit

/-! ### A packet of good parity (R112 to R114) -/

/-- Twelve bytes of odd parity that arrive while the tuned record is SIGNAL. -/
structure GoodPacket (bytes : List Byte) (s : State) : Prop where
  length : bytes.length = 12
  odd : ∀ b ∈ bytes, oddParity b = true
  signal : s.tun.tuned.state = .signal

section
variable {bytes : List Byte}

theorem exec_packetArrival (bytes : List Byte) (s : State) : exec (.packetArrival bytes) s = done (packetArrives bytes s) := rfl

theorem packetArrives_good (h : GoodPacket bytes s) :
    packetArrives bytes s =
      if field (bytes.map dataBits) 0 = 0x21 then takeTime (bytes.map dataBits) s
      else if field (bytes.map dataBits) 0 = 0x22 then takeLabel (bytes.map dataBits) s
      else if field (bytes.map dataBits) 0 = 0x23 then takeName (bytes.map dataBits) s
      else s := by
  have hall : bytes.all oddParity = true := List.all_eq_true.mpr h.odd
  rw [packetArrives, h.signal, h.length, beq_self_eq_true, beq_self_eq_true, Bool.and_self, when_true, takePacket, if_pos hall]

theorem packetArrives_takesTime (h : GoodPacket bytes s) (ht : field (bytes.map dataBits) 0 = 0x21) :
    packetArrives bytes s = takeTime (bytes.map dataBits) s := by
  rw [packetArrives_good h, if_pos ht]

theorem packetArrives_takesLabel (h : GoodPacket bytes s) (ht : field (bytes.map dataBits) 0 = 0x22) :
    packetArrives bytes s = takeLabel (bytes.map dataBits) s := by
  rw [packetArrives_good h, if_neg (by rw [ht]; decide), if_pos ht]

theorem packetArrives_takesName (h : GoodPacket bytes s) (ht : field (bytes.map dataBits) 0 = 0x23) :
    packetArrives bytes s = takeName (bytes.map dataBits) s := by
  rw [packetArrives_good h, if_neg (by rw [ht]; decide), if_neg (by rw [ht]; decide), if_pos ht]

/-- A type byte of none of the three changes nothing (R114). -/
theorem packetArrives_otherType (h : GoodPacket bytes s) (h1 : field (bytes.map dataBits) 0 ≠ 0x21)
    (h2 : field (bytes.map dataBits) 0 ≠ 0x22) (h3 : field (bytes.map dataBits) 0 ≠ 0x23) : packetArrives bytes s = s := by
  rw [packetArrives_good h, if_neg h1, if_neg h2, if_neg h3]

end

/-! ### The capture buffer (R119, R120, R122) -/

section
variable {t : PacketType} {n : Nat} {data : List Byte}

theorem captureOffer_closed (h : s.takesCapture t = false) : captureOffer t n data s = s := by
  rw [captureOffer, h, if_neg Bool.false_ne_true]

/-- The record of an offered item. -/
def State.captureOf (s : State) (t : PacketType) (n : Nat) (data : List Byte) : Capture :=
  { type := t, count := (s.dld.count + 1) % 256, preset := n, data := data }

theorem captureOffer_open (h : s.takesCapture t = true) :
    captureOffer t n data s =
      captureEnter (s.captureOf t n data) (s.mapDld fun d => { d with count := (s.dld.count + 1) % 256 }) := by
  rw [captureOffer, h, if_pos rfl]
  rfl

@[simp] theorem captureEnter_assembly (c : Capture) (s : State) :
    (captureEnter c s).dld.asm = s.dld.asm ∧ (captureEnter c s).dld.chars = s.dld.chars := by
  unfold captureEnter
  split <;> simp

/-- An offered item leaves the name assembly as it is. -/
@[simp] theorem captureOffer_assembly (t : PacketType) (n : Nat) (data : List Byte) (s : State) :
    (captureOffer t n data s).dld.asm = s.dld.asm ∧ (captureOffer t n data s).dld.chars = s.dld.chars := by
  cases h : s.takesCapture t
  · simp [captureOffer_closed h]
  · simp [captureOffer_open h]

theorem captureEnter_front (c : Capture) (h : s.dld.front = none) :
    captureEnter c s = raise .packet (s.mapDld fun d => { d with front := some c, back := none }) := by
  simp [captureEnter, h]

theorem captureEnter_back (c : Capture) (h : s.dld.front.isSome) (hb : s.dld.back = none) :
    captureEnter c s = s.mapDld fun d => { d with back := some c } := by
  obtain ⟨f, hf⟩ := Option.isSome_iff_exists.mp h
  simp [captureEnter, hf, hb]

theorem captureEnter_overrun (c : Capture) (h : s.dld.front.isSome) (hb : s.dld.back.isSome) :
    captureEnter c s = setSticky .packetOverrun (s.mapDld fun d => { d with back := some c }) := by
  obtain ⟨f, hf⟩ := Option.isSome_iff_exists.mp h
  obtain ⟨b, hb⟩ := Option.isSome_iff_exists.mp hb
  simp [captureEnter, hf, hb]

end

end

end Sys2Proof.Machine
end

section
/-! SUPPORT. NAME packets: the assembly, and the preset that a complete record names (R84, R117, R118). -/

namespace Sys2Proof.Machine

section
variable {s : State} {d : Dld} {code : BitVec 12} {seg : Nat} {new : List Byte}

/-! ### The assembly (R117) -/

theorem storeSegment_blank (h : seg < 4) :
    storeSegment seg new blankName = List.replicate (8 * seg) 0x20 ++ new ++ List.replicate (24 - 8 * seg) 0x20 := by
  simp only [storeSegment, blankName, List.take_replicate, List.drop_replicate]
  rw [show min (8 * seg) 32 = 8 * seg by omega, show 32 - (8 * seg + 8) = 24 - 8 * seg by omega]

/-- A segment that meets an EMPTY assembly, or one of another code, starts it. -/
theorem segment_starts (h : d.asm = .empty ∨ d.asmCode ≠ some code) :
    d.segment code seg new =
      { d with asm := .assembling, asmCode := some code, chars := storeSegment seg new blankName, segs := segBit seg } := by
  rw [Dld.segment, if_pos h]

/-- A segment of the same code joins the assembly, and may complete it. -/
theorem segment_joins (ha : d.asm = .assembling) (hc : d.asmCode = some code) :
    d.segment code seg new =
      { d with asm := if d.segs ||| segBit seg = 0xF#4 then .complete else .assembling,
               chars := storeSegment seg new d.chars, segs := d.segs ||| segBit seg } := by
  simp only [Dld.segment, ha, hc, reduceCtorEq, ne_eq, not_true_eq_false, or_self, if_false, if_true]

/-! ### A NAME packet -/

/-- The number of a NAME packet's segment. -/
def segmentOf (data : List Nat) : Nat := field data 3 % 4

/-- The characters of a NAME packet's segment. -/
def segmentChars (data : List Nat) : List Byte := ((data.drop 4).take 8).map nameChar

/-- The decoder's record after a NAME packet's segment. -/
def Dld.named (data : List Nat) (d : Dld) : Dld := d.segment (networkOf data) (segmentOf data) (segmentChars data)

theorem takeName_incomplete {data : List Nat} (h : (s.dld.named data).asm ≠ .complete) :
    takeName data s = s.mapDld (Dld.named data) :=
  if_neg fun hc => h hc.1

theorem takeName_complete {data : List Nat} (h : (s.dld.named data).asm = .complete) (hw : s.dld.asm ≠ .complete) :
    ∃ n bytes, takeName data s =
      captureOffer .name n bytes (learnName (networkOf data) (s.dld.named data).chars (s.mapDld (Dld.named data))) :=
  ⟨_, _, if_pos ⟨h, hw⟩⟩

/-! ### The name learned (R84) -/

/-- The short name is the first five characters but for the spaces at their end. -/
theorem shortName_spec (chars : List Byte) :
    (∃ k, shortName chars ++ List.replicate k 0x20 = chars.take 5) ∧ (shortName chars).getLast? ≠ some 0x20 := by
  refine ⟨⟨((chars.take 5).rtakeWhile (· == 0x20)).length, ?_⟩, fun h => ?_⟩
  · have hall : ∀ b ∈ (chars.take 5).rtakeWhile (· == (0x20 : Byte)), b = 0x20 := fun b hb => by
      simpa using List.mem_rtakeWhile_imp hb
    rw [← List.eq_replicate_of_mem hall]
    exact List.rdropWhile_append_rtakeWhile
  · have hne : shortName chars ≠ [] := fun he => by simp [he] at h
    rw [List.getLast?_eq_some_getLast hne, Option.some_inj] at h
    have hlast : ¬((shortName chars).getLast hne == 0x20) = true := List.rdropWhile_last_not _ _ hne
    exact hlast (by rw [h]; rfl)

/-- A complete record names the receiving preset where that has the record's code and no name. -/
def State.namedBy (s : State) (code : BitVec 12) : Prop :=
  s.receivingPreset ≠ 0 ∧ (s.preset s.receivingPreset).network = some code ∧ (s.preset s.receivingPreset).name = []

theorem learnName_other {chars : List Byte} (h : ¬s.namedBy code) : learnName code chars s = s :=
  if_neg h

theorem learnName_names {chars : List Byte} (h : s.namedBy code) :
    learnName code chars s = raise .tuner
      ((setPreset s.receivingPreset { s.preset s.receivingPreset with name := shortName chars } s).mapTun
        fun t => { t with lastChanged := s.receivingPreset }) :=
  if_pos h

/-- The segment that completes the record offers it to the receiving preset. -/
theorem exec_name_completes {bytes : List Byte} {chars : List Byte} (hg : GoodPacket bytes s) (hq : s.reports = [])
    (ht : field (bytes.map dataBits) 0 = 0x23) (hw : s.dld.asm ≠ .complete)
    (hc : (s.dld.named (bytes.map dataBits)).asm = .complete) (hchars : (s.dld.named (bytes.map dataBits)).chars = chars) :
    ∃ t, exec (.packetArrival bytes) s = .next t ∧ t.dld.asm = .complete ∧ t.dld.chars = chars ∧
      t.tun = (learnName (networkOf (bytes.map dataBits)) chars (s.mapDld (Dld.named (bytes.map dataBits)))).tun ∧
      t.mec = s.mec ∧ t.tar = s.tar ∧ t.clk = s.clk ∧ t.tsc = s.tsc := by
  subst hchars
  obtain ⟨n, item, htake⟩ := takeName_complete hc hw
  refine ⟨transmit (takeName (bytes.map dataBits) s), ?_, by simp [htake, hc], by simp [htake], by simp [htake], by simp⟩
  rw [exec_packetArrival, packetArrives_takesName hg ht, done_quiet (by simpa using hq)]

/-- The receiving preset is a number of the table. -/
theorem receivingPreset_le (s : State) : s.receivingPreset ≤ 99 := by
  unfold State.receivingPreset
  dsimp only
  split
  · rename_i h
    exact (number_of_used h.2.1).2
  · omega

/-- What a preset that is named shows (R84). -/
theorem learnName_preset {chars : List Byte} (h : s.namedBy code) {t : State} (ht : t.tun = (learnName code chars s).tun) :
    t.preset s.receivingPreset = { s.preset s.receivingPreset with name := shortName chars } ∧
    (∀ m, m ≠ s.receivingPreset → t.preset m = s.preset m) ∧ t.tun.lastChanged = s.receivingPreset := by
  have h1 : 1 ≤ s.receivingPreset := Nat.one_le_iff_ne_zero.mpr h.1
  rw [learnName_names h] at ht
  have hpreset : ∀ m, t.preset m =
      (setPreset s.receivingPreset { s.preset s.receivingPreset with name := shortName chars } s).preset m :=
    preset_congr (by simp [ht])
  refine ⟨?_, fun m hm => ?_, by simp [ht]⟩
  · rw [hpreset, setPreset_same h1 (receivingPreset_le s)]
  · rw [hpreset, setPreset_other hm]

theorem learnName_tuned (chars : List Byte) (s : State) : (learnName code chars s).tun.tuned = s.tun.tuned := by
  by_cases h : s.namedBy code
  · simp [learnName_names h, setPreset_tun h.1]
  · rw [learnName_other h]

end

end Sys2Proof.Machine
end

section
/-! SUPPORT. LABEL packets: the network code that the receiving preset learns, and the item that capture is offered (R83, R116,
R119 to R122). -/

namespace Sys2Proof.Machine

section
variable {s : State} {code : BitVec 12} {bytes : List Byte}

/-! ### The code learned (R83) -/

theorem learnCode_known (h : s.receivingPreset = 0 ∨ (s.preset s.receivingPreset).network = some code) : learnCode code s = s :=
  if_pos h

theorem learnCode_learns (h : s.receivingPreset ≠ 0) (hn : (s.preset s.receivingPreset).network ≠ some code) :
    learnCode code s = raise .tuner
      ((setPreset s.receivingPreset { s.preset s.receivingPreset with network := some code } s).mapTun
        fun t => { t with lastChanged := s.receivingPreset }) :=
  if_neg (not_or.mpr ⟨h, hn⟩)

theorem learnCode_report (r : Report) (s : State) : learnCode code (report r s) = report r (learnCode code s) := by
  by_cases h : s.receivingPreset = 0 ∨ (s.preset s.receivingPreset).network = some code
  · rw [learnCode_known h, learnCode_known (s := report r s) h]
  · obtain ⟨h1, h2⟩ := not_or.mp h
    rw [learnCode_learns h1 h2, learnCode_learns (s := report r s) h1 h2]
    simp only [setPreset, show (report r s).receivingPreset = s.receivingPreset from rfl, if_neg h1, raise_eq]
    rfl

/-- What a preset whose code is learned shows. -/
theorem learnCode_preset (h : s.receivingPreset ≠ 0) (hn : (s.preset s.receivingPreset).network ≠ some code) {t : State}
    (ht : t.tun = (learnCode code s).tun) :
    t.preset s.receivingPreset = { s.preset s.receivingPreset with network := some code } ∧
    (∀ m, m ≠ s.receivingPreset → t.preset m = s.preset m) ∧ t.tun.lastChanged = s.receivingPreset ∧
    t.tun.tuned = s.tun.tuned := by
  rw [learnCode_learns h hn] at ht
  have hpreset : ∀ m, t.preset m =
      (setPreset s.receivingPreset { s.preset s.receivingPreset with network := some code } s).preset m :=
    preset_congr (by simp [ht])
  refine ⟨?_, fun m hm => ?_, by simp [ht], by simp [ht, setPreset_tun h]⟩
  · rw [hpreset, setPreset_same (Nat.one_le_iff_ne_zero.mpr h) (receivingPreset_le s)]
  · rw [hpreset, setPreset_other hm]

/-! ### The packet without an active occurrence (R116, R170) -/

theorem captureEnter_report (c : Capture) (r : Report) (s : State) :
    captureEnter c (report r s) = report r (captureEnter c s) := by
  rcases hf : s.dld.front with _ | f
  · rw [captureEnter_front c hf, captureEnter_front (s := report r s) c hf, raise_eq, raise_eq]
    rfl
  rcases hb : s.dld.back with _ | b
  · rw [captureEnter_back (s := s) c (by simp [hf]) hb, captureEnter_back (s := report r s) c (by simp [hf]) hb]
    rfl
  · rw [captureEnter_overrun (s := s) c (by simp [hf]) (by simp [hb]),
      captureEnter_overrun (s := report r s) c (by simp [hf]) (by simp [hb])]
    rfl

theorem captureOffer_report (t : PacketType) (n : Nat) (data : List Byte) (r : Report) (s : State) :
    captureOffer t n data (report r s) = report r (captureOffer t n data s) := by
  cases h : s.takesCapture t
  · rw [captureOffer_closed h, captureOffer_closed (s := report r s) h]
  · rw [captureOffer_open h, captureOffer_open (s := report r s) h, ← captureEnter_report]
    rfl

/-- With no occurrence active a LABEL packet concerns none. -/
theorem idle_label (h : s.tsc.active = none) (n : Nat) (key : BitVec 20) (st : LabelStatus) : IdleReport s (.label n key st) := by
  intro rest
  simp [takeReport, labelTaken, withActive, h]

theorem heard_quiet (h : s.reports = []) : s.heard = s := by
  rw [State.heard, ← h]

/-- What a LABEL packet does but for its report to TSC. -/
def labelKept (data : List Nat) (s : State) : State :=
  captureOffer .label s.receivingPreset (dataBytes data 1 6) (learnCode (networkOf data) s)

theorem takeLabel_eq (data : List Nat) (s : State) :
    takeLabel data s = report (.label s.receivingPreset (labelKey data) (statusOf (field data 6))) (labelKept data s) := by
  rw [labelKept, ← captureOffer_report, ← learnCode_report]
  rfl

theorem exec_label (hg : GoodPacket bytes s) (hq : s.reports = []) (ht : field (bytes.map dataBits) 0 = 0x22)
    (ha : s.tsc.active = none) :
    exec (.packetArrival bytes) s = .next (transmit (labelKept (bytes.map dataBits) s)) := by
  have hkept : (labelKept (bytes.map dataBits) s).reports = [] := by simp [labelKept, hq]
  rw [exec_packetArrival, packetArrives_takesLabel hg ht, takeLabel_eq]
  have hdone := done_idle (s := report (.label s.receivingPreset (labelKey (bytes.map dataBits))
      (statusOf (field (bytes.map dataBits) 6))) (labelKept (bytes.map dataBits) s)) (l := [_])
    (by rw [report_reports, hkept]; rfl) (by simpa using idle_label (by simpa [labelKept] using ha) _ _ _) one_le_reportBound
  exact hdone.trans (congrArg (Host.Outcome.next ∘ transmit) (heard_quiet hkept))

end

end Sys2Proof.Machine
end

section
/-! SUPPORT. TIME packets: the candidate, the validated time, and a clock that is set or moved with nothing planned (R115, R138,
R139, R180). -/

namespace Sys2Proof.Machine

section
variable {s t u : State}

/-! ### Clock reports with nothing planned (R155, R180) -/

/-- The clock is set, no slot is armed, nothing is planned or active, and no visit is wanted. -/
structure State.Unplanned (s : State) : Prop where
  set : s.clk.state ≠ .unset
  active : s.tsc.active = none
  plan : s.tsc.plan = []
  unarmed : ∀ n, (s.slot n).state ≠ .armed
  syncOff : s.clk.syncOn = false

/-- Two states that agree on the clock, the deck, the tuner, its arbiter, the power record and the timer's slots. -/
structure ClockKept (s t : State) : Prop where
  clk : t.clk = s.clk
  mec : t.mec = s.mec
  tun : t.tun = s.tun
  tar : t.tar = s.tar
  pwr : t.pwr = s.pwr
  slots : t.tsc.slots = s.tsc.slots

theorem ClockKept.trans (h : ClockKept s t) (h' : ClockKept t u) : ClockKept s u :=
  ⟨h'.clk.trans h.clk, h'.mec.trans h.mec, h'.tun.trans h.tun, h'.tar.trans h.tar, h'.pwr.trans h.pwr, h'.slots.trans h.slots⟩

theorem PlanOnly.clockKept (h : PlanOnly s t) : ClockKept s t := ⟨h.clk, h.mec, h.tun, h.tar, h.pwr, h.slots⟩

theorem missEntries_nil (h : s.tsc.plan = []) : missEntries s = s := by
  simp [missEntries, h, State.mapTsc]
  simp [← h]

/-- An unarmed slot calls for nothing. -/
theorem drawSlot_unarmed {n : Nat} (h : (s.slot n).state ≠ .armed) : drawSlot s n = [] := if_neg h

theorem State.Unplanned.drawsNothing (h : s.Unplanned) : s.DrawsNothing :=
  ⟨h.active, .inr fun n => drawSlot_unarmed (h.unarmed n)⟩

/-- TSC takes CLK's report: the skip list expires, and the plan is rebuilt. -/
theorem State.Unplanned.clockReported (h : s.Unplanned) (r : ClockReport) :
    clockReported r s = rebuild (s.mapTsc fun t => { t with skip := expireSkip s.clk.today t.skip }) := by
  have hset : (s.clk.state == .unset) = false := by simpa using h.set
  have hmiss := missEntries_nil (s := s.mapTsc fun t => { t with skip := expireSkip s.clk.today t.skip }) h.plan
  have hstop : ∀ d, stopMoves d (s.mapTsc fun t => { t with skip := expireSkip s.clk.today t.skip }) =
      s.mapTsc fun t => { t with skip := expireSkip s.clk.today t.skip } := fun d => by
    simp [stopMoves, withActive, h.active]
  unfold Machine.clockReported
  simp only [hset, Bool.false_and, Bool.false_eq_true, if_false, hmiss]
  congr 1
  split <;> first | rfl | exact hstop _

/-- A report of CLK's: of a change, or that the visit condition is to be tested. -/
def Report.fromClock : Report → Bool
  | .clock _ | .visitTest => true
  | _ => false

/-- With nothing planned, a report of CLK's leaves the plan empty and changes no record of the clock, the deck or the tuner. -/
theorem State.Unplanned.takes (h : s.Unplanned) {r : Report} (hr : r.fromClock) (rest : List Report) :
    (takeReport r (s.awaits rest)).Unplanned ∧ ClockKept s (takeReport r (s.awaits rest)) ∧
    (takeReport r (s.awaits rest)).reports = rest := by
  have hu : (s.awaits rest).Unplanned := ⟨h.set, h.active, h.plan, h.unarmed, h.syncOff⟩
  cases r
  case visitTest =>
    have hidle : takeReport .visitTest (s.awaits rest) = s.awaits rest := idle_visitTest h.syncOff rest
    rw [hidle]
    exact ⟨hu, ⟨rfl, rfl, rfl, rfl, rfl, rfl⟩, rfl⟩
  case clock c =>
    let v := (s.awaits rest).mapTsc fun t => { t with skip := expireSkip s.clk.today t.skip }
    have hv : v.Unplanned := ⟨h.set, h.active, h.plan, h.unarmed, h.syncOff⟩
    have htake : takeReport (.clock c) (s.awaits rest) = rebuild v := hu.clockReported c
    obtain ⟨hp, hplan, hrep⟩ := hv.drawsNothing.rebuild_spec
    rw [htake]
    refine ⟨⟨by rw [hp.clk]; exact h.set, by rw [hp.active]; exact h.active, hplan, fun n => ?_, by rw [hp.clk]; exact h.syncOff⟩,
      ⟨hp.clk, hp.mec, hp.tun, hp.tar, hp.pwr, hp.slots⟩, hrep⟩
    rw [hp.slot]
    exact h.unarmed n
  all_goals cases hr

/-- Reports of CLK's are all taken, and come to no more. -/
theorem settles_fromClock {l : List Report} (hs : s.Unplanned) (h : s.reports = l) (hl : ∀ r ∈ l, r.fromClock) :
    ∃ t, Settles l.length s t ∧ ClockKept s t := by
  induction l generalizing s with
  | nil => exact ⟨s, .quiet h, rfl, rfl, rfl, rfl, rfl, rfl⟩
  | cons r rest ih =>
    obtain ⟨hu, hk, hrep⟩ := hs.takes (hl r (by simp)) rest
    obtain ⟨t, ht, hkt⟩ := ih hu hrep fun x hx => hl x (by simp [hx])
    exact ⟨t, settles_take h ht, hk.trans hkt⟩

/-! ### A validated time (R139) -/

/-- CLK's record as a visit concludes. -/
def Clk.concluded (c : Clk) : Clk := { c with visitAge := some 0, visitTicks := 0, retry := none }

/-- With no request of CLK's outstanding, a visit that concludes leaves the tuner alone. -/
theorem visitConcluded_idle (h : s.clk.request = .none) : visitConcluded s = s.mapClk Clk.concluded := by
  simp only [visitConcluded, State.mapClk_clk, h]
  rfl

/-- The owner's time stands (R139). -/
theorem syncDisagrees_spec (h : s.clk.request = .none) :
    (syncDisagrees s).clk = { s.clk.concluded with lastSync := .disagree } ∧ (syncDisagrees s).stickySet .syncDisagree = true ∧
    (syncDisagrees s).tun = s.tun ∧ (syncDisagrees s).tar = s.tar ∧ (syncDisagrees s).reports = s.reports := by
  have hc : visitConcluded (setSticky .syncDisagree s) = (setSticky .syncDisagree s).mapClk Clk.concluded :=
    visitConcluded_idle (by simpa using h)
  rw [syncDisagrees, hc]
  refine ⟨by simp, ?_, by simp, by simp, by simp⟩
  simp [raise_eq, State.stickySet, setSticky, Sticky.bit]

/-- Whether a reading moves the clock: it is more than 1 s off (R139). -/
def Clk.movedBy (i : Nat) (c : Clk) : Bool := decide ((i : Int) - c.reading < -1 ∨ 1 < (i : Int) - c.reading)

/-- The reading, the summer state and the offset are taken, and the clock is BROADCAST. -/
def readingTaken (i : Nat) (m : Summer) (o : Int) (s : State) : State :=
  setSummer m o ((if s.clk.movedBy i then setReading i (s.mapClk fun c => { c with sub := 0 }) else s).mapClk
    fun c => { c with state := .broadcast })

/-- CLK's record once a reading is taken. -/
def Clk.reads (i : Nat) (m : Summer) (o : Int) (c : Clk) : Clk :=
  { c with
    state := .broadcast, now := if c.movedBy i then DateTime.ofInstant i else c.now, sub := if c.movedBy i then 0 else c.sub,
    summer := m, offset := o }

/-- The change is told: a clock that was UNSET is set, one that is moved jumps. -/
def readingTold (i : Nat) (old : Clk) (s : State) : State :=
  if old.state = .unset then clockReport .set old.state ((i : Int) - old.reading) s
  else if old.movedBy i then clockReport .jump old.state ((i : Int) - old.reading) s
  else raiseIf (old.state != .broadcast) .clock s

variable {i : Nat} {m : Summer} {o : Int}

theorem applyReading_eq (i : Nat) (m : Summer) (o : Int) (s : State) :
    applyReading i m o s = visitConcluded (stateMoved s.clk.state (readingTold i s.clk (readingTaken i m o s))) := rfl

theorem readingTaken_spec (hm : s.pwr.mode = .on) :
    (readingTaken i m o s).clk = s.clk.reads i m o ∧ (readingTaken i m o s).tun = s.tun ∧
    (readingTaken i m o s).tar = s.tar ∧ (readingTaken i m o s).pwr = s.pwr ∧
    (readingTaken i m o s).reports = s.reports := by
  unfold readingTaken
  cases hmv : s.clk.movedBy i <;> simp [setSummer, setReading, Clk.reads, hm, hmv]

/-- What is told changes no record, and reports a change of the clock at most. -/
theorem readingTold_spec (old : Clk) (hm : s.pwr.mode = .on) :
    (readingTold i old s).clk = s.clk ∧ (readingTold i old s).tun = s.tun ∧ (readingTold i old s).tar = s.tar ∧
    ((readingTold i old s).reports = s.reports ∨ ∃ r, (readingTold i old s).reports = s.reports ++ [.clock r]) := by
  have hreport : ∀ k w d, ∃ r, (clockReport k w d s).reports = s.reports ++ [.clock r] := fun k w d =>
    ⟨_, by simp only [clockReport, hm, reduceCtorEq, if_false, report_reports, raise_frame]; rfl⟩
  unfold readingTold
  split
  · exact ⟨by simp [hm], by simp, by simp, .inr (hreport _ _ _)⟩
  split
  · exact ⟨by simp [hm], by simp, by simp, .inr (hreport _ _ _)⟩
  · exact ⟨by simp, by simp, by simp, .inl (by simp)⟩

/-- The clock becomes BROADCAST, and what is reported is CLK's. -/
theorem applyReading_spec (h : s.clk.request = .none) (hm : s.pwr.mode = .on) (hq : s.reports = []) :
    (applyReading i m o s).clk = (s.clk.reads i m o).concluded ∧
    ((applyReading i m o s).reports.length ≤ 2 ∧ ∀ r ∈ (applyReading i m o s).reports, r.fromClock) ∧
    (applyReading i m o s).tun = s.tun ∧ (applyReading i m o s).tar = s.tar := by
  obtain ⟨t1, t2, t3, t4, t5⟩ := readingTaken_spec (i := i) (m := m) (o := o) hm
  obtain ⟨d1, d2, d3, d4⟩ := readingTold_spec (i := i) (s := readingTaken i m o s) s.clk (by rw [t4, hm])
  have hrequest : (stateMoved s.clk.state (readingTold i s.clk (readingTaken i m o s))).clk.request = .none := by
    simp [d1, t1, Clk.reads, h]
  rw [applyReading_eq, visitConcluded_idle hrequest]
  refine ⟨by simp [d1, t1], ?_, by simp [d2, t2], by simp [d3, t3]⟩
  have hmoved := reportIf_eq ((readingTold i s.clk (readingTaken i m o s)).clk.state != s.clk.state) .visitTest
    (readingTold i s.clk (readingTaken i m o s))
  rw [State.mapClk_reports, stateMoved, hmoved]
  rcases d4 with hr | ⟨r, hr⟩ <;> rw [hr, t5, hq] <;> split <;> simp [Report.fromClock]

/-! ### What CLK makes of a TIME packet (R138) -/

theorem timePacketTaken_first {utc : Nat} {sm : Bool} (h : s.clk.candidate = none) :
    timePacketTaken utc o sm true s =
      s.mapClk fun c => { c with candidate := some { utc := utc, offset := o, summer := sm, age := 0 } } := by
  simp [timePacketTaken, h]

theorem timePacketTaken_agrees {utc : Nat} {sm : Bool} {k : Candidate} (h : s.clk.candidate = some k)
    (ha : k.agrees utc = true) :
    timePacketTaken utc o sm true s = validated utc o sm (s.mapClk fun c => { c with candidate := none }) := by
  simp [timePacketTaken, h, ha]

/-- Whether the owner's time stands against a reading more than 12 hours away. -/
def Clk.standsAgainst (r : Int) (c : Clk) : Prop := c.state = .manual ∧ (r - c.reading < -43200 ∨ 43200 < r - c.reading)

section
variable {utc : Nat} {sm : Bool} (hb : s.clk.source = .broadcast) (h0 : 0 ≤ (utc : Int) + o * 900)
  (hr : (utc : Int) + o * 900 < rangeSeconds)
include hb h0 hr

theorem validated_stands (h : s.clk.standsAgainst ((utc : Int) + o * 900)) : validated utc o sm s = syncDisagrees s := by
  simp only [validated, hb]
  rw [if_neg (by omega)]
  exact if_pos h

theorem validated_applies (h : ¬s.clk.standsAgainst ((utc : Int) + o * 900)) :
    validated utc o sm s = applyReading ((utc : Int) + o * 900).toNat (if sm then .summer else .standard) o s := by
  simp only [validated, hb]
  rw [if_neg (by omega)]
  exact if_neg h

end

/-! ### The packet (R114, R115) -/

/-- A valid TIME packet from a time-source preset, which capture does not take. -/
structure TimePacket (bytes : List Byte) (d : DateTime) (s : State) : Prop where
  good : GoodPacket bytes s
  type : field (bytes.map dataBits) 0 = 0x21
  time : timeOf (bytes.map dataBits) = some d
  low : -48 ≤ signed7 (field (bytes.map dataBits) 8)
  high : signed7 (field (bytes.map dataBits) 8) ≤ 56
  source : s.fromTimeSource = true
  unselected : s.dld.sel.getLsbD 0 = false

variable {bytes : List Byte} {d : DateTime}

theorem packetArrives_time (h : TimePacket bytes d s) :
    packetArrives bytes s = report (.timePacket d.instant (signed7 (field (bytes.map dataBits) 8))
      (field (bytes.map dataBits) 9 % 2 == 1) true) s := by
  have hlow := h.low
  have hhigh := h.high
  have hclosed : ∀ r, (report r s).takesCapture .time = false := fun r => by
    have hbit : (report r s).dld.sel.getLsbD PacketType.time.bit = false := h.unselected
    rw [State.takesCapture, hbit]
    rfl
  rw [packetArrives_takesTime h.good h.type]
  simp only [takeTime, h.time, h.source]
  rw [if_neg (by omega), captureOffer_closed (hclosed _)]

/-- The packet is handed to CLK, and the command ends as its reports do. -/
theorem exec_time {n : Nat} (h : TimePacket bytes d s) (hq : s.reports = [])
    (ht : Settles n (timePacketTaken d.instant (signed7 (field (bytes.map dataBits) 8))
      (field (bytes.map dataBits) 9 % 2 == 1) true s) t) (hn : n ≤ 2) :
    exec (.packetArrival bytes) s = .next (transmit t) := by
  rw [exec_packetArrival, packetArrives_time h]
  refine done_of_settles (settles_take (r := .timePacket _ _ _ _) (rest := []) (by rw [report_reports, hq]; rfl) ?_)
    (Nat.le_trans (Nat.succ_le_succ hn) (by decide))
  have hawaits : s.awaits [] = s := by rw [State.awaits, ← hq]
  rw [report_awaits, hawaits]
  exact ht

end

end Sys2Proof.Machine
end

section
/-! PACKET_ARRIVAL, by the packet's type (R112 to R122, R138, R139). -/

namespace Sys2Proof.Machine

section
variable {s : State} {bytes : List Byte} {d : DateTime} {k : Candidate}

/-! ### NAME (R84, R117, R118) -/

theorem exec_name_incomplete {u : Dld} (hg : GoodPacket bytes s) (hq : s.reports = [])
    (ht : field (bytes.map dataBits) 0 = 0x23) (hu : s.dld.named (bytes.map dataBits) = u) (h : u.asm ≠ .complete) :
    exec (.packetArrival bytes) s = .next (transmit { s with dld := u }) := by
  subst hu
  rw [exec_packetArrival, packetArrives_takesName hg ht, takeName_incomplete h, done_quiet (by simpa using hq)]
  rfl

theorem named_starts {data : List Nat} {u : Dld} (h : u.asm = .empty ∨ u.asmCode ≠ some (networkOf data)) :
    u.named data = { u with
      asm := .assembling, asmCode := some (networkOf data), segs := 1#4 <<< segmentOf data,
      chars := List.replicate (8 * segmentOf data) 0x20 ++ segmentChars data ++
        List.replicate (24 - 8 * segmentOf data) 0x20 } := by
  have hseg : segmentOf data < 4 := Nat.mod_lt _ (by decide)
  rw [Dld.named, segment_starts h, storeSegment_blank hseg, segBit]

theorem named_joins {data : List Nat} {u : Dld} (ha : u.asm = .assembling) (hc : u.asmCode = some (networkOf data))
    (hs : u.segs ||| 1#4 <<< segmentOf data ≠ 0xF#4) :
    u.named data = { u with
      segs := u.segs ||| 1#4 <<< segmentOf data, chars := storeSegment (segmentOf data) (segmentChars data) u.chars } := by
  rw [Dld.named, segment_joins ha hc, segBit, if_neg hs, ← ha]

theorem named_completes {data : List Nat} {u : Dld} (ha : u.asm = .assembling) (hc : u.asmCode = some (networkOf data))
    (hs : u.segs ||| 1#4 <<< segmentOf data = 0xF#4) :
    (u.named data).asm = .complete ∧
    (u.named data).chars = storeSegment (segmentOf data) (segmentChars data) u.chars := by
  rw [Dld.named, segment_joins ha hc, segBit, if_pos hs]
  exact ⟨rfl, rfl⟩

/-- What a complete record makes of the tuner: it names the receiving preset, or changes nothing (R84). -/
theorem learnName_outcome {code : BitVec 12} {chars : List Byte} {t : State} (ht : t.tun = (learnName code chars s).tun) :
    (¬s.namedBy code → t.tun = s.tun) ∧
    (s.namedBy code →
      (∃ k, (t.preset s.receivingPreset).name ++ List.replicate k 0x20 = chars.take 5) ∧
        (t.preset s.receivingPreset).name.getLast? ≠ some 0x20 ∧
        t.preset s.receivingPreset = { s.preset s.receivingPreset with name := (t.preset s.receivingPreset).name } ∧
        (∀ m, m ≠ s.receivingPreset → t.preset m = s.preset m) ∧ t.tun.lastChanged = s.receivingPreset) := by
  refine ⟨fun h => by rw [ht, learnName_other h], fun h => ?_⟩
  obtain ⟨hn, hothers, hlast⟩ := learnName_preset h ht
  obtain ⟨hspaces, hend⟩ := shortName_spec chars
  rw [hn]
  exact ⟨hspaces, hend, rfl, hothers, hlast⟩

/-! ### LABEL (R83, R119 to R122) -/

/-- Where no preset is received, the packet is only offered to capture. -/
theorem labelKept_unreceived (hr : s.receivingPreset = 0) (data : List Nat) :
    labelKept data s = captureOffer .label 0 (dataBytes data 1 6) s := by
  rw [labelKept, learnCode_known (.inl hr), hr]

/-- In ON a class that the mask enables is pending once it is raised (R197). -/
theorem raise_on (h : s.pwr.mode = .on) (n : Notice) :
    raise n s = s.mapLnk fun l => { l with notices := l.notices ||| ((1#12 <<< n.bit) &&& l.mask) } :=
  if_neg (by rw [h]; exact nofun)

theorem takesLabel_iff : s.takesCapture .label = true ↔
    s.dld.sel.getLsbD 1 = true ∧ s.pwr.mode = .on ∧ s.lnk.mask.getLsbD 6 = true := by
  simp [State.takesCapture, PacketType.bit, Notice.bit, and_assoc]

/-- A packet that teaches the receiving preset its code, and is not captured. -/
theorem exec_label_learns (hg : GoodPacket bytes s) (hq : s.reports = []) (ht : field (bytes.map dataBits) 0 = 0x22)
    (hr : s.receivingPreset ≠ 0) (hn : (s.preset s.receivingPreset).network ≠ some (networkOf (bytes.map dataBits)))
    (ha : s.tsc.active = none) :
    ∃ t, exec (.packetArrival bytes) s = .next t ∧
      t.preset s.receivingPreset = { s.preset s.receivingPreset with network := some (networkOf (bytes.map dataBits)) } ∧
      (∀ n, n ≠ s.receivingPreset → t.preset n = s.preset n) ∧ t.tun.lastChanged = s.receivingPreset ∧
      t.tun.tuned = s.tun.tuned ∧ t.mec = s.mec ∧ t.tar = s.tar ∧ t.clk = s.clk ∧ t.tsc = s.tsc ∧ t.pwr = s.pwr := by
  obtain ⟨h1, h2, h3, h4⟩ := learnCode_preset hr hn (t := transmit (labelKept (bytes.map dataBits) s)) (by simp [labelKept])
  exact ⟨_, exec_label hg hq ht ha, h1, h2, h3, h4, by simp [labelKept]⟩

/-! ### TIME (R138, R139) -/

/-- CLK holds a candidate that a time agrees with, under the BROADCAST source, with no visit wanted and nothing planned. -/
structure Validates (utc : Nat) (o : Int) (k : Candidate) (s : State) : Prop where
  quiet : s.reports = []
  candidate : s.clk.candidate = some k
  agrees : k.agrees utc = true
  mode : s.pwr.mode = .on
  source : s.clk.source = .broadcast
  syncOff : s.clk.syncOn = false
  request : s.clk.request = .none
  active : s.tsc.active = none
  plan : s.tsc.plan = []
  unarmed : ∀ n, (s.slot n).state ≠ .armed
  low : 0 ≤ (utc : Int) + o * 900
  high : (utc : Int) + o * 900 < rangeSeconds

/-- CLK's record with the candidate gone. -/
def Clk.dropped (c : Clk) : Clk := { c with candidate := none }

variable {utc : Nat} {o : Int} {sm : Bool}

theorem transmit_clk (s : State) : (transmit s).clk = s.clk := by simp

/-- CLK's record once a reading is taken and the visit concludes, the reading given as an instant. -/
theorem reads_concluded {c : Clk} {r : Int} {n : Nat} (h : 0 ≤ r) :
    (c.dropped.reads r.toNat (if (n % 2 == 1) = true then .summer else .standard) o).concluded =
      { c with
        candidate := none, visitAge := some 0, visitTicks := 0, retry := none, state := .broadcast,
        now := if r - c.reading < -1 ∨ 1 < r - c.reading then DateTime.ofInstant r.toNat else c.now,
        sub := if r - c.reading < -1 ∨ 1 < r - c.reading then 0 else c.sub,
        summer := if n % 2 = 1 then .summer else .standard, offset := o } := by
  have hmoved : c.dropped.movedBy r.toNat = decide (r - c.reading < -1 ∨ 1 < r - c.reading) := by
    rw [Clk.movedBy, Int.toNat_of_nonneg h]
    rfl
  rw [Clk.reads, hmoved]
  simp [Clk.concluded, Clk.dropped]

/-- The owner's time stands against the broadcast's. -/
theorem settles_stands (h : Validates utc o k s) (hs : s.clk.standsAgainst ((utc : Int) + o * 900)) :
    ∃ t, Settles 0 (timePacketTaken utc o sm true s) t ∧ t.clk = { s.clk.dropped.concluded with lastSync := .disagree } ∧
      t.stickySet .syncDisagree = true ∧ t.mec = s.mec ∧ t.tun = s.tun ∧ t.tar = s.tar ∧ t.pwr = s.pwr ∧ t.tsc = s.tsc := by
  obtain ⟨h1, h2, h3, h4, h5⟩ := syncDisagrees_spec (s := s.mapClk Clk.dropped) h.request
  have htake : timePacketTaken utc o sm true s = syncDisagrees (s.mapClk Clk.dropped) :=
    (timePacketTaken_agrees h.candidate h.agrees).trans
      (validated_stands (s := s.mapClk Clk.dropped) h.source h.low h.high hs)
  rw [htake]
  exact ⟨_, .quiet (h5.trans h.quiet), h1, h2, by simp, h3, h4, by simp, by simp⟩

/-- The clock becomes BROADCAST, and TSC rebuilds its plan with nothing to draw. -/
theorem settles_applies (h : Validates utc o k s) (hs : ¬s.clk.standsAgainst ((utc : Int) + o * 900)) :
    ∃ n t, n ≤ 2 ∧ Settles n (timePacketTaken utc o sm true s) t ∧
      t.clk = (s.clk.dropped.reads ((utc : Int) + o * 900).toNat (if sm then .summer else .standard) o).concluded ∧
      t.mec = s.mec ∧ t.tun = s.tun ∧ t.tar = s.tar ∧ t.pwr = s.pwr ∧ t.tsc.slots = s.tsc.slots := by
  obtain ⟨h1, ⟨h2, h3⟩, h4, h5⟩ := applyReading_spec (s := s.mapClk Clk.dropped) (i := ((utc : Int) + o * 900).toNat)
    (m := if sm then .summer else .standard) (o := o) h.request h.mode h.quiet
  have htake : timePacketTaken utc o sm true s =
      applyReading ((utc : Int) + o * 900).toNat (if sm then .summer else .standard) o (s.mapClk Clk.dropped) :=
    (timePacketTaken_agrees h.candidate h.agrees).trans
      (validated_applies (s := s.mapClk Clk.dropped) h.source h.low h.high hs)
  rw [← htake] at h1 h2 h3 h4 h5
  have htsc : (timePacketTaken utc o sm true s).tsc = s.tsc := by simp
  have hunplanned : (timePacketTaken utc o sm true s).Unplanned := by
    refine ⟨by rw [h1]; exact nofun, by rw [htsc, h.active], by rw [htsc, h.plan], fun n => ?_, by rw [h1]; exact h.syncOff⟩
    rw [slot_of_slots (congrArg Tsc.slots htsc)]
    exact h.unarmed n
  obtain ⟨t, ht, hk⟩ := settles_fromClock hunplanned rfl h3
  exact ⟨_, t, h2, ht, hk.clk.trans h1, by simp [hk.mec], hk.tun.trans h4, hk.tar.trans h5, by simp [hk.pwr],
    by simp [hk.slots]⟩

end

end Sys2Proof.Machine

namespace Sys2Proof.Proofs
open Sys2Proof.Machine

/-- Settles O41, by the packet's type, and then by what meets it; the PACKET notice by itself. -/
theorem packetsAreHandedOver : Obligations.PacketsAreHandedOver := by
  refine ⟨fun bytes s hq hlen hsig hodd => ?_, fun s hline hawake hparts hreply hp hlower hm => ?_⟩
  · intro data at' code seg new stored
    have hg : GoodPacket bytes s := ⟨hlen, hodd, hsig⟩
    refine ⟨fun ht hd => ?_, fun ht ha hc hs => ?_, fun ht ha hc hs => ?_, fun d ht hd hlow hhigh hsrc hsel => ?_,
      fun ht hr hn ha hsel => ?_, fun ht hr ha => ?_, fun h1 h2 h3 => ?_⟩
    · exact exec_name_incomplete hg hq ht (named_starts hd) nofun
    · exact exec_name_incomplete hg hq ht (named_joins ha hc hs) (ha.trans_ne nofun)
    · obtain ⟨hasm, hstored⟩ := named_completes ha hc hs
      obtain ⟨t, hexec, htasm, hchars, htun, hrest⟩ := exec_name_completes hg hq ht (ha.trans_ne nofun) hasm hstored
      obtain ⟨hother, hnamed⟩ := learnName_outcome htun
      refine ⟨t, hexec, htasm, hchars, ⟨hother, fun hn _ => hnamed hn⟩, ?_, hrest⟩
      rw [htun, learnName_tuned]
      rfl
    · have htime : TimePacket bytes d s := ⟨hg, ht, hd, hlow, hhigh, hsrc, hsel⟩
      constructor
      · intro hc
        refine exec_time htime hq ?_ (Nat.zero_le 2)
        rw [timePacketTaken_first hc]
        exact .quiet hq
      · intro k hk hmode hb hsync hreq ha hplan harmed hx1 hx2 r diff h0 hr concluded moved
        have hv : Validates d.instant (signed7 (at' 8)) k s :=
          ⟨hq, hk, decide_eq_true ⟨hx1, hx2⟩, hmode, hb, hsync, hreq, ha, hplan, harmed, h0, hr⟩
        refine ⟨fun hs => ?_, fun hman hfar => ?_⟩
        · obtain ⟨n, t, hn, ht, hclk, hkept⟩ := settles_applies hv hs
          refine ⟨_, exec_time htime hq ht hn, ?_, by simpa using hkept⟩
          rw [transmit_clk, hclk]
          exact reads_concluded h0
        · obtain ⟨t, ht, hclk, hsticky, hkept⟩ := settles_stands hv ⟨hman, hfar⟩
          exact ⟨_, exec_time htime hq ht (Nat.zero_le 2), (transmit_clk t).trans hclk, by simpa using hsticky,
            by simpa using hkept⟩
    · exact exec_label_learns hg hq ht hr hn ha
    · intro opened item captured
      have hexec := exec_label hg hq ht ha
      rw [labelKept_unreceived hr] at hexec
      refine ⟨fun hc => ?_, fun ho hf => ?_, fun ho hf hb => ?_, fun ho hf hb => ?_⟩
      · rw [captureOffer_closed (Bool.eq_false_iff.mpr (mt takesLabel_iff.mp hc))] at hexec
        exact hexec
      · rw [captureOffer_open (takesLabel_iff.mpr ho), captureEnter_front _ (by exact hf), raise_on (by exact ho.2.1)] at hexec
        exact hexec
      · rw [captureOffer_open (takesLabel_iff.mpr ho), captureEnter_back _ (by exact hf) (by exact hb)] at hexec
        exact hexec
      · rw [captureOffer_open (takesLabel_iff.mpr ho), captureEnter_overrun _ (by exact hf) (by exact hb)] at hexec
        exact hexec
    · rw [exec_packetArrival, packetArrives_otherType hg h1 h2 h3, done_quiet hq]
  · rw [transmit_begins hline hawake hparts hreply (firstNotice_packet hp hlower)]
    exact beginNotice_packet_spec hawake hm

end Sys2Proof.Proofs
end

section
/-! SUPPORT. SYNC in the arbiter: an order that is not RECORD's, the grant with its order, and what CLK makes of the grant and of a
request that fails (R88, R106 to R108, R137). -/

namespace Sys2Proof.Machine

section
variable {s u : State} {h : Holder} {o : Order} {n : Nat} {r : SyncResult}

/-! ### An order that is not RECORD's (R88, R108) -/

/-- An order of another holder than RECORD passes no completion on, and makes the tuning that holder's at most. -/
theorem giveOrder_other (hh : s.tar.holder ≠ .record) :
    (giveOrder h o s).2.reports = s.reports ∧ ∃ x, (giveOrder h o s).2.tar = { s.tar with orderOf := x } := by
  have htar : ∃ x, (orderFor h o s).2.tar = { s.tar with orderOf := x } := by
    unfold orderFor
    dsimp only
    split
    · exact ⟨s.tar.orderOf, by simp⟩
    · exact ⟨h, by simp [orderIs]⟩
  have hrep : (orderFor h o s).2.reports = s.reports := by
    unfold orderFor
    dsimp only
    split <;> simp [orderIs]
  have hpass : (giveOrder h o s).2 = (orderFor h o s).2 := by
    have hnot : (orderFor h o s).2.tar.holder ≠ .record := by
      obtain ⟨x, hx⟩ := htar
      simpa [hx] using hh
    simp only [giveOrder, answerPassed]
    split
    · exact completionPassed_other hnot _
    · rfl
    · rfl
  rw [hpass]
  exact ⟨hrep, htar⟩

/-- An order that names a preset or a frequency is taken, and tunes it where nothing is tuned. -/
theorem giveOrder_taken {src : Source} {freq : Nat} {fine : Int} (ht : s.orderTarget o = some (src, n, freq, fine)) :
    (giveOrder h o s).1 = true ∧ (giveOrder h o s).2.tun.tuned.preset = n ∧
    (s.tun.tuned.state = .none → (giveOrder h o s).2.tun.tuned.state = .settling) := by
  by_cases htuned : s.tun.tunedTo freq
  · have hstate : s.tun.tuned.state ≠ .none := by
      rcases htuned.1 with hs | hs <;> simp [hs]
    simp only [giveOrder, orderFor, tuneOrder_done ht htuned]
    simp [answerPassed, orderIs, Tun.renamed, hstate]
  · simp only [giveOrder, orderFor, tuneOrder_begun ht htuned]
    simp [answerPassed, orderIs, Tun.tunes]

@[simp] theorem retuned_sans (s : State) : (retuned s).lnk.sansNotices = s.lnk.sansNotices := by
  simp [retuned, assemblyRestart, captureEmpty, withdraw, Lnk.sansNotices]

@[simp] theorem giveOrder_sans (h : Holder) (o : Order) (s : State) :
    (giveOrder h o s).2.lnk.sansNotices = s.lnk.sansNotices := by
  have htune : (tuneOrder o s).2.lnk.sansNotices = s.lnk.sansNotices := by
    unfold tuneOrder
    split
    · rfl
    · dsimp only
      split <;> simp [tuneTo]
  have horder : (orderFor h o s).2.lnk.sansNotices = s.lnk.sansNotices := by
    unfold orderFor
    dsimp only
    split <;> simpa [orderIs] using htune
  have hpass : ∀ (a : TuneAnswer) (u : State), (answerPassed a u).lnk = u.lnk := fun a u => by
    cases a <;> simp [answerPassed]
  simp only [giveOrder, hpass, horder]

@[simp] theorem grantView_sans (c : Channel) (s : State) : (grantView c s).lnk.sansNotices = s.lnk.sansNotices := by
  simp [grantView]

/-! ### SYNC is granted (R89, R106) -/

/-- SYNC's order stands for the lowest time-source preset (R89). -/
theorem orderTarget_sync (hn : s.syncPreset = some n) :
    s.orderTarget .sync = some (.preset, n, (s.preset n).freq, (s.preset n).fine) := by
  have hused : (s.preset n).used = true := by
    have := List.find?_some (p := fun m => (s.preset m).used && (s.preset m).timeSource) hn
    simp_all
  simp [State.orderTarget, hn, hused]

/-- SYNC holds the tuner with both its timers running, waits no more, and CLK is told. -/
def syncHeld (s : State) : State :=
  deckPowerUp (report .syncGranted (setHolder .sync (s.mapTar fun t =>
    { t with syncWait := false, waitTimer := false, minHold := true, holdLimit := true })))

theorem syncHeld_spec (hd : s.pwr.deckUp = true) :
    (syncHeld s).tar =
      { s.tar with holder := .sync, syncWait := false, waitTimer := false, minHold := true, holdLimit := true } ∧
    (syncHeld s).tun = s.tun ∧ (syncHeld s).mec = s.mec ∧ (syncHeld s).clk = s.clk ∧ (syncHeld s).tsc = s.tsc ∧
    (syncHeld s).reports = s.reports ++ [.syncGranted] := by
  rw [syncHeld, deckPowerUp_up (by simpa using hd)]
  simp

/-- What a grant to SYNC makes of the state, where a time-source preset exists. -/
structure SyncGranted (n : Nat) (s u : State) : Prop where
  holder : u.tar.holder = .sync
  syncWait : u.tar.syncWait = false
  waitTimer : u.tar.waitTimer = false
  minHold : u.tar.minHold = true
  holdLimit : u.tar.holdLimit = true
  preset : u.tun.tuned.preset = n
  settling : s.tun.tuned.state = .none → u.tun.tuned.state = .settling
  mec : u.mec = s.mec
  clk : u.clk = s.clk
  tsc : u.tsc = s.tsc
  reports : u.reports = s.reports ++ [.syncGranted]

theorem grantSync_granted (hd : s.pwr.deckUp = true) (hn : s.syncPreset = some n) : SyncGranted n s (grantSync s) := by
  obtain ⟨htar, htun, hmec, hclk, htsc, hrep⟩ := syncHeld_spec hd
  obtain ⟨htaken, hpreset, hsettling⟩ := giveOrder_taken (h := .sync) ((orderTarget_congr htun _).trans (orderTarget_sync hn))
  obtain ⟨hquiet, x, hgiven⟩ := giveOrder_other (s := syncHeld s) (h := .sync) (o := .sync) (by simp [htar])
  have hgrant : grantSync s = (giveOrder .sync .sync (syncHeld s)).2 := if_pos htaken
  rw [hgrant]
  constructor
  case preset => exact hpreset
  case settling => exact fun hs => hsettling (by rw [htun, hs])
  case reports => rw [hquiet, hrep]
  all_goals simp [hgiven, htar, hmec, hclk, htsc]

theorem SyncGranted.replied (hg : SyncGranted n s u) (b : ReplyBody) : SyncGranted n s (replyOk b u) :=
  ⟨hg.holder, hg.syncWait, hg.waitTimer, hg.minHold, hg.holdLimit, hg.preset, hg.settling, hg.mec, hg.clk, hg.tsc, hg.reports⟩

/-- What a command that grants SYNC leaves, once CLK has been told (R137). -/
structure SyncHolds (n : Nat) (s t : State) : Prop where
  holder : t.tar.holder = .sync
  syncWait : t.tar.syncWait = false
  waitTimer : t.tar.waitTimer = false
  minHold : t.tar.minHold = true
  holdLimit : t.tar.holdLimit = true
  preset : t.tun.tuned.preset = n
  settling : s.tun.tuned.state = .none → t.tun.tuned.state = .settling
  mec : t.mec = s.mec
  clk : t.clk = { s.clk with request := .holding }
  tsc : t.tsc = s.tsc

/-- CLK's request, which TAR told it holds the tuner, is HOLDING (R137). -/
theorem SyncGranted.taken (hg : SyncGranted n s u) :
    SyncHolds n s (takeReport .syncGranted (u.awaits [])) ∧ (takeReport .syncGranted (u.awaits [])).reports = [] := by
  have htake : takeReport .syncGranted (u.awaits []) = (u.awaits []).mapClk fun c => { c with request := .holding } :=
    if_pos (by simp [hg.holder])
  rw [htake]
  refine ⟨⟨?_, ?_, ?_, ?_, ?_, ?_, fun hs => ?_, ?_, ?_, ?_⟩, rfl⟩
  case refine_7 => simpa using hg.settling hs
  all_goals simp [hg.holder, hg.syncWait, hg.waitTimer, hg.minHold, hg.holdLimit, hg.preset, hg.mec, hg.clk, hg.tsc]

theorem SyncHolds.transmit (h : SyncHolds n s u) : SyncHolds n s (transmit u) :=
  ⟨by simp [h.holder], by simp [h.syncWait], by simp [h.waitTimer], by simp [h.minHold], by simp [h.holdLimit],
    by simp [h.preset], fun hs => by simp [h.settling hs], by simp [h.mec], by simp [h.clk], by simp [h.tsc]⟩

/-! ### A request of CLK's fails (R137) -/

/-- The clock record after a request that was granted or waited has failed: the retry timer starts. -/
def Clk.failed (r : SyncResult) (c : Clk) : Clk := { c with retry := some 0, request := .none, lastSync := r }

@[simp] theorem syncFailed_clk (r : SyncResult) (s : State) : (syncFailed r s).clk = s.clk.failed r := by
  simp [syncFailed, requestOver, Clk.failed]

/-- A command that tells CLK of a failed request alone. -/
theorem done_syncFails (hq : s.reports = [.syncResult r]) :
    done s = .next (transmit (syncFailed r (s.awaits []))) :=
  done_one hq rfl (by simp)

/-- In ON, the power-down test that an ended SYNC leads to finds nothing to do. -/
theorem done_syncEnds (hq : s.reports = [.syncResult r, .downTest]) (hm : s.pwr.mode = .on) :
    done s = .next (transmit (syncFailed r (s.awaits [.downTest])).heard) := by
  have hidle : ∀ x ∈ [Report.downTest], IdleReport (syncFailed r (s.awaits [.downTest])) x := by
    simpa using idle_downTest (s := syncFailed r (s.awaits [.downTest])) (by simpa using hm)
  have hset : Settles 1 (syncFailed r (s.awaits [.downTest])) (syncFailed r (s.awaits [.downTest])).heard :=
    settles_idle (by simp) hidle
  exact done_of_settles (settles_take hq hset) (by decide)

@[simp] theorem syncFailed_sans (r : SyncResult) (s : State) :
    (syncFailed r s).lnk.sansNotices = s.lnk.sansNotices := by
  simp [syncFailed, requestOver]

end

end Sys2Proof.Machine
end

section
/-! The arbiter's timers, and VIEW_END with SYNC waiting (R104, R106, R107). -/

namespace Sys2Proof.Machine

section
variable {s : State} {n : Nat} {c : Channel}

theorem exec_syncWaitLimit (s : State) : exec .syncWaitLimit s = done (waitLimitReached s) := rfl

theorem exec_minimumHoldExpiry (s : State) : exec .minimumHoldExpiry s = done (minimumHoldOver s) := rfl

theorem exec_holdLimitExpiry (s : State) : exec .holdLimitExpiry s = done (holdLimitOver s) := rfl

/-! ### The wait limit (R106) -/

/-- The waiting SYNC is taken away. -/
def syncWaitTaken (s : State) : State :=
  s.mapTar fun t => { t with syncWait := false, waitTimer := false, lastSync := .waitLimit }

theorem waitLimitReached_waiting (h : s.tar.waitTimer = true) :
    waitLimitReached s = report (.syncResult .waitLimit) (syncWaitTaken s) := if_pos h

theorem syncWaitLimit_fails (hq : s.reports = []) (h : s.tar.waitTimer = true) :
    exec .syncWaitLimit s =
      .next (transmit (syncFailed .waitLimit ((report (.syncResult .waitLimit) (syncWaitTaken s)).awaits []))) := by
  rw [exec_syncWaitLimit, waitLimitReached_waiting h, done_syncFails (r := .waitLimit) (by simp [syncWaitTaken, hq])]

/-! ### The minimum hold (R107) -/

/-- The minimum hold is over. -/
def holdOver (s : State) : State := s.mapTar fun t => { t with minHold := false }

theorem minimumHoldOver_alone (h : s.tar.minHold = true) (hw : s.tar.hostWait = none) : minimumHoldOver s = holdOver s := by
  simp [minimumHoldOver, when, h, hw, holdOver]

/-- The host's request is not waiting any more, and SYNC has ended for it. -/
def syncYields (s : State) : State := (syncEnds .abandoned (holdOver s)).mapTar fun t => { t with hostWait := none }

@[simp] theorem syncYields_frame (s : State) :
    (syncYields s).tar =
      { s.tar with hostWait := none, minHold := false, holdLimit := false, lastSync := .abandoned } ∧
    (syncYields s).mec = s.mec ∧ (syncYields s).clk = s.clk ∧ (syncYields s).tsc = s.tsc ∧ (syncYields s).pwr = s.pwr ∧
    (syncYields s).lnk = s.lnk ∧ (syncYields s).reports = s.reports ++ [.syncResult .abandoned, .downTest] := by
  simp [syncYields, syncEnds, holdOver]

/-- The VIEW request that waited is granted, and its reply is ready. -/
def viewYielded (c : Channel) (s : State) : State := replyAccepted .tuned (grantView c (syncYields s))

theorem minimumHoldOver_view (h : s.tar.minHold = true) (hw : s.tar.hostWait = some (.view c)) :
    minimumHoldOver s = viewYielded c s := by
  simp [minimumHoldOver, when, h, hw, grantHostWait, syncEnds, syncYields, holdOver, viewYielded]

/-- A grant to VIEW, also for an EMPTY preset, and with no completion passed on. -/
theorem grantView_tar (c : Channel) (s : State) :
    (grantView c s).reports = s.reports ∧
    ∃ x, (grantView c s).tar = { s.tar with holder := .view, view := some c, orderOf := x } := by
  obtain ⟨hrep, x, htar⟩ := giveOrder_other (s := viewHeld c s) (h := .view) (o := c.order) (by simp)
  rw [grantView_eq]
  exact ⟨by simpa using hrep, x, by simp [htar]⟩

theorem viewYielded_spec (c : Channel) (s : State) :
    (viewYielded c s).mec = s.mec ∧ (viewYielded c s).clk = s.clk ∧ (viewYielded c s).tsc = s.tsc ∧
    (viewYielded c s).pwr = s.pwr ∧ (viewYielded c s).reports = s.reports ++ [.syncResult .abandoned, .downTest] ∧
    (viewYielded c s).lnk.line = s.lnk.line ∧ (viewYielded c s).lnk.reply = some (.accepted .tuned) ∧
    ∃ x, (viewYielded c s).tar = { s.tar with
      holder := .view, view := some c, hostWait := none, minHold := false, holdLimit := false, lastSync := .abandoned,
      orderOf := x } := by
  obtain ⟨hrep, x, htar⟩ := grantView_tar c (syncYields s)
  have hline : (grantView c (syncYields s)).lnk.line = s.lnk.line :=
    Lnk.line_of_sans ((grantView_sans c (syncYields s)).trans (by simp))
  exact ⟨by simp [viewYielded], by simp [viewYielded], by simp [viewYielded], by simp [viewYielded], by simp [viewYielded, hrep],
    hline, rfl, x, by simp [viewYielded, htar]⟩

/-- SYNC gives way to the VIEW request that waits. -/
theorem minimumHold_yields (hq : s.reports = []) (hm : s.pwr.mode = .on) (h : s.tar.minHold = true)
    (hw : s.tar.hostWait = some (.view c)) :
    ∃ t, exec .minimumHoldExpiry s = .next t ∧ t.tar = (viewYielded c s).tar ∧ t.clk = s.clk.failed .abandoned ∧
      (s.lnk.line.isSome → t.lnk.reply = some (.accepted .tuned)) ∧ t.mec = s.mec ∧ t.tsc = s.tsc := by
  obtain ⟨hmec, hclk, htsc, hpwr, hrep, hline, hreply, -⟩ := viewYielded_spec c s
  have hdone := done_syncEnds (s := viewYielded c s) (r := .abandoned) (by simp [hrep, hq]) (by rw [hpwr, hm])
  refine ⟨_, by rw [exec_minimumHoldExpiry, minimumHoldOver_view h hw, hdone], by simp, by simp [hclk], fun hl => ?_,
    by simp [hmec], by simp [htsc]⟩
  have hsans := syncFailed_sans .abandoned ((viewYielded c s).awaits [.downTest])
  rw [transmit_busy (by simpa [Lnk.line_of_sans hsans, hline] using hl)]
  simp [Lnk.reply_of_sans hsans, hreply]

/-! ### VIEW_END with SYNC waiting (R104, R106) -/

theorem tunerFree_waiting (h : s.tar.syncWait = true) : tunerFree s = grantSync (setHolder .none s) := by
  simp [tunerFree, h]

/-- The request is held, and the tuner free of the view. -/
def viewFreed (s : State) : State := setHolder .none (s.holding 0x24)

@[simp] theorem viewFreed_frame (s : State) :
    (viewFreed s).mec = s.mec ∧ (viewFreed s).tun = s.tun ∧ (viewFreed s).clk = s.clk ∧ (viewFreed s).tsc = s.tsc ∧
    (viewFreed s).pwr = s.pwr ∧ (viewFreed s).reports = s.reports := by
  simp [viewFreed]

theorem viewEnd_grantsSync (hl : s.Listens) (hq : s.reports = []) (hh : s.tar.holder = .view) (hw : s.tar.syncWait = true)
    (hd : s.pwr.deckUp = true) (hn : s.syncPreset = some n) :
    ∃ t, exec .viewEnd s = .next t ∧ SyncHolds n (viewFreed s) t := by
  have hpreset : (viewFreed s).syncPreset = some n := by
    simpa [State.syncPreset, preset_congr (s := s) (t := viewFreed s) (by simp)] using hn
  have hg : SyncGranted n (viewFreed s) (replyOk .empty (grantSync (viewFreed s))) :=
    (grantSync_granted (by simpa using hd) hpreset).replied .empty
  have hreq : reqViewEnd (s.holding 0x24) = replyOk .empty (grantSync (viewFreed s)) := by
    simp [reqViewEnd, viewEnds, hh, tunerFree_waiting, hw, viewFreed]
  obtain ⟨hholds, hquiet⟩ := hg.taken
  refine ⟨_, ?_, hholds.transmit⟩
  rw [exec_request (i := .viewEnd) rfl, arrives_listened hl]
  exact (congrArg done hreq).trans (done_one (r := .syncGranted) (hg.reports.trans (by simp [hq])) rfl hquiet)

/-! ### The hold limit (R107) -/

theorem holdLimitOver_holding (h : s.tar.holdLimit = true) (hw : s.tar.syncWait = false) :
    holdLimitOver s = setHolder .none (syncEnds .timeout s) := by
  rw [holdLimitOver, h, when_true, tunerFree_eq (by simp [syncEnds, hw])]

end

end Sys2Proof.Machine

namespace Sys2Proof.Proofs
open Sys2Proof.Machine

/-- Settles O39, timer by timer: each that runs ends SYNC, its wait or its hold, and one that is stopped calls for nothing. -/
theorem syncTimersEndSync : Obligations.SyncTimersEndSync := by
  intro s hq hm
  refine ⟨fun h => ?_, fun h hw => ?_, fun c h hw => ?_, fun n hl hh hw hd hn => ?_, fun h hw => ?_, fun h => ?_, fun h => ?_,
    fun h => ?_⟩
  · exact ⟨_, syncWaitLimit_fails hq h, by simp [syncWaitTaken, Clk.failed]⟩
  · rw [exec_minimumHoldExpiry, minimumHoldOver_alone h hw, done_quiet (by exact hq)]
    rfl
  · obtain ⟨t, hexec, htar, hclk, hreply, hmec, htsc⟩ := minimumHold_yields hq hm h hw
    obtain ⟨-, -, -, -, -, -, -, x, hyielded⟩ := viewYielded_spec c s
    refine ⟨t, hexec, ?_⟩
    simpa [htar, hyielded, hclk, hmec, htsc, Clk.failed] using hreply
  · obtain ⟨t, hexec, h⟩ := viewEnd_grantsSync hl hq hh hw hd hn
    refine ⟨t, hexec, h.holder, h.syncWait, h.waitTimer, h.minHold, h.holdLimit, by rw [h.clk], h.preset, ?_, ?_⟩
    · simpa using h.mec
    · simpa using h.tsc
  · refine ⟨_, by rw [exec_holdLimitExpiry, holdLimitOver_holding h hw, done_syncEnds (r := .timeout) (by simp [syncEnds, hq])
      (by simp [hm])], ?_⟩
    simp [syncEnds, Clk.failed]
  · rw [exec_syncWaitLimit, waitLimitReached, h, when_false, done_quiet hq]
  · rw [exec_minimumHoldExpiry, minimumHoldOver, h, when_false, done_quiet hq]
  · rw [exec_holdLimitExpiry, holdLimitOver, h, when_false, done_quiet hq]

end Sys2Proof.Proofs
end

section
/-! The limits of CLK's visits: the candidate's age, the visit age and the retry timer (R136 to R138). -/

namespace Sys2Proof.Machine

section
variable {s : State} {n : Nat}

theorem exec_candidateExpiry (s : State) : exec .candidateExpiry s = done (candidateExpires s) := rfl

theorem exec_visitAgeLimit (s : State) : exec .visitAgeLimit s = done (visitAgeReached s) := rfl

theorem exec_syncRetryExpiry (s : State) : exec .syncRetryExpiry s = done (retryExpires s) := rfl

/-! ### What the limits make of CLK's record -/

/-- The visit age stands at its limit. -/
def visitAged (s : State) : State := s.mapClk fun c => { c with visitAge := some 360, visitTicks := 0 }

/-- The retry timer is stopped. -/
def retryOver (s : State) : State := s.mapClk fun c => { c with retry := none }

theorem visitAgeReached_below {a : Nat} (h : s.clk.visitAge = some a) (ha : a < 360) :
    visitAgeReached s = report .visitTest (visitAged s) := by
  simp [visitAgeReached, h, ha, visitAged]

theorem visitAgeReached_idle (h : s.clk.visitAge = none ∨ s.clk.visitAge = some 360) : visitAgeReached s = s := by
  rcases h with h | h <;> simp [visitAgeReached, h]

theorem retryExpires_running (h : s.clk.retry.isSome) : retryExpires s = report .visitTest (retryOver s) := by
  rw [retryExpires, h, when_true]
  rfl

theorem retryExpires_idle (h : s.clk.retry = none) : retryExpires s = s := by simp [retryExpires, h, when]

/-! ### The test that follows (R136) -/

/-- With sync off the test finds nothing to do. -/
theorem done_visitTest_off (hq : s.reports = []) (hoff : s.clk.syncOn = false) :
    done (report .visitTest s) = .next (transmit s) := by
  have hidle : ∀ r ∈ [Report.visitTest], IdleReport (report .visitTest s) r := by
    simpa using idle_visitTest (s := report .visitTest s) (by simpa using hoff)
  rw [done_idle (by simp [hq]) hidle (by decide)]
  exact congrArg (fun u => Host.Outcome.next (transmit u)) (heard_quiet hq)

/-- A visit is wanted, no request for one is under way, and the tuner is free. -/
structure State.VisitWanted (n : Nat) (s : State) : Prop where
  due : s.visitDue = true
  request : s.clk.request = .none
  holder : s.tar.holder = .none
  deckUp : s.pwr.deckUp = true
  source : s.syncPreset = some n

/-- The test requests SYNC, which is granted at once. -/
theorem State.VisitWanted.tests (h : s.VisitWanted n) :
    visitTest s = (grantSync s).mapClk fun c => { c with request := .holding } := by
  have hg := grantSync_granted h.deckUp h.source
  simp [visitTest, h.due, h.request, requestSync, h.holder, hg.syncWait]

/-- A limit that a visit waited for leads to the grant. -/
theorem State.VisitWanted.leads (h : s.VisitWanted n) (hq : s.reports = []) :
    ∃ t, done (report .visitTest s) = .next t ∧ SyncHolds n (s.mapClk fun c => { c with request := .holding }) t := by
  have hw : ((report .visitTest s).awaits []).VisitWanted n := ⟨h.due, h.request, h.holder, h.deckUp, h.source⟩
  obtain ⟨h1, h2, h3, h4, h5, h6, h7, h8, h9, h10, h11⟩ := grantSync_granted hw.deckUp hw.source
  have hg : SyncGranted n (s.mapClk fun c => { c with request := .holding })
      (takeReport .visitTest ((report .visitTest s).awaits [])) := by
    rw [show takeReport .visitTest ((report .visitTest s).awaits []) = _ from hw.tests]
    exact ⟨h1, h2, h3, h4, h5, h6, h7, h8, congrArg (fun c => { c with request := .holding }) h9, h10, h11.trans (by simp [hq])⟩
  obtain ⟨hholds, hquiet⟩ := hg.taken
  have hset := settles_take (n := 0) (hg.reports.trans (by simp [hq])) (.quiet hquiet)
  exact ⟨_, done_of_settles (settles_take (by simp [hq]) hset) (by decide), hholds.transmit⟩

end

end Sys2Proof.Machine

namespace Sys2Proof.Proofs
open Sys2Proof.Machine

/-- Settles O46: each limit by its own row, and the visit test that two of them lead to. -/
theorem syncLimitsLeadToAVisit : Obligations.SyncLimitsLeadToAVisit := by
  intro s hq
  refine ⟨?_, fun hoff => ⟨fun a ha hlt => ?_, fun e he => ?_⟩, fun h => ?_, fun h => ?_, fun h => ?_, ?_⟩
  · rw [exec_candidateExpiry]
    exact done_quiet (by exact hq)
  · rw [exec_visitAgeLimit, visitAgeReached_below ha hlt, done_visitTest_off (by exact hq) (by exact hoff)]
    rfl
  · rw [exec_syncRetryExpiry, retryExpires_running (by simp [he]), done_visitTest_off (by exact hq) (by exact hoff)]
    rfl
  · rw [exec_visitAgeLimit, visitAgeReached_idle (.inl h), done_quiet hq]
  · rw [exec_visitAgeLimit, visitAgeReached_idle (.inr h), done_quiet hq]
  · rw [exec_syncRetryExpiry, retryExpires_idle h, done_quiet hq]
  · intro n hon hsrc hm hd hreq hh hn hfree
    refine ⟨fun hr ha => ?_, fun hr ha => ?_⟩
    · have hw : (visitAged s).VisitWanted n :=
        ⟨by simp [State.visitDue, visitAged, hon, hsrc, hr, hm], hreq, hh, hd, hn⟩
      obtain ⟨t, hexec, h⟩ := hw.leads hq
      refine ⟨t, by rw [exec_visitAgeLimit, visitAgeReached_below ha (by decide), hexec], h.holder, h.minHold, h.holdLimit,
        by rw [h.clk], h.preset, h.settling hfree, h.mec, h.tsc⟩
    · have hw : (retryOver s).VisitWanted n :=
        ⟨by simp [State.visitDue, retryOver, hon, hsrc, ha, hm], hreq, hh, hd, hn⟩
      obtain ⟨t, hexec, h⟩ := hw.leads hq
      refine ⟨t, by rw [exec_syncRetryExpiry, retryExpires_running hr, hexec], h.holder, h.minHold, h.holdLimit,
        by rw [h.clk], by rw [h.clk]; rfl, h.preset, h.settling hfree, h.mec, h.tsc⟩

end Sys2Proof.Proofs
end

section
/-! SUPPORT. The arming test and the entry into ARMING: which entries become NEXT, what the checks of the first due entry look at,
and the record that ARMING leaves (R150, R164, R165). -/

namespace Sys2Proof.Machine

section
variable {s : State} {a : Active} {e f : PlanEntry} {rest : List PlanEntry} {o : OccOutcome} {tuner : State → State}

/-! ### The rows of the plan's moments -/

theorem exec_armingMoment (hm : s.pwr.mode = .on) : exec .armingMoment s = done (armingTest s) := by
  change done (when (s.pwr.mode != .backup) armingTest s) = _
  rw [hm]
  rfl

theorem exec_windowEnd (hm : s.pwr.mode = .on) : exec .windowEnd s = done (windowsClose s) := by
  change done (when (s.pwr.mode != .backup) windowsClose s) = _
  rw [hm]
  rfl

/-! ### The due entries become NEXT (R164) -/

/-- The due entries are NEXT, and PLAN is raised where there is one. -/
def dueWaits (s : State) : State :=
  raiseIf (!(s.tsc.plan.filter (PlanEntry.due s.clk)).isEmpty) .plan
    (s.mapTsc fun t => { t with plan := t.plan.map (PlanEntry.waits s.clk) })

@[simp] theorem dueWaits_frame (s : State) :
    (dueWaits s).mec = s.mec ∧ (dueWaits s).srv = s.srv ∧ (dueWaits s).ctu = s.ctu ∧ (dueWaits s).tun = s.tun ∧
    (dueWaits s).tar = s.tar ∧ (dueWaits s).clk = s.clk ∧ (dueWaits s).pwr = s.pwr ∧ (dueWaits s).reports = s.reports ∧
    (dueWaits s).lnk.sansNotices = s.lnk.sansNotices ∧
    (dueWaits s).tsc = { s.tsc with plan := s.tsc.plan.map (PlanEntry.waits s.clk) } := by
  simp [dueWaits]

@[simp] theorem dueWaits_slot (s : State) (n : Nat) : (dueWaits s).slot n = s.slot n := slot_of_slots (by simp) n

/-- With none active the first due entry arms, its tuner's request prepared from its slot. -/
theorem armingTest_first (hd : s.tsc.plan.filter (PlanEntry.due s.clk) = e :: rest) (ha : s.tsc.active = none) :
    armingTest s = armEntry (requestRecord (s.slot e.slot).preset) e (dueWaits s) := by
  unfold armingTest dueWaits
  dsimp only
  rw [hd, ha]
  rfl

/-- With an occurrence active the due entries are NEXT at the end of the command, and nothing else has changed. -/
theorem armingMoment_active (hq : s.reports = []) (hm : s.pwr.mode = .on) (ha : s.tsc.active = some a) :
    exec .armingMoment s = .next (transmit (dueWaits s)) := by
  rw [exec_armingMoment hm, armingTest_active ha]
  exact done_quiet (by simpa using hq)

/-- The link as the due entries become NEXT: PLAN is pending where one is due and the mask enables it (R197). -/
theorem dueWaits_eq (hm : s.pwr.mode = .on) :
    dueWaits s = { s with
      tsc := { s.tsc with plan := s.tsc.plan.map (PlanEntry.waits s.clk) },
      lnk := if s.tsc.plan.any (PlanEntry.due s.clk) then
          { s.lnk with notices := s.lnk.notices ||| (0x100#12 &&& s.lnk.mask) } else s.lnk } := by
  have hany : (!(s.tsc.plan.filter (PlanEntry.due s.clk)).isEmpty) = s.tsc.plan.any (PlanEntry.due s.clk) := by
    rw [Bool.eq_iff_iff]
    simp
  unfold dueWaits
  rw [hany]
  cases s.tsc.plan.any (PlanEntry.due s.clk) with
  | false => rfl
  | true => exact raise_on (by exact hm) .plan

/-! ### ARMING is entered (R150, R158) -/

/-- TSC's record once an entry is armed: the slot's history, the new active occurrence, and the entry's state in the plan. -/
theorem armedFor_tsc (f : PlanEntry) (s : State) :
    (armedFor f s).tsc = { (mapSlot f.slot (fun l => l.armed f.date) s).tsc with
      active := some (Active.start f),
      plan := s.tsc.plan.map fun e => if e.is f.slot f.date then { e with state := .arming } else e } := by
  rw [armedFor, setOccState_eq (a := Active.start f) rfl]
  simp [mapEntry, mapActive, Active.start]
  exact fun _ _ => rfl

@[simp] theorem armedFor_frame (f : PlanEntry) (s : State) :
    (armedFor f s).mec = s.mec ∧ (armedFor f s).ctu = s.ctu ∧ (armedFor f s).tun = s.tun ∧ (armedFor f s).tar = s.tar ∧
    (armedFor f s).clk = s.clk ∧ (armedFor f s).pwr = s.pwr ∧ (armedFor f s).reports = s.reports := by
  rw [armedFor, setOccState_eq (a := Active.start f) rfl]
  simp

/-! ### The checks (R165) -/

/-- The checks look at the deck, the presets and what a slot names, none of which ARMING changes. -/
theorem armChecks_armedFor (hf : f.slot < 16) : armChecks f (armedFor f s) = armChecks f s := by
  obtain ⟨hsl, -⟩ := armedFor_slot f s hf
  have hpreset : ∀ n, (armedFor f s).preset n = s.preset n := preset_congr (by simp)
  have huses : (armedFor f s).hostUses = s.hostUses := by simp [State.hostUses]
  simp only [armChecks, hsl, hpreset, huses, armedFor_frame]
  rfl

theorem armEntry_refused (hf : f.slot < 16) (hc : armChecks f s = some o) :
    armEntry tuner f s = reportFirst (.occEnd f.slot f.date o) (armedFor f s) := by
  change (match armChecks f (armedFor f s) with
    | some o => reportFirst (.occEnd f.slot f.date o) (armedFor f s)
    | none => preRoll tuner f (armedFor f s)) = _
  rw [armChecks_armedFor hf, hc]

theorem armEntry_taken (hf : f.slot < 16) (hc : armChecks f s = none) :
    armEntry tuner f s = preRoll tuner f (armedFor f s) := by
  change (match armChecks f (armedFor f s) with
    | some o => reportFirst (.occEnd f.slot f.date o) (armedFor f s)
    | none => preRoll tuner f (armedFor f s)) = _
  rw [armChecks_armedFor hf, hc]

/-- The states in which the host plays a tape with the drum turning. -/
def TState.plays (n : TState) : Prop := n = .play ∨ n = .still ∨ n = .searchFwd ∨ n = .searchRev

theorem TState.plays.playing {n : TState} (h : n.plays) : n.playing := by
  rcases h with rfl | rfl | rfl | rfl <;> rfl

theorem TState.plays.hostUses (h : s.mec.state.plays) (ho : s.mec.owner = .host) : s.hostUses = true := by
  rcases h with h | h | h | h <;> simp [State.hostUses, ho, h]

/-- In FAULT, a recording or without a cassette a check fails; elsewhere the tab, the preset and the host's use decide. -/
theorem armChecks_ready (hs : s.mec.state.Ready) (hr : s.mec.state.recordPair = false) (ht : s.mec.tab ≠ .absent)
    (hu : (s.preset (s.slot f.slot).preset).used = true) :
    armChecks f s = if s.hostUses = true ∧ (s.slot f.slot).preempt = false then some .deckInUse else none := by
  simp [armChecks, hs.fault, hs.empty, hs.ejecting, hr, ht, hu]

theorem armChecks_empty (hs : s.mec.state = .empty) : armChecks f s = some .noCassette := by
  simp [armChecks, hs, TState.recordPair]

end

end Sys2Proof.Machine
end

section
/-! SUPPORT. The pre-roll on the host's deck: the claim, the request of RECORD, and MEC's route toward RECORD_PAUSE (R13, R17, R101,
R166, R167). -/

namespace Sys2Proof.Machine

section
variable {s u v : State} {f : PlanEntry} {n : Nat} {tuner : State → State}

/-! ### The claim (R17, R166, R167) -/

/-- The entry's own grade stands in the record and in the plan, where the deck was not handed over. -/
def entryGraded (f : PlanEntry) (s : State) : State :=
  mapEntry f.slot f.date (fun x => { x with grade := f.grade }) (mapActive (fun a => { a with grade := f.grade }) s)

@[simp] theorem entryGraded_frame (f : PlanEntry) (s : State) :
    (entryGraded f s).mec = s.mec ∧ (entryGraded f s).ctu = s.ctu ∧ (entryGraded f s).tun = s.tun ∧
    (entryGraded f s).tar = s.tar ∧ (entryGraded f s).clk = s.clk ∧ (entryGraded f s).pwr = s.pwr ∧
    (entryGraded f s).reports = s.reports := by
  simp [entryGraded]

/-- The host's use of the transport goes into the shadow context. -/
def contextKept (s : State) : State := if s.hostUses then preempt s else s

@[simp] theorem contextKept_frame (s : State) :
    (contextKept s).mec = s.mec ∧ (contextKept s).ctu = s.ctu ∧ (contextKept s).tun = s.tun ∧ (contextKept s).tar = s.tar ∧
    (contextKept s).clk = s.clk ∧ (contextKept s).pwr = s.pwr ∧ (contextKept s).reports = s.reports := by
  unfold contextKept
  split <;> simp

/-- The pre-roll's first steps: the deck is powered, at the entry's grade and with the host's context kept. -/
def deckReady (f : PlanEntry) (s : State) : State := deckPowerUp (contextKept (entryGraded f s))

theorem deckReady_up (hd : s.pwr.deckUp = true) :
    deckReady f s = (contextKept (entryGraded f s)).mapPwr fun p => { p with deckUp := true, returnTimer := false } :=
  deckPowerUp_up (by simpa using hd)

/-- With nothing pending and no seek, the claim changes the owner, and no more of the deck. -/
theorem claimTransport_free (hp : s.mec.pending = none) (hk : s.ctu.seek.state = .idle) :
    claimTransport s = s.mapMec fun m => { m with owner := .timer, idle := false } := by
  simp only [claimTransport, endSeek_idle hk, hp]

/-- TSC has claimed the transport for an entry. -/
def deckTaken (f : PlanEntry) (s : State) : State := claimTransport (deckReady f s)

theorem deckTaken_spec (hp : s.mec.pending = none) (hd : s.pwr.deckUp = true) (hk : s.ctu.seek.state = .idle) :
    (deckTaken f s).mec = { s.mec with owner := .timer, idle := false } ∧ (deckTaken f s).ctu = s.ctu ∧
    (deckTaken f s).tun = s.tun ∧ (deckTaken f s).tar = s.tar ∧ (deckTaken f s).clk = s.clk ∧
    (deckTaken f s).pwr.deckUp = true ∧ (deckTaken f s).reports = s.reports ∧
    (deckTaken f s).tsc = (contextKept (entryGraded f s)).tsc := by
  have hclaim : deckTaken f s = (deckReady f s).mapMec fun m => { m with owner := .timer, idle := false } :=
    claimTransport_free (by simpa [deckReady_up hd] using hp) (by simpa [deckReady_up hd] using hk)
  rw [hclaim, deckReady_up hd]
  simp

/-- Where no standby entry waits for rest, the claim is followed by the tuner's request and the target. -/
theorem preRoll_host (ho : s.mec.owner = .host) (hd : s.pwr.deckUp = true) (he : s.pwr.entry ≠ .waitRest) :
    preRoll tuner f s = timerTarget .recordPause f.grade (tuner (deckTaken f s)) := by
  have hchain : (s.mec.owner == Owner.timer) = false := by simp [ho]
  have hwait : (deckTaken f s).pwr.entry ≠ .waitRest := by simpa [deckTaken, deckReady_up hd] using he
  unfold deckTaken deckReady contextKept entryGraded at hwait ⊢
  simp only [preRoll, hchain, Bool.false_and, Bool.false_eq_true, if_false, if_neg hwait]

/-! ### RECORD is requested (R88, R101) -/

/-- What the request of RECORD makes of a tuner that is free, or that VIEW holds. -/
structure RecordGranted (n : Nat) (u v : State) : Prop where
  mec : v.mec = u.mec
  ctu : v.ctu = u.ctu
  clk : v.clk = u.clk
  tsc : v.tsc = u.tsc
  tar : v.tar = { u.tar with
    holder := .record, origin := .timer, orderOf := .record,
    remembered := if u.tar.holder = .view then true else u.tar.remembered }
  preset : v.tun.tuned.preset = n
  begun : u.tun.tuned.state = .none → v.tun.tuned.state = .settling ∧ v.reports = u.reports
  reports : v.reports = u.reports ∨ ∃ b, v.reports = u.reports ++ [.tuningPassed b]

/-- A free tuner is taken as it is, and a viewed channel is remembered. -/
theorem recordTakes_remembers (hh : s.tar.holder = .none ∨ s.tar.holder = .view) :
    recordTakes s = s.mapTar fun t => { t with remembered := if t.holder = .view then true else t.remembered } := by
  rcases hh with hh | hh <;> simp [recordTakes, hh, State.mapTar]
  rw [← hh]

theorem requestRecord_eq (hd : u.pwr.deckUp = true) :
    requestRecord n u = recordAnswer (orderFor .record (.preset n) (recordHeld (recordTakes u))).1
      (orderFor .record (.preset n) (recordHeld (recordTakes u))).2 := by
  have hup : deckPowerUp (setHolder .record ((recordTakes u).mapTar fun t => { t with origin := .timer })) =
      recordHeld (recordTakes u) := deckPowerUp_up (by simpa using hd)
  rw [← hup]
  rfl

/-- An order for a preset that no tuning has ended for begins one (R87). -/
theorem orderFor_begins (hu : (s.preset n).used = true) (ht : s.tun.tuned.state = .none) :
    (orderFor .record (.preset n) s).1 = .begun ∧ (orderFor .record (.preset n) s).2.tun.tuned.state = .settling := by
  have ho : s.orderTarget (.preset n) = some (.preset, n, (s.preset n).freq, (s.preset n).fine) := by
    simp [State.orderTarget, hu]
  have hb := tuneOrder_begun ho (by simp [Tun.tunedTo, ht])
  simp [orderFor, hb, orderIs, Tun.tunes]

/-- What TUN answers makes reports, and leaves the arbiter's record. -/
@[simp] theorem recordAnswer_tar (a : TuneAnswer) (s : State) : (recordAnswer a s).tar = s.tar := by
  cases a <;> simp [recordAnswer, answerPassed, completionPassed]

theorem requestRecord_granted (hu : (u.preset n).used = true) (hh : u.tar.holder = .none ∨ u.tar.holder = .view)
    (hd : u.pwr.deckUp = true) : RecordGranted n u (requestRecord n u) := by
  have htakes := recordTakes_remembers hh
  have hused : ((recordHeld (recordTakes u)).preset n).used = true := by simpa [State.preset, htakes] using hu
  obtain ⟨h1, h2, -, h4, h5⟩ := orderFor_used hused
  obtain ⟨a1, -, a3, a4, a5, a6, a7⟩ := recordAnswer_answers h1 h2 (by rw [h4]; simp)
  have hheld : (recordHeld (recordTakes u)).ctu = u.ctu ∧ (recordHeld (recordTakes u)).tun = u.tun ∧
      (recordHeld (recordTakes u)).reports = u.reports ∧ (recordHeld (recordTakes u)).tar = { u.tar with
        holder := .record, origin := .timer, remembered := if u.tar.holder = .view then true else u.tar.remembered } := by
    simp [recordHeld, htakes]
  obtain ⟨c1, c2, c3, c4⟩ := hheld
  rw [requestRecord_eq hd]
  refine ⟨by rw [a1]; simp, by simp [c1], by rw [a4]; simp, by rw [a3]; simp, ?_, a5, fun ht => ?_, ?_⟩
  · rw [recordAnswer_tar, h4, c4]
  · obtain ⟨b1, b2⟩ := orderFor_begins hused (by rw [c2]; exact ht)
    rw [b1]
    exact ⟨b2, h5.trans c3⟩
  · rw [h5, c3] at a7
    exact a7

/-! ### The target of the timer (R10, R13) -/

/-- From UNTHREADED the tape threads toward RECORD_PAUSE. -/
theorem timerTarget_threads (g : Grade) (hs : s.mec.state = .unthreaded) (hspin : s.mec.spin = false)
    (ht : s.mec.tab ≠ .absent) : timerTarget .recordPause g s = routeMotion .threading (pauseTarget g s.mec) s := by
  rw [← route_threads (.inl hs) (.inr rfl) fun _ => ht, ← execTarget_route (by rw [hs]; rfl) hspin]
  simp [timerTarget, hs, ht, pauseTarget]

/-- From a tape that plays, the drum spins up in THREADED. -/
theorem timerTarget_spins (g : Grade) (hs : s.mec.state.plays) (hspin : s.mec.spin = false) (ht : s.mec.tab ≠ .absent) :
    timerTarget .recordPause g s = beginSpinUp (pauseTarget g s.mec) (throughThreaded s) := by
  obtain ⟨hready, hpair, -⟩ := ready_of_playing hs.playing
  have hpause : s.mec.state ≠ .recordPause := fun h => by simp [h, TState.recordPair] at hpair
  rw [← route_spins hs.playing rfl, ← execTarget_route hready.motion hspin]
  simp [timerTarget, hready.fault, hready.empty, hready.ejecting, ht, hpause, pauseTarget]

/-- No pulse is read and no mark written in UNTHREADED and THREADING, so the counter block stays as it is. -/
theorem routeMotion_threading_ctu {p : PendingTarget} (hs : s.mec.state = .unthreaded) (hk : s.ctu.seek.state = .idle) :
    (routeMotion .threading p s).ctu = s.ctu := by
  have hseek : s.ctu.seek.entered .threading = s.ctu.seek := Seek.entered_other (by rw [hk]; decide)
  simp [routeMotion, enterState, enter, hs, leaveState, arriveState, stallFollow, idleFollow, TState.readsPulses, TState.measures,
    TState.isWind, TState.drumTurns, hseek]

end

end Sys2Proof.Machine
end

section
/-! The due entry takes the deck from rest, or from the host that plays (R164 to R167). -/

namespace Sys2Proof.Machine

/-- A due entry that passes its checks on a deck that the host owns, with nothing in flight. -/
structure TakesDeck (e : PlanEntry) (rest : List PlanEntry) (s : State) : Prop where
  quiet : s.reports = []
  mode : s.pwr.mode = .on
  deckUp : s.pwr.deckUp = true
  entry : s.pwr.entry = .none
  due : s.tsc.plan.filter (PlanEntry.due s.clk) = e :: rest
  bound : e.slot < 16
  active : s.tsc.active = none
  owner : s.mec.owner = .host
  spin : s.mec.spin = false
  pending : s.mec.pending = none
  tab : s.mec.tab ≠ .absent
  used : (s.preset (s.slot e.slot).preset).used = true
  holder : s.tar.holder = .none ∨ s.tar.holder = .view
  seek : s.ctu.seek.state = .idle
  checks : armChecks e s = none

section
variable {s : State} {e x : PlanEntry} {rest : List PlanEntry}

theorem hostUses_congr {t : State} (h : t.mec = s.mec) : t.hostUses = s.hostUses := by
  unfold State.hostUses
  rw [h]

theorem armChecks_congr {t : State} (hm : t.mec = s.mec) (ht : t.tun = s.tun) (hs : t.slot e.slot = s.slot e.slot) :
    armChecks e t = armChecks e s := by
  simp only [armChecks, hostUses_congr hm, hm, hs, preset_congr (congrArg Tun.presets ht)]

/-- The tuner is requested for the entry's preset, once the deck is claimed for it. -/
def armedTuned (e : PlanEntry) (s : State) : State :=
  requestRecord (s.slot e.slot).preset (deckTaken e (armedFor e (dueWaits s)))

theorem TakesDeck.exec (h : TakesDeck e rest s) :
    exec .armingMoment s = done (timerTarget .recordPause e.grade (armedTuned e s)) := by
  have hc : armChecks e (dueWaits s) = none := by
    rw [armChecks_congr (s := s) (by simp) (by simp) (by simp), h.checks]
  rw [exec_armingMoment h.mode, armingTest_first h.due h.active, armEntry_taken h.bound hc,
    preRoll_host (by simp [h.owner]) (by simp [h.deckUp]) (by simp [h.entry])]
  rfl

/-- What an entry of the plan is as another is armed. -/
def PlanEntry.besideArmed (e : PlanEntry) (c : Clk) (x : PlanEntry) : PlanEntry :=
  if x.is e.slot e.date then { x with state := .arming, grade := e.grade } else x.waits c

/-- The deck, the tuner and TSC's record as MEC is given its target. -/
structure ArmedTuned (e : PlanEntry) (s u : State) : Prop where
  mec : u.mec = { s.mec with owner := .timer, idle := false }
  ctu : u.ctu = s.ctu
  clk : u.clk = s.clk
  tar : u.tar = { s.tar with
    holder := .record, origin := .timer, orderOf := .record,
    remembered := if s.tar.holder = .view then true else s.tar.remembered }
  preset : u.tun.tuned.preset = (s.slot e.slot).preset
  begun : s.tun.tuned.state = .none → u.tun.tuned.state = .settling ∧ u.reports = []
  reports : u.reports = [] ∨ ∃ b, u.reports = [.tuningPassed b]
  active : u.tsc.active = some (Active.start e)
  plan : u.tsc.plan = s.tsc.plan.map (PlanEntry.besideArmed e s.clk)
  slot : u.slot e.slot = (s.slot e.slot).armed e.date
  context : s.hostUses = true → u.tsc.restored = none ∧ u.tsc.shadow = some (s.tsc.shadow.getD
    { state := s.mec.state, counter := s.ctu.value, view := s.tar.view, viewing := s.tar.holder == .view })

theorem waits_is (c : Clk) (x : PlanEntry) (n d : Nat) : (x.waits c).is n d = x.is n d := by
  unfold PlanEntry.waits
  split <;> rfl

/-- The entry armed stands in ARMING at its grade, and the due ones beside it are NEXT. -/
theorem entryGraded_plan (e : PlanEntry) (s : State) :
    (entryGraded e (armedFor e (dueWaits s))).tsc.plan = s.tsc.plan.map (PlanEntry.besideArmed e s.clk) := by
  simp only [entryGraded, mapEntry, mapActive, State.mapTsc, armedFor_tsc, dueWaits_frame, List.map_map]
  refine List.map_congr_left fun x _ => ?_
  by_cases hx : x.is e.slot e.date = true
  · have harm : ({ x.waits s.clk with state := .arming } : PlanEntry).is e.slot e.date = true := (waits_is ..).trans hx
    simp only [Function.comp_apply, waits_is, hx, if_true, harm, PlanEntry.besideArmed]
    unfold PlanEntry.waits
    split <;> rfl
  · simp only [Function.comp_apply, waits_is, if_neg hx, PlanEntry.besideArmed]

/-- What the claim leaves of TSC's record, but for the contexts. -/
theorem contextKept_tsc (s : State) :
    (contextKept s).tsc.active = s.tsc.active ∧ (contextKept s).tsc.plan = s.tsc.plan ∧
    (contextKept s).tsc.slots = s.tsc.slots := by
  unfold contextKept
  split <;> simp [preempt]

theorem TakesDeck.armedTuned (h : TakesDeck e rest s) : ArmedTuned e s (armedTuned e s) := by
  obtain ⟨d1, d2, d3, d4, d5, d6, d7, d8⟩ := deckTaken_spec (f := e) (s := armedFor e (dueWaits s)) (by simp [h.pending])
    (by simp [h.deckUp]) (by simp [h.seek])
  obtain ⟨k1, k2, k3⟩ := contextKept_tsc (entryGraded e (armedFor e (dueWaits s)))
  have hused : ((deckTaken e (armedFor e (dueWaits s))).preset (s.slot e.slot).preset).used = true := by
    rw [preset_congr (s := s) (by simp [d3]), h.used]
  have hg := requestRecord_granted hused (by simpa [d4] using h.holder) d6
  have hslots : (Machine.armedTuned e s).tsc.slots = (armedFor e (dueWaits s)).tsc.slots := by
    rw [Machine.armedTuned, hg.tsc, d8, k3]
    rfl
  obtain ⟨hslot, -⟩ := armedFor_slot e (dueWaits s) h.bound
  constructor
  case mec => exact hg.mec.trans (by simp [d1])
  case ctu => exact hg.ctu.trans (by simp [d2])
  case clk => exact hg.clk.trans (by simp [d5])
  case tar => exact hg.tar.trans (by simp [d4])
  case preset => exact hg.preset
  case begun =>
    intro ht
    obtain ⟨hst, hrep⟩ := hg.begun (by simpa [d3] using ht)
    exact ⟨hst, hrep.trans (by simp [d7, h.quiet])⟩
  case reports =>
    have hnone : (deckTaken e (armedFor e (dueWaits s))).reports = [] := by simp [d7, h.quiet]
    have hrep := hg.reports
    rw [hnone] at hrep
    exact hrep
  case active =>
    rw [Machine.armedTuned, hg.tsc, d8, k1]
    simp [entryGraded, mapEntry, mapActive, armedFor_tsc, Active.start]
  case plan => rw [Machine.armedTuned, hg.tsc, d8, k2, entryGraded_plan]
  case slot => rw [slot_of_slots hslots, hslot, dueWaits_slot]
  case context =>
    intro hu
    have hu' : (entryGraded e (armedFor e (dueWaits s))).hostUses = true := by rw [hostUses_congr (s := s) (by simp), hu]
    rw [Machine.armedTuned, hg.tsc, d8, contextKept, if_pos hu']
    simp [preempt, entryGraded, mapEntry, mapActive, armedFor_tsc]

/-! ### The plan beside the entry armed -/

theorem TakesDeck.due_mem (h : TakesDeck e rest s) (hx : x ∈ e :: rest) : x ∈ s.tsc.plan ∧ x.due s.clk = true :=
  List.mem_filter.mp (h.due ▸ hx)

/-- The entry itself is in ARMING. -/
theorem ArmedTuned.arming_mem {u : State} (ha : ArmedTuned e s u) (h : TakesDeck e rest s) :
    { e with state := .arming } ∈ u.tsc.plan := by
  rw [ha.plan]
  exact List.mem_map.mpr ⟨e, (h.due_mem (by simp)).1, by simp [PlanEntry.besideArmed, PlanEntry.is]⟩

/-- Each other due entry is NEXT. -/
theorem ArmedTuned.next_mem {u : State} (ha : ArmedTuned e s u) (h : TakesDeck e rest s) (hx : x ∈ rest)
    (hne : ¬(x.slot = e.slot ∧ x.date = e.date)) : { x with state := .next } ∈ u.tsc.plan := by
  obtain ⟨hmem, hdue⟩ := h.due_mem (List.mem_cons_of_mem e hx)
  rw [ha.plan]
  exact List.mem_map.mpr ⟨x, hmem, by simp [PlanEntry.besideArmed, PlanEntry.is, hne, PlanEntry.waits, hdue]⟩

/-! ### From UNTHREADED (R166) -/

/-- The tape threads toward RECORD_PAUSE, and the tuner settles. -/
theorem armingMoment_threads (h : TakesDeck e rest s) (hs : s.mec.state = .unthreaded) (ht : s.tun.tuned.state = .none) :
    ∃ u, ArmedTuned e s u ∧ u.tun.tuned.state = .settling ∧
      exec .armingMoment s = .next (transmit (routeMotion .threading (pauseTarget e.grade u.mec) u)) := by
  have ha := h.armedTuned
  obtain ⟨hst, hrep⟩ := ha.begun ht
  refine ⟨_, ha, hst, ?_⟩
  rw [h.exec, timerTarget_threads _ (by simp [ha.mec, hs]) (by simp [ha.mec, h.spin]) (by simpa [ha.mec] using h.tab)]
  refine done_quiet ?_
  rw [routeMotion_reports, hrep, entryReports_silent rfl, leaveReports_none (by simp [ha.mec, hs, TState.recordPair])]
  rfl

/-! ### From the host's play (R13, R167) -/

/-- A completion passed on before RECORD_PAUSE is reached marks the record alone. -/
theorem tuningPassed_unready {a : Active} (b : Bool) (ha : s.tsc.active = some a) (hr : a.transportReady = false) :
    tuningPassed b s = mapActive (fun a => { a with tuned := true, signalSeen := a.signalSeen || b }) s := by
  simp [tuningPassed, preRollTest, withActive, mapActive, ha, Active.ready, hr]

@[simp] theorem throughThreaded_frame (s : State) :
    (throughThreaded s).tun = s.tun ∧ (throughThreaded s).tar = s.tar ∧ (throughThreaded s).clk = s.clk ∧
    (throughThreaded s).tsc = s.tsc := by
  unfold throughThreaded
  split <;> simp

/-- The drum spins up toward RECORD_PAUSE on a deck whose tape played. -/
def spunUp (g : Grade) (s : State) : State := beginSpinUp (pauseTarget g s.mec) (throughThreaded s)

@[simp] theorem spunUp_frame (g : Grade) (s : State) :
    (spunUp g s).tun = s.tun ∧ (spunUp g s).tar = s.tar ∧ (spunUp g s).clk = s.clk ∧ (spunUp g s).tsc = s.tsc := by
  simp [spunUp]

theorem spunUp_reports (g : Grade) (hs : s.mec.state.plays) (ht : s.mec.tab ≠ .absent) : (spunUp g s).reports = s.reports := by
  obtain ⟨-, hpair, -⟩ := ready_of_playing hs.playing
  rw [spunUp, beginSpinUp_reports (by simpa using ht), throughThreaded_reports, entryReports_silent rfl,
    leaveReports_none hpair, List.append_nil]

/-- What the spin-up of a preempted deck leaves of MEC, and of everything that the pre-roll has set. -/
structure SpunUp (e : PlanEntry) (u t : State) : Prop where
  mec : t.mec = (spunUp e.grade u).mec
  tun : t.tun = u.tun
  tar : t.tar = u.tar
  clk : t.clk = u.clk
  active : ∃ a, t.tsc.active = some a ∧ a.slot = e.slot ∧ a.date = e.date ∧ a.state = .arming ∧ a.grade = e.grade
  shadow : t.tsc.shadow = u.tsc.shadow
  restored : t.tsc.restored = u.tsc.restored

/-- The spin-up toward RECORD_PAUSE begins, and a completion passed on marks the record as tuned. -/
theorem armingMoment_spins (h : TakesDeck e rest s) (hs : s.mec.state.plays) :
    ∃ u t, ArmedTuned e s u ∧ exec .armingMoment s = .next t ∧ SpunUp e u t := by
  have ha := h.armedTuned
  have hplays : (Machine.armedTuned e s).mec.state.plays := by rw [ha.mec]; exact hs
  have htab : (Machine.armedTuned e s).mec.tab ≠ .absent := by rw [ha.mec]; exact h.tab
  have hspins : timerTarget .recordPause e.grade (Machine.armedTuned e s) = spunUp e.grade (Machine.armedTuned e s) :=
    timerTarget_spins _ hplays (by simp [ha.mec, h.spin]) htab
  have hrep := spunUp_reports e.grade hplays htab
  rw [h.exec, hspins]
  rcases ha.reports with hq | ⟨b, hq⟩
  · refine ⟨_, _, ha, done_quiet (hrep.trans hq), by simp, by simp, by simp, by simp,
      ⟨Active.start e, by simp [ha.active], rfl, rfl, rfl, rfl⟩, by simp, by simp⟩
  · have htake : takeReport (.tuningPassed b) ((spunUp e.grade (Machine.armedTuned e s)).awaits []) = _ :=
      tuningPassed_unready (a := Active.start e) b (by simp [ha.active]) rfl
    refine ⟨_, _, ha, done_one (hrep.trans hq) htake (by simp), by simp, by simp, by simp, by simp,
      ⟨{ Active.start e with tuned := true, signalSeen := b }, by simp [mapActive, ha.active, Active.start], rfl, rfl, rfl, rfl⟩,
      by simp [mapActive], by simp [mapActive]⟩

end

end Sys2Proof.Machine
end

section
/-! The due entry that its checks refuse ends at once, and a waiting entry whose window is over ends MISSED (R152, R164, R165,
R175). -/

namespace Sys2Proof.Machine

section
variable {s u : State} {a : Active} {e : PlanEntry} {o : OccOutcome}

/-! ### An ending before the deck is claimed (R175, R177) -/

/-- The deck is not given back by TSC that has not claimed it (log 40). -/
theorem endActive_unclaimed (ha : s.Alone a) (ho : s.mec.owner = .host) :
    endActive o s = rebuild (closeActive a o s) ∧ (closeActive a o s).DrawsNothing := by
  obtain ⟨hsame, hne, -⟩ := closeActive_slots (s := s) (o := o) ha.slot
  have hplan : (closeActive a o s).tsc.plan = [] := by simpa [closeActive_eq] using ha.plan
  have hsucc : (closeActive a o s).successor o = none := by simp [State.successor, hplan]
  have hdeck : releaseDeck o (closeActive a o s) = closeActive a o s := if_neg (by simp [ho])
  refine ⟨by simp only [endActive, ha.active, hsucc, hdeck], by simp [closeActive_eq], .inr fun n => ?_⟩
  rw [drawSlot_ended (s := s) (r := resultOf a o s) ?_ (by simp) (by simp [closeActive_eq]), ha.draws]
  by_cases hn : n = a.slot
  · exact .inl (hn ▸ hsame)
  · exact .inr (hne n hn)

/-! ### A due entry that is refused (R165) -/

/-- The one entry of the plan is due, for a slot of one date, and fails a check on the host's deck. -/
structure RefusedAtOnce (e : PlanEntry) (o : OccOutcome) (s : State) : Prop where
  quiet : s.reports = []
  mode : s.pwr.mode = .on
  due : s.tsc.plan.filter (PlanEntry.due s.clk) = [e]
  plan : s.tsc.plan = [e]
  bound : e.slot < 16
  active : s.tsc.active = none
  owner : s.mec.owner = .host
  recurrence : (s.slot e.slot).recurrence = .once
  once : (s.slot e.slot).once = e.date
  others : ∀ m, m ≠ e.slot → (s.slot m).state ≠ .armed
  checks : armChecks e s = some o

theorem awaits_reportFirst (r : Report) (l : List Report) (s : State) : (reportFirst r s).awaits l = s.awaits l := rfl

/-- The entry in ARMING, as its end is taken. -/
def armedRefused (e : PlanEntry) (s : State) : State := (armedFor e (dueWaits s)).awaits []

theorem RefusedAtOnce.alone (h : RefusedAtOnce e o s) : (armedRefused e s).Alone (Active.start e) := by
  obtain ⟨hsame, hne⟩ := armedFor_slot e (dueWaits s) h.bound
  refine ⟨by simp [armedRefused, armedFor_tsc], ?_, h.bound, fun n => ?_⟩
  · have hplan : ∀ x ∈ s.tsc.plan, x.is e.slot e.date = true := by simp [h.plan, PlanEntry.is]
    intro x hx
    simp only [armedRefused, awaits_frame, armedFor_tsc, dueWaits_frame, List.map_map] at hx
    obtain ⟨y, hy, rfl⟩ := List.mem_map.mp hx
    have := hplan y hy
    simp only [Function.comp_apply, waits_is, this, if_true]
    exact (waits_is ..).trans this
  · by_cases hn : n = e.slot
    · rw [hn]
      exact drawSlot_armed (s := dueWaits s) hsame (by simpa using h.recurrence) (by simpa using h.once)
    · refine drawSlot_unarmed ?_
      rw [show (armedRefused e s).slot n = _ from hne n hn, dueWaits_slot]
      exact h.others n hn

/-- The state in which the refused entry is over, and the plan to be rebuilt. -/
def refusedClosed (e : PlanEntry) (o : OccOutcome) (s : State) : State := closeActive (Active.start e) o (armedRefused e s)

/-- The refused entry ends at once: the plan is empty, and no more than the slot's records and the result have changed. -/
theorem RefusedAtOnce.ends (h : RefusedAtOnce e o s) :
    ∃ v, exec .armingMoment s = .next (transmit v) ∧ PlanOnly (refusedClosed e o s) v ∧ v.tsc.plan = [] := by
  obtain ⟨hend, hdraws⟩ := endActive_unclaimed (o := o) h.alone (by simp [armedRefused, h.owner])
  obtain ⟨hp, hpl, hrep⟩ := hdraws.rebuild_spec
  have hc : armChecks e (dueWaits s) = some o := by
    rw [armChecks_congr (s := s) (by simp) (by simp) (by simp), h.checks]
  have htake : takeReport (.occEnd e.slot e.date o) (armedRefused e s) = rebuild (refusedClosed e o s) := by
    rw [refusedClosed, ← hend]
    simp [takeReport, endOccurrence, withActive, h.alone.active, Active.start]
  refine ⟨_, ?_, hp, hpl⟩
  rw [exec_armingMoment h.mode, armingTest_first h.due h.active, armEntry_refused h.bound hc]
  refine done_one (r := .occEnd e.slot e.date o) (by simp [reportFirst, h.quiet]) ?_ (hrep.trans (by simp [armedRefused]))
  rw [awaits_reportFirst]
  exact htake

/-- What the ended entry leaves: its slot's records, and everything else as it was. -/
structure RefusedOver (e : PlanEntry) (o : OccOutcome) (s w : State) : Prop where
  mec : w.mec = s.mec
  ctu : w.ctu = s.ctu
  tun : w.tun = s.tun
  tar : w.tar = s.tar
  clk : w.clk = s.clk
  active : w.tsc.active = none
  shadow : w.tsc.shadow = s.tsc.shadow
  restored : w.tsc.restored = s.tsc.restored
  slot : w.slot e.slot = ((s.slot e.slot).armed e.date).ended
    { date := e.date, outcome := o, run := none, doubtful := false, noSignal := false }
  others : ∀ m, m ≠ e.slot → w.slot m = s.slot m
  sticky : o.fails → w.stickySet .occurrenceFailed = true

theorem refusedClosed_over (hb : e.slot < 16) : RefusedOver e o s (refusedClosed e o s) := by
  obtain ⟨hsame, hne, -⟩ := closeActive_slots (s := armedRefused e s) (a := Active.start e) (o := o) hb
  obtain ⟨harmed, hother⟩ := armedFor_slot e (dueWaits s) hb
  have harmed' : (armedRefused e s).slot e.slot = (s.slot e.slot).armed e.date := harmed.trans (by simp)
  constructor
  case slot => exact hsame.trans (by rw [show (Active.start e).slot = e.slot from rfl, harmed']; rfl)
  case others =>
    intro m hm
    exact (hne m hm).trans ((hother m hm).trans (by simp))
  case sticky =>
    intro hf
    exact writeResult_sticky (r := resultOf (Active.start e) o (armedRefused e s)) hf e.slot (armedRefused e s)
  all_goals simp [refusedClosed, armedRefused, closeActive_eq, armedFor_tsc]

/-- The same, through the rebuild and to the end of the command. -/
theorem RefusedAtOnce.over (h : RefusedAtOnce e o s) :
    ∃ t, exec .armingMoment s = .next t ∧ RefusedOver e o s t ∧ t.tsc.plan = [] := by
  obtain ⟨v, hexec, hp, hpl⟩ := h.ends
  have hw := refusedClosed_over (s := s) (o := o) h.bound
  have hrestored : v.tsc.restored = (refusedClosed e o s).tsc.restored := by rw [hp.tsc]
  exact ⟨_, hexec,
    { mec := by simp [hp.mec, hw.mec]
      ctu := by simp [hp.ctu, hw.ctu]
      tun := by simp [hp.tun, hw.tun]
      tar := by simp [hp.tar, hw.tar]
      clk := by simp [hp.clk, hw.clk]
      active := by simp [hp.active, hw.active]
      shadow := by simp [hp.shadow, hw.shadow]
      restored := by simp [hrestored, hw.restored]
      slot := by simp [hp.slot, hw.slot]
      others := fun m hm => by simp [hp.slot, hw.others m hm]
      sticky := fun hf => by simp [hp.stickySet, hw.sticky hf] }, by simpa using hpl⟩

/-! ### A waiting entry whose window is over (R164) -/

/-- The result of an entry that was never armed. -/
def missedResult (e : PlanEntry) : Result :=
  { date := e.date, outcome := .missed, run := none, doubtful := false, noSignal := false }

/-- The one waiting entry of the plan has its result, and is planned no more. -/
def entryMissed (e : PlanEntry) (s : State) : State :=
  (writeResult e.slot (missedResult e) s).mapTsc fun t => { t with plan := [] }

@[simp] theorem entryMissed_frame (e : PlanEntry) (s : State) :
    (entryMissed e s).mec = s.mec ∧ (entryMissed e s).ctu = s.ctu ∧ (entryMissed e s).tun = s.tun ∧
    (entryMissed e s).tar = s.tar ∧ (entryMissed e s).clk = s.clk ∧ (entryMissed e s).reports = s.reports ∧
    (entryMissed e s).tsc.active = s.tsc.active ∧ (entryMissed e s).tsc.skip = s.tsc.skip := by
  simp [entryMissed]

theorem missEntries_single (hp : s.tsc.plan = [e]) (hm : e.missed s.clk = true) : missEntries s = entryMissed e s := by
  simp [missEntries, entryMissed, missedResult, hp, hm, State.mapTsc]

/-- The slot's own records change by the result alone, so its history stays (log 24). -/
theorem entryMissed_slots (hb : e.slot < 16) :
    (entryMissed e s).slot e.slot = (s.slot e.slot).ended (missedResult e) ∧
    ∀ m, m ≠ e.slot → (entryMissed e s).slot m = s.slot m := by
  have hsl : (entryMissed e s).tsc.slots = (mapSlot e.slot (Slot.ended (missedResult e)) s).tsc.slots := by
    simp [entryMissed]
  exact ⟨by rw [slot_of_slots hsl, slot_mapSlot_same _ hb], fun m hm => by rw [slot_of_slots hsl, slot_mapSlot_ne _ hm]⟩

/-- The result raises OCCURRENCE (R152). -/
theorem writeResult_pending {n : Nat} {r : Result} (hm : s.pwr.mode = .on) (hk : s.lnk.mask.getLsbD 9 = true) :
    (writeResult n r s).pendingNotice .occurrence = true := by
  unfold writeResult
  refine raise_pending ?_ ?_
  · split <;> simp [hm]
  · split <;> simpa [setSticky_eq, Notice.bit] using hk

/-- No frame begins or ends by the result. -/
theorem writeResult_line (n : Nat) (r : Result) (s : State) : (writeResult n r s).lnk.line = s.lnk.line := by
  unfold writeResult
  dsimp only
  split <;> simp [raise_eq, setSticky_eq]

/-- The window is over and the plan rebuilt, with nothing left to draw. -/
theorem windowsClose_misses (hp : s.tsc.plan = [e]) (hm : e.missed s.clk = true) (ha : s.tsc.active = none)
    (hb : e.slot < 16) (hd : ∀ n, drawSlot s n = []) :
    windowsClose s = rebuild (entryMissed e s) ∧ (entryMissed e s).DrawsNothing := by
  have hdraws : (entryMissed e s).DrawsNothing := by
    refine ⟨by simp [ha], .inr fun n => ?_⟩
    obtain ⟨hsame, hne⟩ := entryMissed_slots (s := s) hb
    rw [drawSlot_ended (s := s) (r := missedResult e) ?_ (by simp) (by simp), hd]
    by_cases hn : n = e.slot
    · exact .inl (hn ▸ hsame)
    · exact .inr (hne n hn)
  refine ⟨?_, hdraws⟩
  have hany : s.tsc.plan.any (PlanEntry.missed s.clk) = true := by simp [hp, hm]
  have hnone : (rebuild (entryMissed e s)).tsc.active = none := by rw [hdraws.rebuild_spec.1.active, hdraws.active]
  simp only [windowsClose, hany, if_true, missEntries_single hp hm, withActive, hnone]

/-- What the missed entry leaves: its slot's result, the sticky flag and the notice, and everything else as it was. -/
structure MissedOver (e : PlanEntry) (s t : State) : Prop where
  mec : t.mec = s.mec
  ctu : t.ctu = s.ctu
  tun : t.tun = s.tun
  tar : t.tar = s.tar
  clk : t.clk = s.clk
  active : t.tsc.active = none
  plan : t.tsc.plan = []
  slot : t.slot e.slot = (s.slot e.slot).ended (missedResult e)
  others : ∀ m, m ≠ e.slot → t.slot m = s.slot m
  sticky : t.stickySet .occurrenceFailed = true
  pending : s.lnk.line.isSome → s.lnk.mask.getLsbD 9 = true → t.pendingNotice .occurrence = true

theorem windowEnd_misses (hq : s.reports = []) (hon : s.pwr.mode = .on) (hp : s.tsc.plan = [e])
    (hm : e.missed s.clk = true) (ha : s.tsc.active = none) (hb : e.slot < 16) (hd : ∀ n, drawSlot s n = []) :
    ∃ t, exec .windowEnd s = .next t ∧ MissedOver e s t := by
  obtain ⟨hclose, hdraws⟩ := windowsClose_misses hp hm ha hb hd
  obtain ⟨hpo, hpl, hrep⟩ := hdraws.rebuild_spec
  obtain ⟨hsame, hne⟩ := entryMissed_slots (s := s) hb
  have hstick : (entryMissed e s).stickySet .occurrenceFailed = true := writeResult_sticky rfl e.slot s
  have hquiet : (rebuild (entryMissed e s)).reports = [] := hrep.trans (by simp [hq])
  have hpend : s.lnk.mask.getLsbD 9 = true → (rebuild (entryMissed e s)).pendingNotice .occurrence = true := fun hk =>
    (keeps_rebuild hdraws).kept .occurrence nofun (writeResult_pending hon hk)
  have hline : (rebuild (entryMissed e s)).lnk.line = s.lnk.line :=
    (Lnk.line_of_sans hpo.sans).trans (writeResult_line ..)
  refine ⟨_, by rw [exec_windowEnd hon, hclose, done_quiet hquiet],
    { mec := by simp [hpo.mec]
      ctu := by simp [hpo.ctu]
      tun := by simp [hpo.tun]
      tar := by simp [hpo.tar]
      clk := by simp [hpo.clk]
      active := by simp [hpo.active, ha]
      plan := by simp [hpl]
      slot := by simp [hpo.slot, hsame]
      others := fun m hm => by simp [hpo.slot, hne m hm]
      sticky := by simp [hpo.stickySet, hstick]
      pending := fun hbusy hk => ?_ }⟩
  rw [transmit_busy (by rw [hline]; exact hbusy)]
  exact hpend hk

/-- Before the window end nothing ends. -/
theorem windowsClose_open (hp : s.tsc.plan = [e]) (hm : e.missed s.clk = false) (ha : s.tsc.active = none) :
    windowsClose s = s := by
  simp [windowsClose, hp, hm, withActive, ha]

theorem missed_iff {c : Clk} (h : e.state = .planned ∨ e.state = .next) : e.missed c = c.reached e.windowEnd := by
  rcases h with h | h <;> simp [PlanEntry.missed, PlanEntry.waiting, PlanEntry.open, h]

end

end Sys2Proof.Machine
end

section
/-! O50, clause by clause: an occurrence active, the deck taken from rest and from play, the two refusals, and the window end. -/

namespace Sys2Proof.Machine

section
variable {s : State} {e : PlanEntry} {rest : List PlanEntry}

/-- With an occurrence active every due entry becomes NEXT, and PLAN is raised where one is due. -/
theorem armingMoment_waits (hq : s.reports = []) (hm : s.pwr.mode = .on) (ha : s.tsc.active.isSome) :
    ∃ l, exec .armingMoment s = .next (transmit
        { s with
          tsc := { s.tsc with plan := s.tsc.plan.map fun e => if e.due s.clk then { e with state := .next } else e },
          lnk := l }) ∧
      l = if s.tsc.plan.any (fun e => e.due s.clk) then
            { s.lnk with notices := s.lnk.notices ||| (0x100#12 &&& s.lnk.mask) } else s.lnk := by
  obtain ⟨a, ha⟩ := Option.isSome_iff_exists.mp ha
  refine ⟨_, ?_, rfl⟩
  rw [armingMoment_active hq hm ha, dueWaits_eq hm]
  rfl

/-- From UNTHREADED with a free tuner nothing refuses the entry. -/
theorem takesDeck_rests (hq : s.reports = []) (hm : s.pwr.mode = .on) (hd : s.pwr.deckUp = true)
    (hdue : s.tsc.plan.filter (fun x => x.due s.clk) = e :: rest) (hb : e.slot < 16) (ha : s.tsc.active = none)
    (ho : s.mec.owner = .host) (hs : s.mec.state = .unthreaded) (hspin : s.mec.spin = false) (hp : s.mec.pending = none)
    (ht : s.mec.tab ≠ .absent) (hu : (s.preset (s.slot e.slot).preset).used = true) (hh : s.tar.holder = .none)
    (he : s.pwr.entry = .none) (hk : s.ctu.seek.state = .idle) : TakesDeck e rest s := by
  obtain ⟨hready, hpair⟩ := ready_of_unthreaded (.inl hs)
  refine ⟨hq, hm, hd, he, hdue, hb, ha, ho, hspin, hp, ht, hu, .inl hh, hk, ?_⟩
  rw [armChecks_ready hready hpair ht hu]
  simp [State.hostUses, hs]

/-- Where the host plays, a slot that may preempt is not refused. -/
theorem takesDeck_plays (hq : s.reports = []) (hm : s.pwr.mode = .on) (hd : s.pwr.deckUp = true)
    (hdue : s.tsc.plan.filter (fun x => x.due s.clk) = e :: rest) (hb : e.slot < 16) (ha : s.tsc.active = none)
    (ho : s.mec.owner = .host) (hs : s.mec.state.plays) (hspin : s.mec.spin = false) (hp : s.mec.pending = none)
    (ht : s.mec.tab ≠ .absent) (hu : (s.preset (s.slot e.slot).preset).used = true)
    (hh : s.tar.holder = .none ∨ s.tar.holder = .view) (hpre : (s.slot e.slot).preempt = true)
    (he : s.pwr.entry = .none) (hk : s.ctu.seek.state = .idle) : TakesDeck e rest s := by
  obtain ⟨hready, hpair, -⟩ := ready_of_playing hs.playing
  refine ⟨hq, hm, hd, he, hdue, hb, ha, ho, hspin, hp, ht, hu, hh, hk, ?_⟩
  rw [armChecks_ready hready hpair ht hu, hpre]
  simp

/-- Where the host plays, a slot that may not preempt is refused. -/
theorem armChecks_inUse (ho : s.mec.owner = .host) (hs : s.mec.state.plays) (ht : s.mec.tab ≠ .absent)
    (hu : (s.preset (s.slot e.slot).preset).used = true) (hpre : (s.slot e.slot).preempt = false) :
    armChecks e s = some .deckInUse := by
  obtain ⟨hready, hpair, -⟩ := ready_of_playing hs.playing
  rw [armChecks_ready hready hpair ht hu, if_pos ⟨hs.hostUses ho, hpre⟩]

/-- The one planned entry is the one that is due. -/
theorem due_single (hdue : s.tsc.plan.filter (fun x => x.due s.clk) = e :: rest) (hp : s.tsc.plan = [e]) :
    s.tsc.plan.filter (PlanEntry.due s.clk) = [e] := by
  have hmem : e ∈ s.tsc.plan.filter (PlanEntry.due s.clk) := by rw [hdue]; simp
  rw [hp] at hmem ⊢
  simpa using (List.mem_filter.mp hmem).2

end

end Sys2Proof.Machine

namespace Sys2Proof.Proofs
open Sys2Proof.Machine

/-- Settles O50, clause by clause. -/
theorem armingTakesTheDeck : Obligations.ArmingTakesTheDeck := by
  intro s hq hm hd
  refine ⟨fun a ha => armingMoment_waits hq hm (by simp [ha]), fun e rest hdue hb ha ho => ⟨?_, ?_, ?_⟩,
    fun e hplan hst hb ha => ⟨fun hr hdraw => ?_, fun hr => ?_⟩⟩
  · -- from UNTHREADED
    intro hs hspin hp ht hu hh htuned he hk
    have htakes := takesDeck_rests hq hm hd hdue hb ha ho hs hspin hp ht hu hh he hk
    obtain ⟨u, hu, hset, hexec⟩ := armingMoment_threads htakes hs htuned
    have hctu : (routeMotion .threading (pauseTarget e.grade u.mec) u).ctu = s.ctu := by
      rw [routeMotion_threading_ctu (by simp [hu.mec, hs]) (by simp [hu.ctu, hk]), hu.ctu]
    have hslot : ∀ n, (transmit (routeMotion .threading (pauseTarget e.grade u.mec) u)).slot n = u.slot n := fun n =>
      slot_of_slots (by simp) n
    refine ⟨_, Active.start e, hexec, by simp [hu.active], rfl, rfl, rfl, rfl, rfl, ?_, ?_, by simpa using hu.arming_mem htakes,
      fun x hx hne => by simpa using hu.next_mem htakes hx hne, by simp [hu.mec], by simp, by simp [motionLimit],
      by simp [pauseTarget], by simp [hu.tar], by simp [hu.preset], by simp [hset], by simp [hu.clk], by simp [hctu]⟩
    · rw [hslot, hu.slot]
      rfl
    · rw [hslot, hu.slot]
      cases hg : (s.slot e.slot).guard <;> simp [Slot.armed, hg]
  · -- where the host plays
    intro hs hspin hp ht hu hh
    refine ⟨fun hpre he hk => ?_, fun hpre hplan hrec honce hother => ?_⟩
    · have htakes := takesDeck_plays hq hm hd hdue hb ha ho hs hspin hp ht hu hh hpre he hk
      obtain ⟨u, t, hu, hexec, hspun⟩ := armingMoment_spins htakes hs
      obtain ⟨a, hact, h1, h2, h3, h4⟩ := hspun.active
      obtain ⟨hrest, hshadow⟩ := hu.context (TState.plays.hostUses hs ho)
      have hmec := hspun.mec
      rw [spunUp, beginSpinUp_mec (by simpa [hu.mec] using ht)] at hmec
      exact ⟨t, a, hexec, hact, h1, h2, h3, h4, by rw [hspun.shadow, hshadow], by rw [hspun.restored, hrest],
        by simp [hmec, hu.mec], by simp [hmec], by simp [hmec], by simp [hmec, pauseTarget], by simp [hmec, pauseTarget],
        by simp [hspun.tar, hu.tar], by simp [hspun.tar, hu.tar], by simp [hspun.tar, hu.tar], by simp [hspun.tar, hu.tar],
        by rw [hspun.tun, hu.preset], by rw [hspun.clk, hu.clk]⟩
    · have href : RefusedAtOnce e .deckInUse s := ⟨hq, hm, due_single hdue hplan, hplan, hb, ha, ho, hrec, honce, hother,
        armChecks_inUse ho hs ht hu hpre⟩
      obtain ⟨t, hexec, hover, hpl⟩ := href.over
      exact ⟨t, hexec, hover.active, hpl, by rw [hover.slot]; rfl, hover.shadow, hover.restored, hover.mec, hover.tun,
        hover.tar, hover.clk, hover.ctu⟩
  · -- without a cassette
    intro hs hplan hrec honce hother
    have href : RefusedAtOnce e .noCassette s := ⟨hq, hm, due_single hdue hplan, hplan, hb, ha, ho, hrec, honce, hother,
      armChecks_empty hs⟩
    obtain ⟨t, hexec, hover, hpl⟩ := href.over
    exact ⟨t, hexec, hover.active, hpl, by rw [hover.slot]; rfl, by rw [hover.slot]; rfl, by rw [hover.slot]; rfl,
      hover.others, hover.sticky rfl, hover.mec, hover.tun, hover.tar, hover.clk, hover.ctu⟩
  · -- the window end
    obtain ⟨t, hexec, hover⟩ := windowEnd_misses hq hm hplan (by rw [missed_iff hst, hr]) ha hb hdraw
    exact ⟨t, hexec, hover.active, hover.plan, hover.slot, hover.others, hover.sticky, hover.pending, hover.mec, hover.tun,
      hover.tar, hover.clk, hover.ctu⟩
  · rw [exec_windowEnd hm, windowsClose_open hplan (by rw [missed_iff hst, hr]) ha, done_quiet hq]

end Sys2Proof.Proofs
end

section
/-! CAPTURE_SET, SET_TRIM and MATCH_SET DISARM (R53, R124, R134). -/

namespace Sys2Proof.Machine

/-- CAPTURE_SET: the selection is checked before the action (log 50). -/
theorem reqCaptureSet_eq (sel act : Byte) (s : State) :
    reqCaptureSet sel act s =
      if 7 < sel.toNat then reply (.refused .fieldRange 1) s
      else if 1 < act.toNat then reply (.refused .fieldRange 2) s
      else reply (.ok .decoder) (s.mapDld fun d =>
        { d with sel := sel.extractLsb' 0 3, bad := if act = 1 then 0 else d.bad }) := by
  rw [reqCaptureSet, checked_cons, checked_one]
  simp only [above_iff]
  rfl

/-- SET_TRIM stores the trim, clamped. -/
theorem reqSetTrim_eq (t : Byte) (s : State) :
    reqSetTrim t s = reply (.ok .clock) (s.mapClk fun c => { c with trim := max (-63) (min 63 t.toInt) }) := by
  rw [reqSetTrim, clampInt_eq (by decide), replyOk]

theorem reqMatchDisarm_eq (s : State) :
    reqMatchDisarm s = reply (.ok .matchRec) (s.mapCtu fun c => { c with mArmed := false }) := rfl

end Sys2Proof.Machine

namespace Sys2Proof.Proofs
open Sys2Proof.Machine

/-- Settles O13, each setter by its equation, and CAPTURE_SET along its two checks. -/
theorem smallSettersStore : Obligations.SmallSettersStore := by
  intro s hl hq
  refine ⟨fun sel act => ?_, fun t => exec_answered rfl rfl hl (reqSetTrim_eq t _) hq,
    exec_answered rfl rfl hl (reqMatchDisarm_eq _) hq⟩
  have hreq := reqCaptureSet_eq sel act (s.holding 0x25)
  by_cases hsel : 7 < sel.toNat
  · rw [if_pos hsel] at hreq ⊢
    exact exec_answered rfl rfl hl hreq hq
  by_cases hact : 1 < act.toNat
  · rw [if_neg hsel, if_pos hact] at hreq ⊢
    exact exec_answered rfl rfl hl hreq hq
  · rw [if_neg hsel, if_neg hact] at hreq ⊢
    exact exec_answered rfl rfl hl hreq hq

end Sys2Proof.Proofs
end

section
/-! A packet that is not taken, and one of bad parity (R112, R113). -/

namespace Sys2Proof.Machine

section
variable {s : State} {bytes : List Byte}

/-- Without SIGNAL no packet is taken (R112). -/
theorem packetArrives_noSignal (h : s.tun.tuned.state ≠ .signal) : packetArrives bytes s = s := by
  rw [packetArrives, beq_false_of_ne h, Bool.false_and, when_false]

/-- In SIGNAL a packet of 12 bytes is taken (R112). -/
theorem packetArrives_signal (hsig : s.tun.tuned.state = .signal) (hlen : bytes.length = 12) :
    packetArrives bytes s = takePacket bytes s := by
  rw [packetArrives, hsig, hlen, beq_self_eq_true, beq_self_eq_true, Bool.and_self, when_true]

/-- A packet with a byte of even parity only counts (R113). -/
theorem takePacket_bad (h : ∃ b ∈ bytes, oddParity b = false) (s : State) : takePacket bytes s = countBad s := by
  rw [takePacket, if_neg (by simpa using h)]

end

end Sys2Proof.Machine

namespace Sys2Proof.Proofs
open Sys2Proof.Machine

/-- Settles O40, by whether the tuned record is SIGNAL. -/
theorem badPacketsAreCounted : Obligations.BadPacketsAreCounted := by
  refine fun bytes s hq hlen => ⟨fun hsig => ?_, fun hsig hbad => ?_⟩
  · rw [exec_packetArrival, packetArrives_noSignal hsig, done_quiet hq]
  · rw [exec_packetArrival, packetArrives_signal hsig hlen, takePacket_bad hbad, done_quiet (s := countBad s) hq]
    rfl

end Sys2Proof.Proofs
end

section
/-! SUPPORT. What ticks make of CLK's record (R127, R128, R136 to R138), and the advance to the next second, an equation for each
of its cases (R127, R132). -/

namespace Sys2Proof.Machine

section
variable {s : State} {n : Nat}

theorem exec_clockTick (s : State) : exec .clockTick s = done (clockTicks s) := rfl

theorem exec_clockSecondAdvance (s : State) : exec .clockSecondAdvance s = done (clockSecond s) := rfl

/-! ### The ages (R136 to R138) -/

/-- A candidate after so many ticks: one older than 30 s goes. -/
def Candidate.aged (n : Nat) (k : Candidate) : Option Candidate :=
  if 1920 < k.age + n then none else some { k with age := k.age + n }

/-- CLK's record after so many ticks, where neither the visit age nor the retry timer comes to a limit. -/
def Clk.aged (n : Nat) (c : Clk) : Clk :=
  { c with
    prescaler := 512, candidate := c.candidate.bind (Candidate.aged n),
    visitTicks := if c.visitAge.isNone then c.visitTicks else c.visitTicks + n, retry := c.retry.map (· + n) }

/-- The prescaler is loaded, and so many ticks pass. -/
def ticksPass (n : Nat) (s : State) : State := agesPass n (s.mapClk fun c => { c with prescaler := 512 })

theorem ticksPass_below (hv : s.clk.visitAge = none ∨ s.clk.visitTicks + n < 3840)
    (hr : ∀ e, s.clk.retry = some e → e + n < 57600) : ticksPass n s = s.mapClk (Clk.aged n) := by
  unfold ticksPass agesPass Clk.aged Candidate.aged
  cases hage : s.clk.visitAge <;> cases hretry : s.clk.retry
  case none.none => simp [State.mapClk, hage, hretry]
  case none.some e => simp [State.mapClk, hage, hretry, hr e hretry]
  case some.none a => simp [State.mapClk, hage, hretry, hv.resolve_left (by simp [hage])]
  case some.some a e => simp [State.mapClk, hage, hretry, hr e hretry, hv.resolve_left (by simp [hage])]

/-- What the ticks leave of the clock, and what is reported as the visit age comes to its limit. -/
theorem ticksPass_spec (hr : s.clk.retry = none) :
    (ticksPass n s).clk.now = s.clk.now ∧ (ticksPass n s).clk.syncOn = s.clk.syncOn ∧
    ((ticksPass n s).reports = s.reports ∨ (ticksPass n s).reports = s.reports ++ [.visitTest]) := by
  unfold ticksPass agesPass visitMinute
  cases hage : s.clk.visitAge with
  | none => simp [hage, hr]
  | some a =>
    by_cases ht : s.clk.visitTicks + n < 3840
    · simp [hage, hr, ht]
    · by_cases ha : a = 359 <;> simp [hage, hr, ht, ha, reportIf_eq]

theorem ticksPass_frame (n : Nat) (s : State) :
    (ticksPass n s).mec = s.mec ∧ (ticksPass n s).tun = s.tun ∧ (ticksPass n s).tar = s.tar ∧
    (ticksPass n s).tsc = s.tsc ∧ (ticksPass n s).pwr = s.pwr ∧ (ticksPass n s).lnk = s.lnk := by
  simp [ticksPass]

/-! ### The tick, and the ticks that are left of a second (R127) -/

/-- The present second is over. -/
def Clk.secondOver (c : Clk) : Clk := { c with sub := 0 }

theorem clockTicks_within (h : (ticksPass 1 s).clk.sub ≠ 63) :
    clockTicks s = (ticksPass 1 s).mapClk fun c => { c with sub := c.sub + 1 } := if_neg h

theorem clockTicks_last (h : (ticksPass 1 s).clk.sub = 63) :
    clockTicks s = advanceSecond ((ticksPass 1 s).mapClk Clk.secondOver) := if_pos h

theorem clockSecond_eq (s : State) :
    clockSecond s = advanceSecond ((ticksPass (64 - s.clk.sub) s).mapClk Clk.secondOver) := rfl

/-! ### The advance (R127, R128, R132) -/

/-- At the carry of the seconds the prescaler takes the trim (R128). -/
def Clk.trimmed (c : Clk) : Clk := if c.now.second = 59 then { c with prescaler := (512 - 2 * c.trim).toNat } else c

@[simp] theorem Clk.trimmed_frame (c : Clk) :
    c.trimmed.state = c.state ∧ c.trimmed.now = c.now ∧ c.trimmed.sub = c.sub ∧ c.trimmed.summer = c.summer ∧
    c.trimmed.offset = c.offset ∧ c.trimmed.syncOn = c.syncOn := by
  unfold Clk.trimmed; split <;> simp

theorem Clk.trimmed_transition (c : Clk) (i : Nat) : c.trimmed.transition i = c.transition i := by
  unfold Clk.trimmed; split <;> rfl

/-- A steady second passes, its reading not yet shown: the trim is taken, and a recording under time control counts (R169). -/
def secondPasses (s : State) : State := remainingSecond (s.mapClk Clk.trimmed)

@[simp] theorem secondPasses_frame (s : State) :
    (secondPasses s).mec = s.mec ∧ (secondPasses s).tun = s.tun ∧ (secondPasses s).tar = s.tar ∧
    (secondPasses s).clk = s.clk.trimmed ∧ (secondPasses s).pwr = s.pwr ∧ (secondPasses s).lnk = s.lnk ∧
    (secondPasses s).reports = s.reports := by
  simp [secondPasses]

/-- With no occurrence active nothing counts. -/
theorem secondPasses_idle (ha : s.tsc.active = none) : secondPasses s = s.mapClk Clk.trimmed := by
  unfold secondPasses remainingSecond
  split
  · rfl
  · simp only [State.mapTsc, State.mapClk, ha, Option.map_none]
    rw [← ha]

theorem advanceSecond_wraps (h : 99 < s.clk.now.next.year) : advanceSecond s = clockWraps (secondPasses s) := by
  unfold advanceSecond secondPasses Clk.trimmed
  by_cases h59 : s.clk.now.second = 59 <;> simp [h59, h, State.mapClk]

/-- The clock is moved with the summer time: its reading, the summer state and the offset in force; a JUMP is reported (R132). -/
def jumps (i : Nat) (m : Summer) (quarters size : Int) (s : State) : State :=
  let s := summerMoves m quarters (setReading i s)
  clockReport .jump s.clk.state size s

/-- How the second after a reading is shown, by what the advance to it meets (R127, R132). -/
def secondShown (d : DateTime) : Transition → State → State
  | .none, s =>
    if d.hour = 23 ∧ d.next.hour = 0 then clockReport .midnight s.clk.state 0 (s.mapClk fun c => { c with now := d.next })
    else s.mapClk fun c => { c with now := d.next }
  | .forward, s => jumps (d.next.instant + 3600) .summer 4 3600 s
  | .backward, s => jumps (d.next.instant - 3600) .repeated (-4) (-3600) s
  | .repeatEnds, s => setSummer .standard s.clk.offset (s.mapClk fun c => { c with now := d.next })

theorem advanceSecond_within (h : s.clk.now.next.year ≤ 99) :
    advanceSecond s = secondShown s.clk.now (s.clk.transition s.clk.now.next.instant) (secondPasses s) := by
  have hpasses : secondPasses s =
      remainingSecond (if s.clk.now.second = 59 then
        s.mapClk fun c => { c with prescaler := (512 - 2 * c.trim).toNat } else s) := by
    unfold secondPasses Clk.trimmed
    split <;> simp [State.mapClk, *]
  have htransition : (secondPasses s).clk.transition s.clk.now.next.instant = s.clk.transition s.clk.now.next.instant := by
    simp [Clk.trimmed_transition]
  unfold advanceSecond
  simp only [← hpasses, htransition, if_neg (Nat.not_lt.mpr h)]
  cases s.clk.transition s.clk.now.next.instant <;> rfl

/-- Without a rule in force no summer transition is met. -/
theorem transition_ruleless {c : Clk} (h : c.ruleInForce = none) (i : Nat) : c.transition i = .none := by
  simp [Clk.transition, h]

theorem secondShown_steady {d : DateTime} (h : ¬(d.hour = 23 ∧ d.next.hour = 0)) :
    secondShown d .none s = s.mapClk fun c => { c with now := d.next } := if_neg h

theorem secondShown_midnight {d : DateTime} (h : d.hour = 23 ∧ d.next.hour = 0) :
    secondShown d .none s = clockReport .midnight s.clk.state 0 (s.mapClk fun c => { c with now := d.next }) := if_pos h

end

end Sys2Proof.Machine
end

section
/-! A tick, and the second that it ends (R127, R128). -/

namespace Sys2Proof.Machine

section
variable {s : State}

/-- The carries of the seconds and the minutes. -/
theorem DateTime.next_second {d : DateTime} (h : d.second < 59) : d.next = { d with second := d.second + 1 } := by
  simp [DateTime.next, h]

theorem DateTime.next_minute {d : DateTime} (hs : d.second = 59) (hm : d.minute < 59) :
    d.next = { d with second := 0, minute := d.minute + 1 } := by
  simp [DateTime.next, hs, hm]

/-- A candidate goes with the tick that makes it older than 30 s (R138). -/
theorem Candidate.aged_one :
    Candidate.aged 1 = fun k => if k.age < 1920 then some { k with age := k.age + 1 } else none := by
  funext k
  unfold Candidate.aged
  by_cases h : k.age < 1920
  · rw [if_pos h, if_neg (by omega)]
  · rw [if_neg h, if_pos (by omega)]

/-- CLK's record as the next second begins, its reading not yet shown. -/
def Clk.secondBegins (c : Clk) : Clk := (c.aged 1).secondOver

theorem tick_within (hv : s.clk.visitAge = none ∨ s.clk.visitTicks < 3839) (hr : ∀ e, s.clk.retry = some e → e < 57599)
    (hsub : s.clk.sub < 63) : clockTicks s = s.mapClk fun c => { c.aged 1 with sub := c.sub + 1 } := by
  have hpass := ticksPass_below (n := 1) (hv.imp_right (by omega)) fun e he => by have := hr e he; omega
  have hsub' : (ticksPass 1 s).clk.sub ≠ 63 := by rw [hpass]; exact Nat.ne_of_lt hsub
  rw [clockTicks_within hsub', hpass]
  rfl

theorem tick_last (hv : s.clk.visitAge = none ∨ s.clk.visitTicks < 3839) (hr : ∀ e, s.clk.retry = some e → e < 57599)
    (hsub : s.clk.sub = 63) : clockTicks s = advanceSecond (s.mapClk Clk.secondBegins) := by
  have hpass := ticksPass_below (n := 1) (hv.imp_right (by omega)) fun e he => by have := hr e he; omega
  have hsub' : (ticksPass 1 s).clk.sub = 63 := by rw [hpass]; exact hsub
  rw [clockTicks_last hsub', hpass]
  rfl

/-- With no rule in force and no occurrence active, a second within its hour only shows the next reading. -/
theorem advanceSecond_quiet (ha : s.tsc.active = none) (hr : s.clk.ruleInForce = none) (hy : s.clk.now.next.year ≤ 99)
    (hh : s.clk.now.next.hour = s.clk.now.hour) :
    advanceSecond s = s.mapClk fun c => { c.trimmed with now := s.clk.now.next } := by
  have hmid : ¬(s.clk.now.hour = 23 ∧ s.clk.now.next.hour = 0) := by omega
  rw [advanceSecond_within hy, transition_ruleless hr, secondShown_steady hmid, secondPasses_idle ha]
  rfl

/-- The tick that ends such a second. -/
theorem exec_lastTick (hq : s.reports = []) (hv : s.clk.visitAge = none ∨ s.clk.visitTicks < 3839)
    (hr : ∀ e, s.clk.retry = some e → e < 57599) (hsub : s.clk.sub = 63) (ha : s.tsc.active = none)
    (hrule : s.clk.ruleInForce = none) (hy : s.clk.now.next.year ≤ 99) (hh : s.clk.now.next.hour = s.clk.now.hour) :
    exec .clockTick s =
      .next (transmit (s.mapClk fun c => { c.secondBegins.trimmed with now := s.clk.now.next })) := by
  rw [exec_clockTick, tick_last hv hr hsub, advanceSecond_quiet (s := s.mapClk Clk.secondBegins) ha hrule hy hh,
    done_quiet (by exact hq)]
  rfl

theorem Clk.trimmed_within {c : Clk} (h : c.now.second ≠ 59) : c.trimmed = c := if_neg h

theorem Clk.trimmed_carry {c : Clk} (h : c.now.second = 59) :
    c.trimmed = { c with prescaler := (512 - 2 * c.trim).toNat } := if_pos h

end

end Sys2Proof.Machine

namespace Sys2Proof.Proofs
open Sys2Proof.Machine

/-- Settles O42, by whether the tick is the second's last, and then along the two carries. -/
theorem ticksMakeSeconds : Obligations.TicksMakeSeconds := by
  intro s hq hv hr ticked
  have hticked : s.clk.aged 1 = ticked := by
    simp only [Clk.aged, Candidate.aged_one, ticked]
  refine ⟨fun hsub => ?_, fun hsub ha hrule hy => ?_⟩
  · rw [exec_clockTick, tick_within hv hr hsub, done_quiet (by exact hq), ← hticked]
    rfl
  have hshown := exec_lastTick hq hv hr hsub ha hrule
  refine ⟨fun hs => ?_, fun hs hm => ?_⟩
  · have hnext := DateTime.next_second hs
    rw [hshown (by simpa [hnext] using hy) (by simp [hnext]), hnext, State.mapClk,
      Clk.trimmed_within (c := s.clk.secondBegins) (Nat.ne_of_lt hs), ← hticked]
    rfl
  · have hnext := DateTime.next_minute hs hm
    rw [hshown (by simpa [hnext] using hy) (by simp [hnext]), hnext, State.mapClk,
      Clk.trimmed_carry (c := s.clk.secondBegins) hs, ← hticked]
    rfl

end Sys2Proof.Proofs
end

section
/-! SUPPORT. CLK's reports, as TSC takes them with no occurrence active and none to draw (R155, R159, R180), to the end of the
command. -/

namespace Sys2Proof.Machine

section
variable {s t u : State} {n : Notice} {l : List Report}

/-- No occurrence is active, and none can be drawn: the clock is UNSET, or nothing is planned and no slot is ARMED. -/
structure State.NoneDue (s : State) : Prop where
  active : s.tsc.active = none
  undrawn : s.clk.state = .unset ∨ s.tsc.plan = [] ∧ ∀ n, (s.slot n).state ≠ .armed

/-- Two states that differ in no more than the plan, the skip list, the free values, the reports waiting, and notices that became
pending. -/
structure Replanned (s t : State) : Prop where
  mec : t.mec = s.mec
  srv : t.srv = s.srv
  ctu : t.ctu = s.ctu
  tpe : t.tpe = s.tpe
  tun : t.tun = s.tun
  tar : t.tar = s.tar
  clk : t.clk = s.clk
  pwr : t.pwr = s.pwr
  slots : t.tsc.slots = s.tsc.slots
  active : t.tsc.active = s.tsc.active
  line : t.lnk.line = s.lnk.line
  keeps : KeepsNotices s t

theorem Replanned.refl (s : State) : Replanned s s :=
  ⟨rfl, rfl, rfl, rfl, rfl, rfl, rfl, rfl, rfl, rfl, rfl, .of_link rfl rfl⟩

theorem Replanned.trans (h : Replanned s t) (h' : Replanned t u) : Replanned s u where
  mec := h'.mec.trans h.mec
  srv := h'.srv.trans h.srv
  ctu := h'.ctu.trans h.ctu
  tpe := h'.tpe.trans h.tpe
  tun := h'.tun.trans h.tun
  tar := h'.tar.trans h.tar
  clk := h'.clk.trans h.clk
  pwr := h'.pwr.trans h.pwr
  slots := h'.slots.trans h.slots
  active := h'.active.trans h.active
  line := h'.line.trans h.line
  keeps := h.keeps.trans h'.keeps

theorem replanned_awaits (l : List Report) (s : State) : Replanned s (s.awaits l) :=
  ⟨rfl, rfl, rfl, rfl, rfl, rfl, rfl, rfl, rfl, rfl, rfl, .of_link rfl rfl⟩

theorem replanned_raise (n : Notice) (s : State) : Replanned s (raise n s) := by
  have hsans : (raise n s).lnk.sansNotices = s.lnk.sansNotices := raise_sans n s
  constructor
  case line => exact Lnk.line_of_sans hsans
  case keeps => exact keeps_raise n s
  all_goals simp

theorem Replanned.of_planOnly (h : PlanOnly s t) (hk : KeepsNotices s t) : Replanned s t :=
  ⟨h.mec, h.srv, h.ctu, h.tpe, h.tun, h.tar, h.clk, h.pwr, h.slots, h.active, Lnk.line_of_sans h.sans, hk⟩

/-- While a frame is on the line, what is pending stays pending to the end of the command. -/
theorem Replanned.pending (h : Replanned s t) (hline : s.lnk.line.isSome) (hn : n ≠ .packet) (hp : s.pendingNotice n = true) :
    (transmit t).pendingNotice n = true := by
  rw [transmit_busy (by rw [h.line]; exact hline)]
  exact h.keeps.kept n hn hp

/-! ### TSC takes a report of CLK's (R180) -/

/-- The skip list expires as the clock tells the date; an UNSET clock tells none (R155). -/
def skipTested (s : State) : State :=
  if s.clk.state == .unset then s else s.mapTsc fun t => { t with skip := expireSkip s.clk.today t.skip }

@[simp] theorem skipTested_tsc (s : State) :
    (skipTested s).tsc.slots = s.tsc.slots ∧ (skipTested s).tsc.active = s.tsc.active ∧
    (skipTested s).tsc.plan = s.tsc.plan := by
  unfold skipTested; split <;> simp

theorem replanned_skipTested (s : State) : Replanned s (skipTested s) := by
  unfold skipTested
  split
  · exact .refl s
  · exact ⟨rfl, rfl, rfl, rfl, rfl, rfl, rfl, rfl, rfl, rfl, rfl, .of_link rfl rfl⟩

theorem skipTested_reports (s : State) : (skipTested s).reports = s.reports := by
  unfold skipTested; split <;> rfl

theorem Replanned.slot (h : Replanned s t) (n : Nat) : t.slot n = s.slot n := slot_of_slots h.slots n

theorem State.NoneDue.drawsNothing (h : s.NoneDue) : (skipTested s).DrawsNothing where
  active := by simpa using h.active
  draws := by
    have hk := replanned_skipTested s
    rcases h.undrawn with hu | ⟨-, hun⟩
    · exact .inl (by rw [hk.clk, hu])
    · exact .inr fun n => drawSlot_unarmed (by rw [hk.slot]; exact hun n)

/-- The skip list expires and the waiting entries whose window is over end, where the clock tells a date (R155, R164). -/
def entriesTested (s : State) : State := if s.clk.state == .unset then skipTested s else missEntries (skipTested s)

/-- The active entry's effective stop moves with a clock that jumps or is set (R180, step 3). -/
def stopTold (r : ClockReport) (s : State) : State :=
  match r.kind, r.size with
  | .jump, some d => stopMoves d s
  | .set, some d => stopMoves d s
  | _, _ => s

theorem clockReported_eq (r : ClockReport) (s : State) :
    clockReported r s =
      if s.clk.state == .unset && (stopTold r (entriesTested s)).tsc.active.isSome then
        endActive .missed (stopTold r (entriesTested s))
      else rebuild (stopTold r (entriesTested s)) := rfl

theorem entriesTested_set (h : s.clk.state ≠ .unset) : entriesTested s = missEntries (skipTested s) := by
  simp [entriesTested, h]

theorem entriesTested_unplanned (h : s.clk.state = .unset ∨ s.tsc.plan = []) : entriesTested s = skipTested s := by
  by_cases hu : s.clk.state = .unset
  · simp [entriesTested, hu]
  · rw [entriesTested_set hu, missEntries_nil (by simpa using h.resolve_left hu)]

/-- With no occurrence active no effective stop moves. -/
theorem stopTold_idle (ha : s.tsc.active = none) (r : ClockReport) : stopTold r s = s := by
  unfold stopTold
  split <;> simp [stopMoves, withActive, ha]

/-- The report leads to a rebuild. -/
theorem State.NoneDue.clockReported (h : s.NoneDue) (r : ClockReport) :
    Machine.clockReported r s = rebuild (skipTested s) := by
  have hstop := stopTold_idle h.drawsNothing.active r
  rw [clockReported_eq, entriesTested_unplanned (h.undrawn.imp_right And.left), hstop, h.drawsNothing.active,
    Option.isSome_none, Bool.and_false, if_neg (by decide)]

/-- The plan is empty, and PLAN is raised (R159). -/
def Rebuilt (s t : State) : Prop :=
  t.tsc.plan = [] ∧ (s.pwr.mode ≠ .backup → s.lnk.mask.getLsbD Notice.plan.bit = true → t.pendingNotice .plan = true)

theorem State.DrawsNothing.rebuilds (h : s.DrawsNothing) : Replanned s (Machine.rebuild s) ∧ Rebuilt s (Machine.rebuild s) := by
  obtain ⟨hp, hplan, -⟩ := h.rebuild_spec
  refine ⟨.of_planOnly hp (keeps_rebuild h), hplan, fun hm hk => ?_⟩
  rw [h.rebuild, h.drawPlan]
  exact raise_pending hm hk

theorem State.NoneDue.takes (h : s.NoneDue) (r : ClockReport) (rest : List Report) :
    (takeReport (.clock r) (s.awaits rest)).NoneDue ∧ Replanned s (takeReport (.clock r) (s.awaits rest)) ∧
    Rebuilt s (takeReport (.clock r) (s.awaits rest)) ∧ (takeReport (.clock r) (s.awaits rest)).reports = rest := by
  have hs : (s.awaits rest).NoneDue := ⟨h.active, h.undrawn⟩
  have htake : takeReport (.clock r) (s.awaits rest) = rebuild (skipTested (s.awaits rest)) := hs.clockReported r
  have hskip := (replanned_awaits rest s).trans (replanned_skipTested _)
  obtain ⟨hp, hplan, hnotice⟩ := hs.drawsNothing.rebuilds
  obtain ⟨-, -, hrep⟩ := hs.drawsNothing.rebuild_spec
  have hall := hskip.trans hp
  rw [htake]
  refine ⟨⟨by rw [hall.active, h.active], ?_⟩, hall, ⟨hplan, ?_⟩, by rw [hrep, skipTested_reports]; rfl⟩
  · rw [hall.clk]
    exact h.undrawn.imp_right fun ⟨_, hun⟩ => ⟨hplan, fun n => by rw [hall.slot]; exact hun n⟩
  · rw [← hskip.pwr, ← hskip.keeps.mask]
    exact hnotice

/-! ### The end of the command -/

/-- The reports are CLK's changes, and visit tests that find sync off. -/
def ClockTold (s : State) (l : List Report) : Prop :=
  ∀ r ∈ l, (∃ c, r = .clock c) ∨ r = .visitTest ∧ s.clk.syncOn = false

theorem settles_told (h : s.NoneDue) (hq : s.reports = l) (hl : ClockTold s l) :
    ∃ t, Settles l.length s t ∧ Replanned s t ∧ (s.tsc.plan = [] → t.tsc.plan = []) ∧
      ∀ c, .clock c ∈ l → Rebuilt s t := by
  induction l generalizing s with
  | nil => exact ⟨s, .quiet hq, .refl s, id, by simp⟩
  | cons r rest ih =>
    have hrest : ClockTold s rest := fun x hx => hl x (by simp [hx])
    rcases hl r (by simp) with ⟨c, rfl⟩ | ⟨rfl, hoff⟩
    · obtain ⟨hdue, hp, ⟨hplan, hnotice⟩, hrep⟩ := h.takes c rest
      obtain ⟨t, ht, hpt, hpl, -⟩ := ih hdue hrep (by rw [ClockTold, hp.clk]; exact hrest)
      have hend : Rebuilt s t := ⟨hpl hplan, fun hm hk => hpt.keeps.kept .plan (by decide) (hnotice hm hk)⟩
      exact ⟨t, settles_take hq ht, hp.trans hpt, fun _ => hend.1, fun _ _ => hend⟩
    · have hidle : takeReport .visitTest (s.awaits rest) = s.awaits rest := idle_visitTest hoff rest
      obtain ⟨t, ht, hpt, hpl, hre⟩ := ih (s := s.awaits rest) ⟨h.active, h.undrawn⟩ rfl hrest
      exact ⟨t, settles_take hq (by rw [hidle]; exact ht), (replanned_awaits rest s).trans hpt, hpl,
        fun c hc => hre c (by simpa using hc)⟩

theorem done_told (h : s.NoneDue) (hq : s.reports = l) (hl : ClockTold s l) (hn : l.length ≤ Config.reportBound) :
    ∃ t, done s = .next (transmit t) ∧ Replanned s t ∧ (s.tsc.plan = [] → t.tsc.plan = []) ∧
      ∀ c, .clock c ∈ l → Rebuilt s t := by
  obtain ⟨t, ht, hp⟩ := settles_told h hq hl
  exact ⟨t, done_of_settles ht hn, hp⟩

end

end Sys2Proof.Machine
end

section
/-! SUPPORT. What CLK's own operations leave of the clock's record, what they report, and what they raise (R127, R129, R131, R132,
R141). -/

namespace Sys2Proof.Machine

section
variable {s : State} {k : ClockKind} {o : ClockState} {d : Int} {m : Summer}

/-! ### A clock report (R129) -/

theorem clockReport_backup (hm : s.pwr.mode = .backup) : clockReport k o d s = clockChanged s := if_pos hm

/-- Out of BACKUP a report is handed to TSC, and CLOCK raised. -/
theorem clockReport_told (hm : s.pwr.mode ≠ .backup) :
    clockReport k o d s = report (.clock
      { kind := k, old := o, new := s.clk.state,
        size := if k = .resume ∨ o = .unset ∨ s.clk.state = .unset then none else some d }) (raise .clock s) := if_neg hm

theorem clockReport_reports (k : ClockKind) (o : ClockState) (d : Int) (s : State) :
    (clockReport k o d s).reports = s.reports ∨ ∃ c, (clockReport k o d s).reports = s.reports ++ [.clock c] := by
  by_cases hm : s.pwr.mode = .backup
  · exact .inl (by simp [clockReport_backup hm])
  · exact .inr ⟨_, by rw [clockReport_told hm, report_reports]; simp; rfl⟩

@[simp] theorem clockReport_sans (k : ClockKind) (o : ClockState) (d : Int) (s : State) :
    (clockReport k o d s).lnk.sansNotices = s.lnk.sansNotices := by
  unfold clockReport; split <;> simp

theorem clockReport_pending (hm : s.pwr.mode ≠ .backup) (hk : s.lnk.mask.getLsbD Notice.clock.bit = true) :
    (clockReport k o d s).pendingNotice .clock = true := by
  rw [clockReport_told hm]
  exact raise_pending hm hk

/-! ### The summer state is set (R129, R131) -/

theorem setSummer_clk (m : Summer) (offset : Int) (s : State) :
    (setSummer m offset s).clk =
      { s.clk with
        summer := m, offset := offset, changed := s.clk.changed || (s.clk.summer != m && s.pwr.mode == .backup) } := by
  unfold setSummer clockChanged
  by_cases h : (s.clk.summer != m && s.pwr.mode == .backup) = true <;> simp [h]

@[simp] theorem setSummer_sans (m : Summer) (offset : Int) (s : State) :
    (setSummer m offset s).lnk.sansNotices = s.lnk.sansNotices := by
  unfold setSummer; dsimp only; split <;> simp

/-- A change of the summer state raises CLOCK. -/
theorem setSummer_pending {offset : Int} (hs : s.clk.summer ≠ m) (hm : s.pwr.mode ≠ .backup)
    (hk : s.lnk.mask.getLsbD Notice.clock.bit = true) : (setSummer m offset s).pendingNotice .clock = true := by
  have hc : (s.clk.summer != m) = true := by simpa using hs
  have hb : (s.pwr.mode == .backup) = false := by simpa using hm
  simp only [setSummer, hc, Bool.true_and, State.mapClk_pwr, hb, Bool.false_eq_true, if_false, raiseIf, if_true]
  exact raise_pending hm hk

/-- The evaluation sets the summer state and the offset in force, or with no rule of its own neither (R131). -/
theorem evaluateReading_clk (s : State) : ∃ m offset changed,
    (evaluateReading s).clk = { s.clk with summer := m, offset := offset, changed := changed } := by
  unfold evaluateReading
  split
  · exact ⟨s.clk.summer, s.clk.offset, s.clk.changed, rfl⟩
  · exact ⟨_, _, _, setSummer_clk ..⟩

@[simp] theorem evaluateReading_sans (s : State) : (evaluateReading s).lnk.sansNotices = s.lnk.sansNotices := by
  unfold evaluateReading; split <;> simp

/-! ### The wrap (R127) -/

/-- The clock at its reset value, UNSET, its summer state evaluated. -/
def wrapped (s : State) : State := evaluateReading (s.mapClk fun c => { c with now := Clk.reset.now, state := .unset })

theorem clockWraps_eq (s : State) :
    clockWraps s = stateMoved s.clk.state (clockReport .set s.clk.state 0 (wrapped s)) := rfl

theorem wrapped_clk (s : State) :
    (wrapped s).clk.now = Clk.reset.now ∧ (wrapped s).clk.state = .unset ∧ (wrapped s).clk.sub = s.clk.sub ∧
    (wrapped s).clk.syncOn = s.clk.syncOn := by
  obtain ⟨m, o, b, h⟩ := evaluateReading_clk (s.mapClk fun c => { c with now := Clk.reset.now, state := .unset })
  simp [wrapped, h]

theorem clockWraps_clk (s : State) :
    (clockWraps s).clk.now = Clk.reset.now ∧ (clockWraps s).clk.state = .unset ∧ (clockWraps s).clk.sub = s.clk.sub ∧
    (clockWraps s).clk.syncOn = s.clk.syncOn ∧ (s.pwr.mode = .backup → (clockWraps s).clk.changed = true) := by
  have hmode : (wrapped s).pwr.mode = s.pwr.mode := by simp [wrapped]
  obtain ⟨h1, h2, h3, h4⟩ := wrapped_clk s
  simp [clockWraps_eq, clockReport_clk, hmode]
  by_cases hm : s.pwr.mode = .backup <;> simp [hm, h1, h2, h3, h4]

@[simp] theorem clockWraps_sans (s : State) : (clockWraps s).lnk.sansNotices = s.lnk.sansNotices := by
  simp [clockWraps_eq, wrapped]

theorem clockWraps_pending (hm : s.pwr.mode ≠ .backup) (hk : s.lnk.mask.getLsbD Notice.clock.bit = true) :
    (clockWraps s).pendingNotice .clock = true := by
  have hsans : (wrapped s).lnk.sansNotices = s.lnk.sansNotices := by simp [wrapped]
  have hp := clockReport_pending (k := .set) (o := s.clk.state) (d := 0) (s := wrapped s) (by simpa [wrapped] using hm)
    (by rw [Lnk.mask_of_sans hsans]; exact hk)
  simpa [clockWraps_eq, State.pendingNotice] using hp

/-- The wrap is reported, and a clock that was set lost its state, an input of the visit condition (R136). -/
theorem clockWraps_reports (s : State) : ∃ l, (clockWraps s).reports = s.reports ++ l ∧ l.length ≤ 2 ∧
    ∀ r ∈ l, (∃ c, r = .clock c) ∨ r = .visitTest ∧ s.clk.state ≠ .unset := by
  have hmoved := reportIf_eq ((clockReport .set s.clk.state 0 (wrapped s)).clk.state != s.clk.state) .visitTest
    (clockReport .set s.clk.state 0 (wrapped s))
  have hstate : (clockReport .set s.clk.state 0 (wrapped s)).clk.state = .unset := by
    obtain ⟨-, h, -⟩ := wrapped_clk s
    rw [clockReport_clk]
    split <;> exact h
  have hquiet : (wrapped s).reports = s.reports := by simp [wrapped]
  rw [clockWraps_eq, stateMoved, hmoved, hstate]
  by_cases hu : s.clk.state = .unset
  · rcases clockReport_reports .set s.clk.state 0 (wrapped s) with hr | ⟨c, hr⟩ <;> rw [hr, hquiet, hu]
    · exact ⟨[], by simp⟩
    · exact ⟨[.clock c], by simp⟩
  · have hvisit : (ClockState.unset != s.clk.state) = true := by simpa using Ne.symm hu
    rcases clockReport_reports .set s.clk.state 0 (wrapped s) with hr | ⟨c, hr⟩ <;> rw [hr, hquiet, hvisit]
    · exact ⟨[.visitTest], by simp [hu]⟩
    · exact ⟨[.clock c, .visitTest], by simp [hu]⟩

end

end Sys2Proof.Machine
end

section
/-! The rest of a second, without a summer rule: the carries, and the wrap past 2099 (R127). -/

namespace Sys2Proof.Machine

section
variable {s t v : State} {now : DateTime} {st : ClockState}

/-! ### The carries -/

theorem DateTime.valid_iff {d : DateTime} :
    d.valid = true ↔ d.year ≤ 99 ∧ (1 ≤ d.month ∧ d.month ≤ 12) ∧ (1 ≤ d.day ∧ d.day ≤ monthLength d.year d.month) ∧
      d.hour ≤ 23 ∧ d.minute ≤ 59 ∧ d.second ≤ 59 := by
  simp [DateTime.valid, and_assoc]

theorem DateTime.next_hour {d : DateTime} (hs : d.second = 59) (hm : d.minute = 59) (hh : d.hour < 23) :
    d.next = { d with second := 0, minute := 0, hour := d.hour + 1 } := by
  simp [DateTime.next, hs, hm, hh]

section
variable {d : DateTime} (hs : d.second = 59) (hm : d.minute = 59) (hh : d.hour = 23)
include hs hm hh

theorem DateTime.next_day (hd : d.day < monthLength d.year d.month) :
    d.next = { d with second := 0, minute := 0, hour := 0, day := d.day + 1 } := by
  simp [DateTime.next, hs, hm, hh, Nat.succ_le_of_lt hd]

theorem DateTime.next_month (hd : d.day = monthLength d.year d.month) (hmo : d.month < 12) :
    d.next = { d with second := 0, minute := 0, hour := 0, day := 1, month := d.month + 1 } := by
  simp [DateTime.next, hs, hm, hh, hd, hmo]

theorem DateTime.next_year (hd : d.day = monthLength d.year d.month) (hmo : d.month = 12) :
    d.next = { d with second := 0, minute := 0, hour := 0, day := 1, month := 1, year := d.year + 1 } := by
  simp [DateTime.next, hs, hm, hh, hd, hmo]

end

/-- The reading a second later, past 2099 the reset value. -/
def DateTime.after (d : DateTime) : DateTime := if 99 < d.next.year then Clk.reset.now else d.next

theorem DateTime.after_eq {d e : DateTime} (h : d.next = e) (hy : e.year ≤ 99) : d.after = e := by
  rw [DateTime.after, h, if_neg (Nat.not_lt.mpr hy)]

theorem DateTime.after_wrap {d : DateTime} (h : 99 < d.next.year) : d.after = Clk.reset.now := if_pos h

/-! ### The advance -/

/-- What an advance leaves: the reading and the state shown, TSC's records, and what is reported. -/
structure Advances (now : DateTime) (st : ClockState) (s v : State) : Prop where
  now : v.clk.now = now
  state : v.clk.state = st
  sub : v.clk.sub = s.clk.sub
  syncOn : v.clk.syncOn = s.clk.syncOn
  tsc : v.tsc = s.tsc
  reports : ∃ l, v.reports = s.reports ++ l ∧ l.length ≤ 2 ∧
    ∀ r ∈ l, (∃ c, r = .clock c) ∨ r = .visitTest ∧ s.clk.state ≠ .unset

/-- Within the clock's years the next second is shown, and midnight reported. -/
theorem advances_within (ha : s.tsc.active = none) (hr : s.clk.ruleInForce = none) (hy : s.clk.now.next.year ≤ 99) :
    Advances s.clk.now.next s.clk.state s (advanceSecond s) := by
  rw [advanceSecond_within hy, transition_ruleless hr, secondPasses_idle ha]
  by_cases hmid : s.clk.now.hour = 23 ∧ s.clk.now.next.hour = 0
  · rw [secondShown_midnight hmid]
    constructor
    case reports =>
      rcases clockReport_reports .midnight (s.mapClk Clk.trimmed).clk.state 0
        ((s.mapClk Clk.trimmed).mapClk fun c => { c with now := s.clk.now.next }) with hr | ⟨c, hr⟩
      · exact ⟨[], by simpa using hr⟩
      · exact ⟨[.clock c], by simpa using hr⟩
    all_goals by_cases hm : s.pwr.mode = .backup <;> simp [hm]
  · rw [secondShown_steady hmid]
    constructor
    case reports => exact ⟨[], by simp⟩
    all_goals simp

/-- Past 2099 the clock wraps. -/
theorem advances_wrap (ha : s.tsc.active = none) (hy : 99 < s.clk.now.next.year) :
    Advances Clk.reset.now .unset s (advanceSecond s) := by
  rw [advanceSecond_wraps hy, secondPasses_idle ha]
  obtain ⟨h1, h2, h3, h4, -⟩ := clockWraps_clk (s.mapClk Clk.trimmed)
  have hrep := clockWraps_reports (s.mapClk Clk.trimmed)
  constructor
  case reports => simpa using hrep
  all_goals simp [h1, h2, h3, h4]

/-! ### The end of the command -/

/-- CLK's record as the rest of the present second is over. -/
theorem secondAdvance_eq (hv : s.clk.visitAge = none) (hr : s.clk.retry = none) :
    exec .clockSecondAdvance s =
      done (advanceSecond (s.mapClk fun c => (c.aged (64 - s.clk.sub)).secondOver)) := by
  rw [exec_clockSecondAdvance, clockSecond_eq, ticksPass_below (.inl hv) (by simp [hr])]
  rfl

/-- An advance of an UNSET clock, or with nothing planned and sync off, ends with what it reported taken. -/
theorem Advances.ends (h : Advances now st s v) (hq : s.reports.length ≤ 1 ∧ ClockTold s s.reports) (hdue : v.NoneDue)
    (hs : s.clk.state = .unset ∨ s.clk.syncOn = false) :
    ∃ t, done v = .next (transmit t) ∧ Replanned v t ∧ (s.tsc.plan = [] → t.tsc.plan = []) := by
  obtain ⟨l, hl, hlen, hkind⟩ := h.reports
  have htold : ClockTold v v.reports := fun r hr => by
    rw [h.syncOn]
    rw [hl, List.mem_append] at hr
    rcases hr with hr | hr
    · exact hq.2 r hr
    · exact (hkind r hr).imp_right fun ⟨hr, hset⟩ => ⟨hr, hs.resolve_left hset⟩
  obtain ⟨t, ht, hp, hplan, -⟩ := done_told hdue rfl htold
    (by rw [hl, List.length_append]; exact Nat.le_trans (Nat.add_le_add hq.1 hlen) (by decide))
  exact ⟨t, ht, hp, by rwa [← h.tsc]⟩

/-- With no rule in force and no occurrence active, an UNSET clock shows the reading a second later, and stays UNSET. -/
theorem unset_secondAdvance (hq : s.reports = []) (hv : s.clk.visitAge = none) (hr : s.clk.retry = none)
    (ha : s.tsc.active = none) (hrule : s.clk.ruleInForce = none) (hu : s.clk.state = .unset) :
    ∃ t, exec .clockSecondAdvance s = .next t ∧ t.clk.sub = 0 ∧ t.clk.state = .unset ∧ t.clk.now = s.clk.now.after ∧
      t.mec = s.mec ∧ t.tun = s.tun ∧ t.tar = s.tar ∧ t.pwr = s.pwr ∧ t.tsc.slots = s.tsc.slots := by
  let w := s.mapClk fun c => (c.aged (64 - s.clk.sub)).secondOver
  have hadv : Advances s.clk.now.after .unset w (advanceSecond w) := by
    by_cases hy : s.clk.now.next.year ≤ 99
    · have h := advances_within (s := w) ha hrule hy
      rw [DateTime.after_eq rfl hy, ← hu]
      exact h
    · rw [DateTime.after_wrap (Nat.not_le.mp hy)]
      exact advances_wrap (s := w) ha (Nat.not_le.mp hy)
  obtain ⟨t, ht, hp, -⟩ :=
    hadv.ends (by simp [ClockTold, w, hq]) ⟨by rw [hadv.tsc]; exact ha, .inl hadv.state⟩ (.inl hu)
  have wsub : w.clk.sub = 0 := rfl
  have wtsc : w.tsc = s.tsc := rfl
  refine ⟨_, by rw [secondAdvance_eq hv hr, ht], ?_⟩
  simp only [transmit_records, hp.clk, hp.mec, hp.tun, hp.tar, hp.pwr, hp.slots, hadv.now, hadv.state, hadv.sub, hadv.tsc,
    advanceSecond_frame, wsub, wtsc]
  exact ⟨trivial, trivial, trivial, rfl, rfl, rfl, rfl, trivial⟩

/-- What the wrap of a clock that was set leaves, with nothing planned and sync off. -/
structure Wrapped (s t : State) : Prop where
  state : t.clk.state = .unset
  sub : t.clk.sub = 0
  now : t.clk.now = Clk.reset.now
  plan : t.tsc.plan = []
  slots : t.tsc.slots = s.tsc.slots
  changed : s.pwr.mode = .backup → t.clk.changed = true
  raised : s.pwr.mode ≠ .backup → s.lnk.line.isSome → s.lnk.mask.getLsbD 7 = true → t.pendingNotice .clock = true
  mec : t.mec = s.mec
  tun : t.tun = s.tun
  tar : t.tar = s.tar
  pwr : t.pwr = s.pwr

theorem set_secondWraps (hq : s.reports = []) (hr : s.clk.retry = none) (ha : s.tsc.active = none)
    (hplan : s.tsc.plan = []) (hoff : s.clk.syncOn = false) (hy : 99 < s.clk.now.next.year) :
    ∃ t, exec .clockSecondAdvance s = .next t ∧ Wrapped s t := by
  obtain ⟨hnow, hsync, hrep⟩ := ticksPass_spec (n := 64 - s.clk.sub) hr
  let w := (ticksPass (64 - s.clk.sub) s).mapClk Clk.secondOver
  obtain ⟨wmec, wtun, wtar, wtsc, wpwr, wlnk⟩ :
      w.mec = s.mec ∧ w.tun = s.tun ∧ w.tar = s.tar ∧ w.tsc = s.tsc ∧ w.pwr = s.pwr ∧ w.lnk = s.lnk := ticksPass_frame _ _
  have wnow : w.clk.now = s.clk.now := hnow
  have woff : w.clk.syncOn = false := hsync.trans hoff
  have wquiet : w.reports.length ≤ 1 ∧ ClockTold w w.reports := by
    have wrep : w.reports = [] ∨ w.reports = [.visitTest] := by simpa [w, hq] using hrep
    rcases wrep with h | h <;> simp [ClockTold, h, woff]
  have wactive : w.tsc.active = none := by rw [wtsc, ha]
  have hadv := advances_wrap wactive (by rw [wnow]; exact hy)
  obtain ⟨t, ht, hp, hpl⟩ := hadv.ends wquiet ⟨by rw [hadv.tsc, wactive], .inl hadv.state⟩ (.inr woff)
  have hwraps : advanceSecond w = clockWraps (secondPasses w) := advanceSecond_wraps (by rw [wnow]; exact hy)
  have hchanged : s.pwr.mode = .backup → (advanceSecond w).clk.changed = true := fun hm => by
    obtain ⟨-, -, -, -, h⟩ := clockWraps_clk (secondPasses w)
    rw [hwraps]
    exact h (by simpa [wpwr] using hm)
  have hraised : s.pwr.mode ≠ .backup → s.lnk.mask.getLsbD 7 = true → (advanceSecond w).pendingNotice .clock = true :=
    fun hm hk => by
      rw [hwraps]
      exact clockWraps_pending (by simpa [wpwr] using hm) (by simpa [wlnk, Notice.bit] using hk)
  have hline : (advanceSecond w).lnk.line = s.lnk.line := by
    have hsans : (advanceSecond w).lnk.sansNotices = s.lnk.sansNotices := by simp [hwraps, wlnk]
    exact Lnk.line_of_sans hsans
  refine ⟨_, by rw [exec_clockSecondAdvance, clockSecond_eq]; exact ht, ?_⟩
  constructor
  case sub => simp [hp.clk, hadv.sub, w, Clk.secondOver]
  case plan => simpa using hpl (by rw [wtsc, hplan])
  case changed => simpa [hp.clk] using hchanged
  case raised => exact fun hm hbusy hk => hp.pending (by rw [hline]; exact hbusy) (by decide) (hraised hm hk)
  all_goals simp [hp.clk, hp.mec, hp.tun, hp.tar, hp.pwr, hp.slots, hadv.now, hadv.state, hadv.tsc, wmec, wtun, wtar, wpwr,
    wtsc]

end

end Sys2Proof.Machine

namespace Sys2Proof.Proofs
open Sys2Proof.Machine

/-- Settles O43. An UNSET clock shows the next reading, along its carries; of a clock that was set only the wrap is asked. -/
theorem secondsCarry : Obligations.SecondsCarry := by
  refine ⟨?_, ?_⟩
  · intro s hq hv hr _ ha hrule hu hvalid d
    obtain ⟨t, ht, hsub, hst, hnow, hrest⟩ := unset_secondAdvance hq hv hr ha hrule hu
    obtain ⟨hy, -⟩ := DateTime.valid_iff.mp hvalid
    refine ⟨t, ht, hsub, hst, fun hs => ?_, fun hs hm => ?_, fun hs hm hh => ?_, fun hs hm hh => ⟨fun hd => ?_,
      fun hd hmo => ?_, fun hd hmo hlt => ?_, fun hd hmo hlast => ?_⟩, hrest⟩ <;> rw [hnow]
    · exact DateTime.after_eq (DateTime.next_second hs) hy
    · exact DateTime.after_eq (DateTime.next_minute hs hm) hy
    · exact DateTime.after_eq (DateTime.next_hour hs hm hh) hy
    · exact DateTime.after_eq (DateTime.next_day hs hm hh hd) hy
    · exact DateTime.after_eq (DateTime.next_month hs hm hh hd hmo) hy
    · exact DateTime.after_eq (DateTime.next_year hs hm hh hd hmo) hlt
    · exact DateTime.after_wrap (by rw [DateTime.next_year hs hm hh hd hmo]; exact Nat.lt_succ_of_le hlast.ge)
  · intro s hq hr _ ha hplan hoff _ _ hnow
    obtain ⟨t, ht, h⟩ := set_secondWraps hq hr ha hplan hoff (by rw [hnow]; decide)
    exact ⟨t, ht, h.state, h.sub, h.now, h.plan, h.slots, h.changed, h.raised, h.mec, h.tun, h.tar, h.pwr⟩

end Sys2Proof.Proofs
end

section
/-! SUPPORT. A summer transition (R132): the clock that is moved, and how the command ends where no occurrence is active. -/

namespace Sys2Proof.Machine

section
variable {s t u v : State} {r : SummerRule} {c : Clk} {i : Nat} {m : Summer} {q z : Int} {now : DateTime}

/-! ### Which transition an advance meets -/

theorem transition_forward (hr : c.ruleInForce = some r) (hm : c.summer = .standard) (hi : i = r.startAt (instantYear i)) :
    c.transition i = .forward := by
  simp only [Clk.transition, hr, hm]
  exact if_pos hi

theorem transition_backward (hr : c.ruleInForce = some r) (hm : c.summer = .summer) (hi : i = r.endAt (instantYear i)) :
    c.transition i = .backward := by
  simp only [Clk.transition, hr, hm]
  exact if_pos hi

theorem transition_repeatEnds (hr : c.ruleInForce = some r) (hm : c.summer = .repeated) (hi : i = r.endAt (instantYear i)) :
    c.transition i = .repeatEnds := by
  simp only [Clk.transition, hr, hm]
  exact if_pos hi

/-! ### The tick that ends a second -/

/-- The tick and its second are counted, the next reading not yet shown. -/
def secondEnds (s : State) : State := secondPasses (s.mapClk Clk.secondBegins)

theorem exec_secondTick (hv : s.clk.visitAge = none) (hr : s.clk.retry = none) (hsub : s.clk.sub = 63)
    (hy : s.clk.now.next.year ≤ 99) :
    exec .clockTick s = done (secondShown s.clk.now (s.clk.transition s.clk.now.next.instant) (secondEnds s)) := by
  rw [exec_clockTick, tick_last (.inl hv) (by simp [hr]) hsub,
    advanceSecond_within (s := s.mapClk Clk.secondBegins) hy]
  rfl

@[simp] theorem secondEnds_frame (s : State) :
    (secondEnds s).mec = s.mec ∧ (secondEnds s).tun = s.tun ∧ (secondEnds s).tar = s.tar ∧ (secondEnds s).pwr = s.pwr ∧
    (secondEnds s).lnk = s.lnk ∧ (secondEnds s).reports = s.reports ∧ (secondEnds s).clk.state = s.clk.state ∧
    (secondEnds s).clk.summer = s.clk.summer ∧ (secondEnds s).clk.offset = s.clk.offset := by
  simp [secondEnds, Clk.secondBegins, Clk.secondOver, Clk.aged]

/-- A recording under time control has a second less, out of BACKUP (R169). -/
def Active.counts (a : Active) : Active :=
  if a.state = .recording ∧ a.control = .time then { a with remaining := a.remaining - 1 } else a

theorem secondEnds_tsc (s : State) :
    (secondEnds s).tsc =
      { s.tsc with active := if s.pwr.mode = .backup then s.tsc.active else s.tsc.active.map Active.counts } := by
  unfold secondEnds secondPasses remainingSecond
  by_cases hm : s.pwr.mode = .backup
  · simp [hm]
  · simp only [State.mapClk_pwr, hm, if_false]
    rfl

theorem secondEnds_idle (ha : s.tsc.active = none) : (secondEnds s).tsc = s.tsc := by
  rw [secondEnds_tsc, ha, Option.map_none, ite_self, ← ha]

/-! ### The clock is moved -/

/-- A clock whose summer state changes, as the reports made then are still to be taken. -/
structure SummerMoved (now : DateTime) (m : Summer) (q : Int) (s v : State) : Prop where
  now : v.clk.now = now
  summer : v.clk.summer = m
  offset : v.clk.offset = s.clk.offset + q
  state : v.clk.state = s.clk.state
  mec : v.mec = s.mec
  tun : v.tun = s.tun
  tar : v.tar = s.tar
  pwr : v.pwr = s.pwr
  tsc : v.tsc = (secondEnds s).tsc
  line : v.lnk.line = s.lnk.line
  mask : v.lnk.mask = s.lnk.mask
  changed : s.pwr.mode = .backup → v.clk.changed = true
  raised : s.pwr.mode ≠ .backup → s.lnk.mask.getLsbD Notice.clock.bit = true → v.pendingNotice .clock = true

/-- The next reading is shown with its summer state. -/
def summerShown (d : DateTime) (m : Summer) (q : Int) (s : State) : State :=
  setSummer m ((secondEnds s).clk.offset + q) ((secondEnds s).mapClk fun c => { c with now := d })

theorem summerShown_moved (hm : s.clk.summer ≠ m) : SummerMoved now m q s (summerShown now m q s) := by
  have hsans : (summerShown now m q s).lnk.sansNotices = s.lnk.sansNotices := by simp [summerShown]
  constructor
  case line => exact Lnk.line_of_sans hsans
  case mask => exact Lnk.mask_of_sans hsans
  case changed => simp +contextual [summerShown, setSummer_clk, hm]
  case raised => exact fun hb hk => setSummer_pending (by simpa using hm) (by simpa using hb) (by simpa using hk)
  all_goals simp [summerShown, setSummer_clk]

/-- A report changes nothing of it, and raises CLOCK again. -/
theorem SummerMoved.reported {k : ClockKind} {o : ClockState} (h : SummerMoved now m q s v) :
    SummerMoved now m q s (clockReport k o z v) := by
  obtain ⟨h1, h2, h3, h4, h5, h6, h7, h8, h9, h10, h11, h12, h13⟩ := h
  have hsans : (clockReport k o z v).lnk.sansNotices = v.lnk.sansNotices := clockReport_sans ..
  constructor
  case line => rw [Lnk.line_of_sans hsans, h10]
  case mask => rw [Lnk.mask_of_sans hsans, h11]
  case changed => exact fun hb => by simp [h8, hb]
  case raised => exact fun hb hk => clockReport_pending (by rw [h8]; exact hb) (by rw [h11]; exact hk)
  all_goals simp only [clockReport_frame, clockReport_clk, apply_ite Clk.now, apply_ite Clk.summer, apply_ite Clk.offset,
    apply_ite Clk.state, ite_self, h1, h2, h3, h4, h5, h6, h7, h8, h9]

theorem jumps_eq (i : Nat) (m : Summer) (q z : Int) (s : State) : jumps i m q z (secondEnds s) =
    clockReport .jump (summerShown (.ofInstant i) m q s).clk.state z (summerShown (.ofInstant i) m q s) := rfl

theorem jumps_moved (hm : s.clk.summer ≠ m) : SummerMoved (.ofInstant i) m q s (jumps i m q z (secondEnds s)) := by
  rw [jumps_eq]
  exact (summerShown_moved hm).reported

/-- The JUMP that is reported: of a clock that was set it has a size (R129). -/
def jumpOf (z : Int) (s : State) : ClockReport :=
  { kind := .jump, old := s.clk.state, new := s.clk.state, size := if s.clk.state = .unset then none else some z }

/-- In BACKUP nothing is reported. -/
theorem jumps_reports (hm : s.clk.summer ≠ m) : (jumps i m q z (secondEnds s)).reports =
    s.reports ++ if s.pwr.mode = .backup then [] else [.clock (jumpOf z s)] := by
  have h := summerShown_moved (now := .ofInstant i) (q := q) hm
  have hquiet : (summerShown (.ofInstant i) m q s).reports = s.reports := by simp [summerShown]
  rw [jumps_eq]
  by_cases hb : s.pwr.mode = .backup
  · rw [clockReport_backup (by rw [h.pwr]; exact hb)]
    simp [hquiet, hb]
  · rw [clockReport_told (by rw [h.pwr]; exact hb), h.state, report_reports]
    simp [hquiet, hb, jumpOf]

/-! ### The end of the command -/

/-- The clock is moved, and no record but CLK's and TSC's has changed. -/
structure SummerShown (now : DateTime) (m : Summer) (q : Int) (s t : State) : Prop where
  now : t.clk.now = now
  summer : t.clk.summer = m
  offset : t.clk.offset = s.clk.offset + q
  state : t.clk.state = s.clk.state
  mec : t.mec = s.mec
  tun : t.tun = s.tun
  tar : t.tar = s.tar
  pwr : t.pwr = s.pwr
  slots : t.tsc.slots = s.tsc.slots
  changed : s.pwr.mode = .backup → t.clk.changed = true
  raised : s.pwr.mode ≠ .backup → s.lnk.line.isSome → s.lnk.mask.getLsbD Notice.clock.bit = true →
    t.pendingNotice .clock = true

theorem SummerMoved.shown (h : SummerMoved now m q s v) (hp : Replanned v t) : SummerShown now m q s (transmit t) := by
  constructor
  case raised => exact fun hb hline hk => hp.pending (by rw [h.line]; exact hline) (by decide) (h.raised hb hk)
  case changed => exact fun hb => by simpa [hp.clk] using h.changed hb
  all_goals simp [hp.clk, hp.mec, hp.tun, hp.tar, hp.pwr, hp.slots, h.now, h.summer, h.offset, h.state, h.mec, h.tun, h.tar,
    h.pwr, h.tsc, secondEnds_tsc]

/-- The plan that a rebuild leaves with nothing to draw, where one is made: not in BACKUP. -/
def RebuiltPlan (s t : State) : Prop :=
  s.pwr.mode ≠ .backup → t.tsc.plan = [] ∧
    (s.lnk.line.isSome → s.lnk.mask.getLsbD Notice.plan.bit = true → t.pendingNotice .plan = true)

/-- With no occurrence active and none to draw, the JUMP only rebuilds the plan. -/
theorem done_jumps (hq : s.reports = []) (hdue : s.NoneDue) (hm : s.clk.summer ≠ m) :
    ∃ t, done (jumps i m q z (secondEnds s)) = .next t ∧ SummerShown (.ofInstant i) m q s t ∧ RebuiltPlan s t := by
  have hv := jumps_moved (i := i) (q := q) (z := z) hm
  have hrep := jumps_reports (i := i) (q := q) (z := z) hm
  have htsc : (jumps i m q z (secondEnds s)).tsc = s.tsc := hv.tsc.trans (secondEnds_idle hdue.active)
  generalize jumps i m q z (secondEnds s) = v at hv hrep htsc ⊢
  rw [hq, List.nil_append] at hrep
  have hslots : v.tsc.slots = s.tsc.slots := by rw [htsc]
  have hvdue : v.NoneDue := ⟨by rw [htsc, hdue.active], by
    rw [hv.state]
    exact hdue.undrawn.imp_right fun ⟨hp, hun⟩ => ⟨by rw [htsc, hp], fun n => by
      rw [slot_of_slots hslots]; exact hun n⟩⟩
  have htold : ClockTold v v.reports := fun r hr => .inl (by
    rw [hrep] at hr
    split at hr
    · cases hr
    · exact ⟨_, List.mem_singleton.mp hr⟩)
  obtain ⟨t, ht, hp, -, hre⟩ := done_told hvdue rfl htold (Nat.le_trans (m := 1) (by rw [hrep]; split <;> simp) (by decide))
  refine ⟨_, ht, hv.shown hp, fun hb => ?_⟩
  obtain ⟨hplan, hnotice⟩ := hre (jumpOf z s) (by rw [hrep, if_neg hb]; exact List.mem_singleton_self _)
  refine ⟨by simpa using hplan, fun hline hk => ?_⟩
  rw [transmit_busy (by rw [hp.line, hv.line]; exact hline)]
  exact hnotice (by rw [hv.pwr]; exact hb) (by rw [hv.mask]; exact hk)

/-- The repeated hour ends with the reading unmoved, and nothing is reported. -/
theorem done_repeatEnds (hq : s.reports = []) (ha : s.tsc.active = none) (hm : s.clk.summer = .repeated) :
    ∃ t, done (secondShown s.clk.now .repeatEnds (secondEnds s)) = .next t ∧
      SummerShown s.clk.now.next .standard 0 s t ∧ t.tsc = s.tsc := by
  have hshown : secondShown s.clk.now .repeatEnds (secondEnds s) = summerShown s.clk.now.next .standard 0 s := by
    rw [summerShown, add_zero]
    rfl
  have hv := summerShown_moved (s := s) (now := s.clk.now.next) (m := .standard) (q := 0) (by rw [hm]; decide)
  refine ⟨_, by rw [hshown]; exact done_quiet (by simp [summerShown, hq]), hv.shown (.refl _), ?_⟩
  simpa [hv.tsc] using secondEnds_idle ha

end

end Sys2Proof.Machine
end

section
/-! SUPPORT. A JUMP while an occurrence records, that is all the plan holds: its effective stop moves with the clock (R159 to R163,
R169, R180). -/

namespace Sys2Proof.Machine

section
variable {s t v : State} {a b : Active} {e : PlanEntry} {date : Nat} {z : Int} {i : Nat} {m : Summer} {q : Int}

/-- Slots for one date, whose run guards are at it, call for nothing more (R161). -/
theorem drawSlot_guarded {n : Nat} (h : (s.slot n).state = .armed →
    (s.slot n).recurrence = .once ∧ (s.slot n).once = date ∧ (s.slot n).guard = some date) : drawSlot s n = [] := by
  by_cases ha : (s.slot n).state = .armed
  · obtain ⟨honce, hdate, hguard⟩ := h ha
    have hcalls : ∀ d, (s.slot n).callsFor d = true → d = date := fun d hd => by
      rw [Slot.callsFor, honce, beq_iff_eq] at hd
      rw [← hd, hdate]
    rw [drawSlot, if_pos ha, List.filter_eq_nil_iff]
    intro x hx
    obtain ⟨d, hd, rfl⟩ := List.mem_map.mp (List.mem_filter.mp hx).1
    have hd : (occurrenceOf s.clk n (s.slot n) d).date = date := hcalls d (List.mem_filter.mp hd).2
    simp [hd, Slot.guarded, hguard]
  · exact drawSlot_unarmed ha

/-- Nothing is taken of an occurrence whose entry no conflict trimmed (R162). -/
theorem trimTaken_clear (h : ∀ x ∈ s.tsc.plan, x.conflict = .clear) : trimTaken s = s := by
  unfold trimTaken
  cases ha : s.tsc.active with
  | none => rfl
  | some b =>
    cases he : s.activeEntry with
    | none => rfl
    | some x =>
      have hx : x ∈ s.tsc.plan := by
        simp only [State.activeEntry, ha, Option.bind_some, State.entry] at he
        exact List.mem_of_find?_eq_some he
      simp [h x hx]

/-- With an occurrence active, a plan in which no entry is PLANNED has none that is due (R164). -/
theorem armingTest_begun (ha : s.tsc.active = some b) (h : ∀ x ∈ s.tsc.plan, x.state ≠ .planned) : armingTest s = s := by
  have hdue : ∀ x ∈ s.tsc.plan, x.due s.clk = false := fun x hx => by simp [PlanEntry.due, h x hx]
  have hnone : s.tsc.plan.filter (PlanEntry.due s.clk) = [] := by
    rw [List.filter_eq_nil_iff]
    exact fun x hx => by simp [hdue x hx]
  have hmap : s.tsc.plan.map (PlanEntry.waits s.clk) = s.tsc.plan :=
    (List.map_congr_left fun x hx => by simp [PlanEntry.waits, hdue x hx]).trans (List.map_id _)
  rw [armingTest_active ha, hnone]
  simp only [State.mapTsc, hmap]
  rfl

/-- An active occurrence whose entry, trimmed by none, is all that the plan holds. -/
structure State.Sole (b : Active) (e : PlanEntry) (s : State) : Prop where
  active : s.tsc.active = some b
  plan : s.tsc.plan = [e]
  entry : e.is b.slot b.date = true
  clear : e.conflict = .clear
  recording : e.state = .recording
  draws : ∀ n, drawSlot s n = []

/-- What the fit pass makes of the active entry alone: a verdict (R163). -/
theorem State.Sole.drawPlan (h : s.Sole b e) :
    ∃ f, drawPlan s = { (s.mapTsc fun t => { t with plan := [{ e with fit := f }] }) with fresh := s.fresh + 1 } := by
  have hactive : s.isActive e = true := by rw [State.isActive, h.active]; exact h.entry
  have hentry : s.activeEntry = some e := by simp [State.activeEntry, State.entry, h.active, h.plan, h.entry]
  have hruns : e.runs = true := by simp [PlanEntry.runs, h.clear]
  have hfit : fitPass s [e] = [{ e with fit := fitOf s.tpe.ls (e.need s.clk.reading e.grade) e.grade }] := by
    simp [fitPass, fitWalk, fitStep, hruns, hactive, FitWalk.gradeFor]
  refine ⟨fitOf s.tpe.ls (e.need s.clk.reading e.grade) e.grade, ?_⟩
  rw [Machine.drawPlan, selectPlan_activeAlone h.draws, hentry, Option.toList_some, conflictPass_active e hactive, hfit]

/-- The rebuild keeps the entry, but for its fit. -/
theorem State.Sole.rebuild (h : s.Sole b e) :
    Replanned s (rebuild s) ∧ (rebuild s).reports = s.reports ∧ ∃ f, (rebuild s).tsc.plan = [{ e with fit := f }] := by
  obtain ⟨f, hf⟩ := h.drawPlan
  have hplan : (Machine.drawPlan s).tsc.plan = [{ e with fit := f }] := by rw [hf]; rfl
  have hbuilt : Machine.rebuild s = raise .plan (Machine.drawPlan s) := by
    rw [Machine.rebuild, trimTaken_clear (by simp [hplan, h.clear]),
      armingTest_begun (b := b) (by rw [hf]; exact h.active) (by simp [hplan, h.recording])]
  rw [hbuilt]
  refine ⟨?_, by simp [hf], f, by simpa using hplan⟩
  have hdrawn : Replanned s (Machine.drawPlan s) := by
    rw [hf]
    exact ⟨rfl, rfl, rfl, rfl, rfl, rfl, rfl, rfl, rfl, rfl, rfl, .of_link rfl rfl⟩
  exact hdrawn.trans (replanned_raise _ _)

/-- The entry's effective stop moves with the clock. -/
def PlanEntry.movedBy (z : Int) (e : PlanEntry) : PlanEntry := { e with eStop := ((e.eStop : Int) + z).toNat }

theorem State.Sole.stopMoves (h : s.Sole b e) :
    (Machine.stopMoves z s).Sole b (e.movedBy z) ∧ Replanned s (Machine.stopMoves z s) := by
  have hmoved : Machine.stopMoves z s = s.mapTsc fun t => { t with plan := [e.movedBy z] } := by
    have hentry := h.entry
    simp [Machine.stopMoves, withActive, h.active, mapEntry, State.mapTsc, h.plan, hentry, PlanEntry.movedBy]
  rw [hmoved]
  exact ⟨⟨h.active, rfl, h.entry, h.clear, h.recording, h.draws⟩,
    ⟨rfl, rfl, rfl, rfl, rfl, rfl, rfl, rfl, rfl, rfl, rfl, .of_link rfl rfl⟩⟩

/-- Entries that do not wait are not missed. -/
theorem missEntries_begun (h : ∀ x ∈ s.tsc.plan, x.waiting = false) : missEntries s = s := by
  have hmiss : ∀ x ∈ s.tsc.plan, x.missed s.clk = false := fun x hx => by simp [PlanEntry.missed, h x hx]
  have hnone : s.tsc.plan.filter (PlanEntry.missed s.clk) = [] := by
    rw [List.filter_eq_nil_iff]
    exact fun x hx => by simp [hmiss x hx]
  have hall : s.tsc.plan.filter (fun x => !x.missed s.clk) = s.tsc.plan := by
    rw [List.filter_eq_self]
    exact fun x hx => by simp [hmiss x hx]
  simp only [missEntries, hnone, List.foldl_nil, State.mapTsc, hall]

/-- The JUMP of a clock that was set, as TSC takes it. -/
theorem clockReported_sole {c : ClockReport} (h : s.Sole b e) (hset : s.clk.state ≠ .unset) (hk : c.kind = .jump)
    (hz : c.size = some z) (hd : ∀ n, drawSlot (skipTested s) n = []) :
    Replanned s (clockReported c s) ∧ (clockReported c s).reports = s.reports ∧
    ∃ f, (clockReported c s).tsc.plan = [{ e.movedBy z with fit := f }] := by
  have hskip : (skipTested s).Sole b e :=
    ⟨by simpa using h.active, by simpa using h.plan, h.entry, h.clear, h.recording, hd⟩
  have htested : entriesTested s = skipTested s := by
    rw [entriesTested_set hset, missEntries_begun (by simp [h.plan, PlanEntry.waiting, h.recording])]
  have htold : stopTold c (skipTested s) = stopMoves z (skipTested s) := by simp [stopTold, hk, hz]
  have hbeq : (s.clk.state == .unset) = false := by simpa using hset
  obtain ⟨hsole, hmoved⟩ := hskip.stopMoves (z := z)
  obtain ⟨hp, hrep, hplan⟩ := hsole.rebuild
  rw [clockReported_eq, htested, htold, hbeq, Bool.false_and, if_neg (by decide)]
  refine ⟨((replanned_skipTested s).trans hmoved).trans hp, ?_, hplan⟩
  simp [hrep, skipTested_reports]

/-! ### The tick beside a recording -/

/-- An occurrence under time control records, its entry is all that is planned, and the ARMED slots call for nothing more. -/
structure State.Records (a : Active) (e : PlanEntry) (s : State) : Prop where
  active : s.tsc.active = some a
  plan : s.tsc.plan = [e]
  slot : e.slot = a.slot
  date : e.date = a.date
  state : a.state = .recording
  control : a.control = .time
  recording : e.state = .recording
  clear : e.conflict = .clear
  set : s.clk.state ≠ .unset
  mode : s.pwr.mode ≠ .backup
  guarded : ∀ n, (s.slot n).state = .armed →
    (s.slot n).recurrence = .once ∧ (s.slot n).once = a.date ∧ (s.slot n).guard = some a.date

/-- The recording has a second less, and its effective stop moves with the clock. -/
theorem State.Records.jumps (h : s.Records a e) (hq : s.reports = []) (hm : s.clk.summer ≠ m) :
    ∃ t, done (jumps i m q z (secondEnds s)) = .next t ∧ SummerShown (.ofInstant i) m q s t ∧
      t.tsc.active = some { a with remaining := a.remaining - 1 } ∧ ∃ f, t.tsc.plan = [{ e.movedBy z with fit := f }] := by
  have hv := jumps_moved (i := i) (q := q) (z := z) hm
  have hrep := jumps_reports (i := i) (q := q) (z := z) hm
  generalize Machine.jumps i m q z (secondEnds s) = v at hv hrep ⊢
  rw [hq, if_neg h.mode, List.nil_append] at hrep
  have hcounts : a.counts = { a with remaining := a.remaining - 1 } := if_pos ⟨h.state, h.control⟩
  have htsc : v.tsc = { s.tsc with active := some { a with remaining := a.remaining - 1 } } := by
    rw [hv.tsc, secondEnds_tsc, if_neg h.mode, h.active, Option.map_some, hcounts]
  have hslots : v.tsc.slots = s.tsc.slots := by rw [htsc]
  have hdraws : ∀ u : State, u.tsc.slots = v.tsc.slots → ∀ n, drawSlot u n = [] := fun u hu n =>
    drawSlot_guarded (date := a.date) (by rw [slot_of_slots (hu.trans hslots)]; exact h.guarded n)
  have hsole : (v.awaits []).Sole { a with remaining := a.remaining - 1 } e :=
    ⟨by simp [htsc], by simp [htsc, h.plan], by simp [PlanEntry.is, h.slot, h.date], h.clear, h.recording, hdraws _ rfl⟩
  obtain ⟨hp, hquiet, f, hplan⟩ := clockReported_sole (c := jumpOf z s) hsole (by simpa [hv.state] using h.set) rfl
    (if_neg h.set) (hdraws _ (by simp))
  have hall := (replanned_awaits [] v).trans hp
  have hdone := done_of_settles (settles_take hrep (.quiet hquiet)) (by decide)
  have hsent (u : State) : (transmit u).tsc = u.tsc := by simp
  refine ⟨_, hdone, hv.shown hall, ?_, f, ?_⟩
  · rw [hsent]
    exact hall.active.trans (by rw [htsc])
  · rw [hsent]
    exact hplan

end

end Sys2Proof.Machine

namespace Sys2Proof.Proofs
open Sys2Proof.Machine

/-- Settles O44, by the transition that the tick meets; the first two beside no occurrence and beside a recording. -/
theorem summerTimeMovesTheClock : Obligations.SummerTimeMovesTheClock := by
  intro r s hq hsrc hrule hsub hv hr hy i raised shows rebuilt starts ends
  have hforce : s.clk.ruleInForce = some r := by simp only [Clk.ruleInForce, hsrc, hrule]
  have hshows : ∀ {now m quarters t}, SummerShown now m quarters s t → shows now m quarters t := fun h =>
    ⟨h.now, h.summer, h.offset, h.state, h.mec, h.tun, h.tar, h.pwr, h.slots, h.changed, h.raised⟩
  have htick := exec_secondTick hv hr hsub hy
  have forward : starts → exec .clockTick s = done (jumps (i + 3600) .summer 4 3600 (secondEnds s)) := fun ⟨hm, hi⟩ => by
    rw [htick, transition_forward hforce hm hi]
    rfl
  have backward : ends .summer → exec .clockTick s = done (jumps (i - 3600) .repeated (-4) (-3600) (secondEnds s)) :=
    fun ⟨hm, hi⟩ => by
      rw [htick, transition_backward hforce hm hi]
      rfl
  have fromStandard : starts → s.clk.summer ≠ .summer := fun hs => by rw [hs.1]; decide
  have fromSummer : ends .summer → s.clk.summer ≠ .repeated := fun hs => by rw [hs.1]; decide
  refine ⟨fun ha hd => ⟨fun hs => ?_, fun hs => ?_, fun hs => ?_⟩, ?_⟩
  · obtain ⟨t, ht, hshown, hplan⟩ := done_jumps (i := i + 3600) (q := 4) (z := 3600) hq ⟨ha, hd⟩ (fromStandard hs)
    exact ⟨t, (forward hs).trans ht, hshows hshown, hplan⟩
  · obtain ⟨t, ht, hshown, hplan⟩ := done_jumps (i := i - 3600) (q := -4) (z := -3600) hq ⟨ha, hd⟩ (fromSummer hs)
    exact ⟨t, (backward hs).trans ht, hshows hshown, hplan⟩
  · obtain ⟨t, ht, hshown, htsc⟩ := done_repeatEnds hq ha hs.1
    exact ⟨t, by rw [htick, transition_repeatEnds hforce hs.1 hs.2, ht], hshows hshown, htsc⟩
  · intro a e ha hp hslot hdate hst hctl hrec hclear hset hmode hguard runsOn
    have h : s.Records a e := ⟨ha, hp, hslot, hdate, hst, hctl, hrec, hclear, hset, hmode, hguard⟩
    refine ⟨fun hs => ?_, fun hs => ?_⟩
    · obtain ⟨t, ht, hshown, hact, f, hplan⟩ := h.jumps (i := i + 3600) (q := 4) (z := 3600) hq (fromStandard hs)
      exact ⟨t, (forward hs).trans ht, hshows hshown, hact, f, hplan⟩
    · obtain ⟨t, ht, hshown, hact, f, hplan⟩ := h.jumps (i := i - 3600) (q := -4) (z := -3600) hq (fromSummer hs)
      have hstop : ((e.eStop : Int) + -3600).toNat = e.eStop - 3600 := by omega
      exact ⟨t, (backward hs).trans ht, hshows hshown, hact, f, by rw [hplan, PlanEntry.movedBy, hstop]⟩

end Sys2Proof.Proofs
end

section
/-! SUPPORT. Dates within the clock's years, and the settings' fields (R127, R130, R133, R134). -/

namespace Sys2Proof.Machine

section
variable {b : Byte} {low high n : Nat} {s : State}

/-! ### The year of a date -/

/-- A day of a month lies within its year. -/
theorem daysBefore_add_lt {year month day : Nat} (hlow : 1 ≤ month) (hhigh : month ≤ 12)
    (hday : day ≤ monthLength year month) :
    daysBefore year month + (day - 1) < if year % 4 = 0 then 366 else 365 := by
  have hleap : isLeap year = decide (year % 4 = 0) := rfl
  by_cases h : year % 4 = 0 <;> simp only [h, decide_true, decide_false, if_true, if_false] at hleap ⊢ <;>
    interval_cases month <;> simp [daysBefore, monthLength, hleap] at hday ⊢ <;> omega

/-- A valid date lies in the year it names. -/
theorem yearOf_dateOf {year month day : Nat} (hlow : 1 ≤ month) (hhigh : month ≤ 12)
    (hday : day ≤ monthLength year month) : yearOf (dateOf year month day) = year := by
  have hlt := daysBefore_add_lt hlow hhigh hday
  unfold yearOf dateOf yearDays
  rw [Nat.add_assoc]
  generalize daysBefore year month + (day - 1) = x at hlt ⊢
  split at hlt <;> split <;> omega

/-- The year of an instant on a valid date. -/
theorem instantYear_date {year month day sec : Nat} (hlow : 1 ≤ month) (hhigh : month ≤ 12)
    (hday : day ≤ monthLength year month) (hsec : sec < 86400) :
    instantYear (instantOf (dateOf year month day) sec) = year := by
  have hdate : instantOf (dateOf year month day) sec / 86400 = dateOf year month day := by
    rw [instantOf]
    omega
  rw [instantYear, hdate, yearOf_dateOf hlow hhigh hday]

/-! ### BCD fields -/

theorem bcdOutside_bad (h : ∀ n, bcd b = some n → n < low ∨ high < n) : bcdOutside low high b = true := by
  unfold bcdOutside
  cases hb : bcd b with
  | none => rfl
  | some n => exact outside_iff.mpr (h n hb)

theorem bcdOutside_good (hb : bcd b = some n) (hl : low ≤ n) (hh : n ≤ high) : bcdOutside low high b = false := by
  have hout : outside low high n = false := by
    rw [Bool.eq_false_iff, Ne, outside_iff]
    omega
  simp only [bcdOutside, hb, hout]

theorem bcdValue_eq (hb : bcd b = some n) : bcdValue b = n := by rw [bcdValue, hb, Option.getD_some]

/-- Two BCD digits are at most 99. -/
theorem bcd_le (hb : bcd b = some n) : n ≤ 99 := by
  unfold bcd at hb
  dsimp only at hb
  split at hb
  · cases hb
    omega
  · cases hb

/-! ### The evaluation of a reading (R131) -/

/-- What the rule makes of the reading. -/
def Clk.evaluated (c : Clk) : Summer :=
  match c.rule with
  | none => .standard
  | some r => r.evalReading c.reading

theorem evaluateReading_rule (h : s.clk.source = .rule) :
    evaluateReading s = setSummer s.clk.evaluated (s.clk.offsetOf s.clk.evaluated) s := by
  simp only [evaluateReading, h]
  rfl

/-- Where CLOCK is raised anyway, a change of the summer state raises nothing more. -/
theorem raise_setSummer {m : Summer} {o : Int} (hm : s.pwr.mode = .on) :
    raise .clock (setSummer m o s) = raise .clock (s.mapClk fun c => { c with summer := m, offset := o }) := by
  by_cases hc : s.clk.summer = m
  · simp [setSummer, hc, raiseIf]
  · simp [setSummer, hc, raiseIf, hm, raise_eq, State.mapLnk, State.mapClk, BitVec.or_assoc]

end

end Sys2Proof.Machine
end

section
/-! SET_TIME (R134). -/

namespace Sys2Proof.Machine

section
variable {y mo d h mi sec : Byte} {year month day hour minute : Nat} {now : DateTime} {s t : State}

/-- The reading that SET_TIME's fields spell. -/
def timeRead (y mo d h mi sec : Byte) : DateTime :=
  { year := bcdValue y, month := bcdValue mo, day := bcdValue d, hour := bcdValue h, minute := bcdValue mi,
    second := bcdValue sec }

/-- The forward transition skips the hour of an instant, where a rule is in force. -/
def Clk.skips (i : Nat) (c : Clk) : Bool :=
  match c.ruleInForce with
  | none => false
  | some r => r.skipped i

theorem Clk.skips_ruleless {c : Clk} (hc : c.ruleInForce = none) (i : Nat) : c.skips i = false := by
  simp only [Clk.skips, hc]

/-- The instant at which a year's summer begins is in the hour that is skipped. -/
theorem Clk.skips_start {c : Clk} {r : SummerRule} {i : Nat} (hc : c.ruleInForce = some r)
    (hi : i = r.startAt (instantYear i)) : c.skips i = true := by
  have hskip : r.skipped i = true := by
    simp only [SummerRule.skipped, ← hi]
    simp
  simpa only [Clk.skips, hc] using hskip

theorem reqSetTime_eq (y mo d h mi sec : Byte) (s : State) :
    reqSetTime y mo d h mi sec s =
      checked
        [(2, bcdOutside 0 99 y), (3, bcdOutside 1 12 mo), (4, bcdOutside 1 (monthLength (bcdValue y) (bcdValue mo)) d),
         (5, bcdOutside 0 23 h ||
            s.clk.skips (instantOf (dateOf (bcdValue y) (bcdValue mo) (bcdValue d)) (bcdValue h * 3600))),
         (6, bcdOutside 0 59 mi), (7, bcdOutside 0 59 sec)]
        (fun s => replyOk .clock (setTime (timeRead y mo d h mi sec) s)) s := rfl

/-! ### The fields -/

theorem reqSetTime_badYear (hy : bcd y = none) : reqSetTime y mo d h mi sec s = reply (.refused .fieldRange 2) s := by
  rw [reqSetTime_eq, checked_cons, if_pos (bcdOutside_bad (by simp [hy])), refuseField]

section
variable (hy : bcd y = some year)
include hy

theorem reqSetTime_badMonth (hmo : ∀ n, bcd mo = some n → n < 1 ∨ 12 < n) :
    reqSetTime y mo d h mi sec s = reply (.refused .fieldRange 3) s := by
  simp [reqSetTime_eq, checked_cons, bcdOutside_good hy (Nat.zero_le _) (bcd_le hy), bcdOutside_bad hmo, refuseField]

variable (hmo : bcd mo = some month ∧ 1 ≤ month ∧ month ≤ 12)
include hmo

/-- With the year and the month good the day is checked next. -/
theorem reqSetTime_month :
    reqSetTime y mo d h mi sec s =
      checked
        [(4, bcdOutside 1 (monthLength year month) d),
         (5, bcdOutside 0 23 h || s.clk.skips (instantOf (dateOf year month (bcdValue d)) (bcdValue h * 3600))),
         (6, bcdOutside 0 59 mi), (7, bcdOutside 0 59 sec)]
        (fun s => replyOk .clock (setTime (timeRead y mo d h mi sec) s)) s := by
  obtain ⟨hmo, hlow, hhigh⟩ := hmo
  rw [reqSetTime_eq, checked_cons, bcdOutside_good hy (Nat.zero_le _) (bcd_le hy), checked_cons,
    bcdOutside_good hmo hlow hhigh, bcdValue_eq hy, bcdValue_eq hmo]
  rfl

theorem reqSetTime_badDay (hd : ∀ n, bcd d = some n → n < 1 ∨ monthLength year month < n) :
    reqSetTime y mo d h mi sec s = reply (.refused .fieldRange 4) s := by
  rw [reqSetTime_month hy hmo, checked_cons, if_pos (bcdOutside_bad hd), refuseField]

variable (hd : bcd d = some day ∧ 1 ≤ day ∧ day ≤ monthLength year month)
include hd

/-- With the date good the hour is checked next. -/
theorem reqSetTime_day :
    reqSetTime y mo d h mi sec s =
      checked
        [(5, bcdOutside 0 23 h || s.clk.skips (instantOf (dateOf year month day) (bcdValue h * 3600))),
         (6, bcdOutside 0 59 mi), (7, bcdOutside 0 59 sec)]
        (fun s => replyOk .clock (setTime (timeRead y mo d h mi sec) s)) s := by
  obtain ⟨hd, hlow, hhigh⟩ := hd
  rw [reqSetTime_month hy hmo, checked_cons, bcdOutside_good hd hlow hhigh, bcdValue_eq hd]
  rfl

theorem reqSetTime_badHour (hh : ∀ n, bcd h = some n → n < 0 ∨ 23 < n) :
    reqSetTime y mo d h mi sec s = reply (.refused .fieldRange 5) s := by
  rw [reqSetTime_day hy hmo hd, checked_cons, bcdOutside_bad hh, Bool.true_or, if_pos rfl, refuseField]

variable (hho : bcd h = some hour ∧ 0 ≤ hour ∧ hour ≤ 23)
include hho

theorem reqSetTime_skippedHour {r : SummerRule} (hr : s.clk.ruleInForce = some r)
    (hi : dateOf year month day * 86400 + hour * 3600 = r.startAt year) :
    reqSetTime y mo d h mi sec s = reply (.refused .fieldRange 5) s := by
  have ⟨_, hlow, hhigh⟩ := hmo
  have hyear : instantYear (instantOf (dateOf year month day) (hour * 3600)) = year := instantYear_date hlow hhigh hd.2.2 (by omega)
  have hskip : s.clk.skips (instantOf (dateOf year month day) (bcdValue h * 3600)) = true := by
    rw [bcdValue_eq hho.1]
    exact Clk.skips_start hr (by rw [hyear]; exact hi)
  rw [reqSetTime_day hy hmo hd, checked_cons, hskip, Bool.or_true, if_pos rfl, refuseField]

/-- With the hour good, and none skipped, the minutes and the seconds are checked next. -/
theorem reqSetTime_hour (hr : s.clk.ruleInForce = none) :
    reqSetTime y mo d h mi sec s =
      checked [(6, bcdOutside 0 59 mi), (7, bcdOutside 0 59 sec)]
        (fun s => replyOk .clock (setTime (timeRead y mo d h mi sec) s)) s := by
  obtain ⟨hho, hlow, hhigh⟩ := hho
  rw [reqSetTime_day hy hmo hd, checked_cons, bcdOutside_good hho hlow hhigh, Clk.skips_ruleless hr]
  rfl

theorem reqSetTime_badMinute (hr : s.clk.ruleInForce = none) (hmi : ∀ n, bcd mi = some n → n < 0 ∨ 59 < n) :
    reqSetTime y mo d h mi sec s = reply (.refused .fieldRange 6) s := by
  rw [reqSetTime_hour hy hmo hd hho hr, checked_cons, if_pos (bcdOutside_bad hmi), refuseField]

variable (hmi : bcd mi = some minute ∧ 0 ≤ minute ∧ minute ≤ 59)
include hmi

/-- With the minutes good only the seconds are left. -/
theorem reqSetTime_minute (hr : s.clk.ruleInForce = none) :
    reqSetTime y mo d h mi sec s =
      checked [(7, bcdOutside 0 59 sec)] (fun s => replyOk .clock (setTime (timeRead y mo d h mi sec) s)) s := by
  obtain ⟨hmi, hlow, hhigh⟩ := hmi
  rw [reqSetTime_hour hy hmo hd hho hr, checked_cons, bcdOutside_good hmi hlow hhigh]
  rfl

theorem reqSetTime_badSecond (hr : s.clk.ruleInForce = none) (hsec : ∀ n, bcd sec = some n → n < 0 ∨ 59 < n) :
    reqSetTime y mo d h mi sec s = reply (.refused .fieldRange 7) s := by
  rw [reqSetTime_minute hy hmo hd hho hmi hr, checked_one, if_pos (bcdOutside_bad hsec)]

theorem reqSetTime_taken {second : Nat} (hr : s.clk.ruleInForce = none) (hsec : bcd sec = some second ∧ 0 ≤ second ∧ second ≤ 59) :
    reqSetTime y mo d h mi sec s = replyOk .clock
      (setTime { year := year, month := month, day := day, hour := hour, minute := minute, second := second } s) := by
  have hread : timeRead y mo d h mi sec = { year := year, month := month, day := day, hour := hour, minute := minute, second := second } := by
    simp only [timeRead, bcdValue_eq hy, bcdValue_eq hmo.1, bcdValue_eq hd.1, bcdValue_eq hho.1, bcdValue_eq hmi.1,
      bcdValue_eq hsec.1]
  rw [reqSetTime_minute hy hmo hd hho hmi hr, checked_one, bcdOutside_good hsec.1 hsec.2.1 hsec.2.2, hread]
  rfl

end

/-! ### The clock is set -/

/-- The clock holds the reading given, evaluated, and is MANUAL. -/
def timeSet (d : DateTime) (s : State) : State :=
  (evaluateReading (s.mapClk fun c => { c with now := d, sub := 0 })).mapClk fun c => { c with state := .manual }

theorem setTime_eq (d : DateTime) (s : State) :
    setTime d s = stateMoved s.clk.state (raise .clock
      (clockReport .set s.clk.state ((d.instant : Int) - s.clk.reading) (timeSet d s))) := rfl

/-- Under the RULE source without a rule the clock shows standard time. -/
theorem timeSet_spec (hm : s.pwr.mode = .on) (hsrc : s.clk.source = .rule) (hrule : s.clk.rule = none) :
    (timeSet now s).clk =
      { s.clk with now := now, sub := 0, state := .manual, summer := .standard, offset := s.clk.zone } := by
  rw [timeSet, evaluateReading_rule (by exact hsrc)]
  simp [setSummer_clk, Clk.evaluated, hrule, Clk.offsetOf, hm]

/-- What SET_TIME leaves of a clock that was UNSET, and the two reports that it makes. -/
theorem setTime_spec (hm : s.pwr.mode = .on) (hu : s.clk.state = .unset) (hsrc : s.clk.source = .rule)
    (hrule : s.clk.rule = none) :
    (setTime now s).clk =
      { s.clk with now := now, sub := 0, state := .manual, summer := .standard, offset := s.clk.zone } ∧
    ∃ c, (setTime now s).reports = s.reports ++ [.clock c, .visitTest] := by
  have hset := timeSet_spec (now := now) hm hsrc hrule
  have hon : (timeSet now s).pwr.mode ≠ .backup := by simp [timeSet, hm]
  have hquiet : (timeSet now s).reports = s.reports := by simp [timeSet]
  rw [setTime_eq, hu]
  refine ⟨by simp [hon, hset], ?_⟩
  rw [clockReport_told hon, stateMoved, reportIf_eq]
  simp [hset, hquiet]

/-- What the command leaves: the clock that was set, with an empty plan, and every record of the deck and the tuner as it was. -/
structure TimeStored (now : DateTime) (s t : State) : Prop where
  clk : t.clk = { s.clk with now := now, sub := 0, state := .manual, summer := .standard, offset := s.clk.zone }
  mec : t.mec = s.mec
  srv : t.srv = s.srv
  ctu : t.ctu = s.ctu
  tpe : t.tpe = s.tpe
  tun : t.tun = s.tun
  tar : t.tar = s.tar
  pwr : t.pwr = s.pwr
  slots : t.tsc.slots = s.tsc.slots
  plan : t.tsc.plan = []

/-- An UNSET clock is set: with nothing planned, no slot ARMED and sync off, its reports come to no more. -/
theorem done_setTime (hq : s.reports = []) (hm : s.pwr.mode = .on) (hu : s.clk.state = .unset) (hsrc : s.clk.source = .rule)
    (hrule : s.clk.rule = none) (ha : s.tsc.active = none) (hplan : s.tsc.plan = []) (hun : ∀ n, (s.slot n).state ≠ .armed)
    (hoff : s.clk.syncOn = false) :
    ∃ t, done (replyOk .clock (setTime now s)) = .next t ∧ TimeStored now s t := by
  obtain ⟨hclk, c, hrep⟩ := setTime_spec (now := now) hm hu hsrc hrule
  have hdue : (replyOk .clock (setTime now s)).NoneDue :=
    ⟨by simpa using ha, .inr ⟨by simpa using hplan, fun n => by
      rw [slot_of_slots (s := s) (by simp)]
      exact hun n⟩⟩
  have hrep' : (replyOk .clock (setTime now s)).reports = [.clock c, .visitTest] := by simp [hrep, hq]
  obtain ⟨t, ht, hp, hpl, -⟩ := done_told hdue hrep' (by simp [ClockTold, hclk, hoff]) (by simp [Config.reportBound])
  refine ⟨_, ht, ?_⟩
  constructor
  case plan => simpa using hpl (by simpa using hplan)
  all_goals simp [hp.clk, hp.mec, hp.srv, hp.ctu, hp.tpe, hp.tun, hp.tar, hp.pwr, hp.slots, hclk]

end

end Sys2Proof.Machine
end

section
/-! ZONE_PUT and SYNC_PUT, and O45, assembled from the three requests (R133, R134, R136). -/

namespace Sys2Proof.Machine

section
variable {z src rp a b c d e f : Byte} {s : State}

/-! ### ZONE_PUT's fields, the lowest first (log 50) -/

/-- The rule that ZONE_PUT's fields spell. -/
def zoneRule (a b c d e f : Byte) : SummerRule :=
  { startMonth := a.toNat, startWeek := b.toNat, startHour := c.toNat, endMonth := d.toNat, endWeek := e.toNat,
    endHour := f.toNat }

/-- The offset source that a byte of its list names. -/
def sourceOf (src : Byte) : OffsetSource := if src = 0 then .rule else .broadcast

theorem outside_of_bad {high : Nat} (h : b.toNat = 0 ∨ high < b.toNat) : outside 1 high b.toNat = true := by
  rw [outside_iff, Nat.lt_one_iff]
  exact h

theorem outside_of_good {high : Nat} (h : ¬(b.toNat = 0 ∨ high < b.toNat)) : outside 1 high b.toNat = false := by
  rw [Bool.eq_false_iff, Ne, outside_iff, Nat.lt_one_iff]
  exact h

theorem reqZonePut_badZone (hz : z.toInt < -48 ∨ 56 < z.toInt) :
    reqZonePut z src rp a b c d e f s = reply (.refused .fieldRange 1) s := by
  rw [reqZonePut, checked_cons, if_pos (by simpa using hz), refuseField]

section
variable (hz : -48 ≤ z.toInt ∧ z.toInt ≤ 56)
include hz

theorem reqZonePut_badSource (hsrc : 2 ≤ src.toNat) :
    reqZonePut z src rp a b c d e f s = reply (.refused .fieldRange 2) s := by
  have hzone : ¬(decide (z.toInt < -48) || decide (56 < z.toInt)) = true := by simpa using hz
  rw [reqZonePut, checked_cons, if_neg hzone, checked_cons, if_pos (above_iff.mpr hsrc), refuseField]

variable (hsrc : src.toNat < 2)
include hsrc

theorem reqZonePut_badPresence (hrp : 2 ≤ rp.toNat) :
    reqZonePut z src rp a b c d e f s = reply (.refused .fieldRange 3) s := by
  have hzone : ¬(decide (z.toInt < -48) || decide (56 < z.toInt)) = true := by simpa using hz
  have hsource : ¬above 1 src = true := by rw [above_iff]; omega
  rw [reqZonePut, checked_cons, if_neg hzone, checked_cons, if_neg hsource, checked_cons, if_pos (above_iff.mpr hrp),
    refuseField]

/-- Without a rule its fields are not read. -/
theorem reqZonePut_ruleless :
    reqZonePut z src 0 a b c d e f s = replyOk .clock (setZone z.toInt (sourceOf src) none s) := by
  have hzone : ¬(decide (z.toInt < -48) || decide (56 < z.toInt)) = true := by simpa using hz
  have hsource : ¬above 1 src = true := by rw [above_iff]; omega
  rw [reqZonePut, checked_cons, if_neg hzone, checked_cons, if_neg hsource]
  rfl

/-- With a rule its fields are checked in their order. -/
theorem reqZonePut_rule :
    reqZonePut z src 1 a b c d e f s =
      checked
        [(4, outside 1 12 a.toNat), (5, outside 1 5 b.toNat), (6, outside 1 22 c.toNat),
         (7, outside 1 12 d.toNat || d == a), (8, outside 1 5 e.toNat), (9, outside 1 23 f.toNat)]
        (fun s => replyOk .clock (setZone z.toInt (sourceOf src) (some (zoneRule a b c d e f)) s)) s := by
  have hzone : ¬(decide (z.toInt < -48) || decide (56 < z.toInt)) = true := by simpa using hz
  have hsource : ¬above 1 src = true := by rw [above_iff]; omega
  rw [reqZonePut, checked_cons, if_neg hzone, checked_cons, if_neg hsource]
  rfl

theorem reqZonePut_taken (ha : ¬(a.toNat = 0 ∨ 12 < a.toNat)) (hb : ¬(b.toNat = 0 ∨ 5 < b.toNat))
    (hc : ¬(c.toNat = 0 ∨ 22 < c.toNat)) (hd : ¬(d.toNat = 0 ∨ 12 < d.toNat)) (hne : d ≠ a)
    (he : ¬(e.toNat = 0 ∨ 5 < e.toNat)) (hf : ¬(f.toNat = 0 ∨ 23 < f.toNat)) :
    reqZonePut z src 1 a b c d e f s =
      replyOk .clock (setZone z.toInt (sourceOf src) (some (zoneRule a b c d e f)) s) := by
  rw [reqZonePut_rule hz hsrc]
  simp [checked_cons, checked_nil, outside_of_good ha, outside_of_good hb, outside_of_good hc,
    outside_of_good hd, hne, outside_of_good he, outside_of_good hf]

end

/-! ### The zone is set -/

/-- CLK's settings of ZONE_PUT. -/
def Clk.zoned (zone : Int) (source : OffsetSource) (rule : Option SummerRule) (c : Clk) : Clk :=
  { c with zone := zone, source := source, rule := rule }

theorem setZone_broadcast (zone : Int) (rule : Option SummerRule) (s : State) :
    setZone zone .broadcast rule s = raise .clock (s.mapClk (Clk.zoned zone .broadcast rule)) := by
  cases hst : s.clk.state
  all_goals
    simp only [setZone, State.mapClk_clk, hst]
    rfl

/-- A clock that is not BROADCAST is not moved, but its reading evaluated. -/
theorem setZone_rule {zone : Int} {rule : Option SummerRule} (hst : s.clk.state ≠ .broadcast) (hm : s.pwr.mode = .on) :
    setZone zone .rule rule s = raise .clock (s.mapClk fun c =>
      { c.zoned zone .rule rule with
        summer := (c.zoned zone .rule rule).evaluated,
        offset := zone + if (c.zoned zone .rule rule).evaluated = .summer then 4 else 0 }) := by
  have hstep : setZone zone .rule rule s = raise .clock (evaluateReading (s.mapClk (Clk.zoned zone .rule rule))) := by
    cases h : s.clk.state
    case broadcast => exact absurd h hst
    all_goals
      simp only [setZone, State.mapClk_clk, h]
      rfl
  rw [hstep, evaluateReading_rule rfl, raise_setSummer (by exact hm)]
  rfl

/-- The clock's settings are taken, CLOCK is raised, and the reply is ready. -/
theorem told_clock (hm : s.pwr.mode = .on) (k : Byte) (g : Clk → Clk) :
    replyOk .clock (raise .clock ((s.holding k).mapClk g)) =
      { s with
        clk := g s.clk,
        lnk := { s.lnk with
          buffer := some k, reply := some (.ok .clock), notices := s.lnk.notices ||| (0x80#12 &&& s.lnk.mask) } } := by
  have hon : ((s.holding k).mapClk g).pwr.mode ≠ .backup := by simp [hm]
  rw [raise, if_neg hon]
  rfl

/-! ### SYNC_PUT -/

theorem reqSyncPut_bad (h : 2 ≤ b.toNat) : reqSyncPut b s = reply (.refused .fieldRange 1) s := by
  rw [reqSyncPut, checked_one, if_pos (above_iff.mpr h)]

/-- Where no visit is due nothing is requested. -/
theorem visitTest_undue (h : s.visitDue = false) : visitTest s = s := by simp [visitTest, h]

theorem reqSyncPut_disable (h : s.clk.request = .none) :
    reqSyncPut 1 s = replyOk .clock (s.mapClk fun c => { c with syncOn := false }) := by
  have hset : setSync false s = s.mapClk fun c => { c with syncOn := false } := by
    have hrequest : (s.mapClk fun c => { c with syncOn := false }).clk.request = .none := h
    simp only [setSync, Bool.false_eq_true, if_false, withdrawRequest, if_pos hrequest]
    exact visitTest_undue (by simp [State.visitDue])
  exact congrArg (replyOk .clock) hset

theorem reqSyncPut_enable (h : s.clk.srcExists = false) :
    reqSyncPut 0 s = replyOk .clock (s.mapClk fun c => { c with syncOn := true }) :=
  congrArg (replyOk .clock) (visitTest_undue (by simp [State.visitDue, h]))

end

end Sys2Proof.Machine

namespace Sys2Proof.Proofs
open Sys2Proof.Machine

/-- Settles O45: each request by its checks in their order, and by what it stores where all of them pass. -/
theorem clockSettingsStore : Obligations.ClockSettingsStore := by
  intro s hl hq
  have hon : s.pwr.mode = .on := linkAwake_mode hl.1
  refine ⟨?stored, ?year, ?fields, ?zoneFields, ?zone, ?ruleless, ?rule, ?setting, ?disable, ?enable⟩
  case stored =>
    intro y mo d h mi sec now hy hmo hd hh hmi hsec hvalid hu ha hplan hun hoff hsrc hrule
    obtain ⟨-, ⟨hmo1, hmo2⟩, ⟨hd1, hd2⟩, hh2, hmi2, hsec2⟩ := DateTime.valid_iff.mp hvalid
    have hforce : (s.holding 0x30).clk.ruleInForce = none := by simp [Clk.ruleInForce, hsrc, hrule]
    have hreq := reqSetTime_taken hy ⟨hmo, hmo1, hmo2⟩ ⟨hd, hd1, hd2⟩ ⟨hh, Nat.zero_le _, hh2⟩
      ⟨hmi, Nat.zero_le _, hmi2⟩ hforce ⟨hsec, Nat.zero_le _, hsec2⟩
    have hexec : exec (.clockPutSetTime y mo d h mi sec) s = done (replyOk .clock (setTime now (s.holding 0x30))) :=
      (congrArg done (arrives_listened hl _ _)).trans (congrArg done hreq)
    obtain ⟨t, ht, hst⟩ := done_setTime (s := s.holding 0x30) hq hon hu hsrc hrule ha hplan hun hoff
    exact ⟨t, hexec.trans ht, hst.clk, hst.mec, hst.srv, hst.ctu, hst.tpe, hst.tun, hst.tar, hst.pwr, hst.slots, hst.plan⟩
  case year => exact fun y mo d h mi sec hy => exec_answered rfl rfl hl (reqSetTime_badYear hy) hq
  case fields =>
    intro y mo d h mi sec yy mm dd hh nn hy bad good refused
    have refuse : ∀ {f}, reqSetTime y mo d h mi sec (s.holding 0x30) = reply (.refused .fieldRange f) (s.holding 0x30) →
        refused f := fun hreq => exec_answered rfl rfl hl hreq hq
    refine ⟨fun hmo => refuse (reqSetTime_badMonth hy hmo), fun hmo => ⟨fun hd => refuse (reqSetTime_badDay hy hmo hd),
      fun hd => ⟨fun hh => refuse (reqSetTime_badHour hy hmo hd hh), fun hh => ⟨fun r hsrc hr hi => ?_, fun hr =>
        ⟨fun hmi => refuse (reqSetTime_badMinute hy hmo hd hh hr hmi), fun hmi hsec =>
          refuse (reqSetTime_badSecond hy hmo hd hh hmi hr hsec)⟩⟩⟩⟩⟩
    have hforce : (s.holding 0x30).clk.ruleInForce = some r := by simp [Clk.ruleInForce, hsrc, hr]
    exact refuse (reqSetTime_skippedHour hy hmo hd hh hforce hi)
  case zoneFields =>
    intro z src a b c d e f hz1 hz2 refused bad
    have refuse : ∀ {rp n}, reqZonePut z src rp a b c d e f (s.holding 0x32) = reply (.refused .fieldRange n) (s.holding 0x32) →
        refused rp n := fun hreq => exec_answered rfl rfl hl hreq hq
    refine ⟨fun hsrc rp => refuse (reqZonePut_badSource ⟨hz1, hz2⟩ hsrc), fun hsrc =>
      ⟨fun rp hrp => refuse (reqZonePut_badPresence ⟨hz1, hz2⟩ hsrc hrp), ?_⟩⟩
    have hrule := reqZonePut_rule (a := a) (b := b) (c := c) (d := d) (e := e) (f := f) (s := s.holding 0x32) ⟨hz1, hz2⟩ hsrc
    refine ⟨fun ha => refuse ?_, fun ha hb => refuse ?_, fun ha hb hc => refuse ?_, fun ha hb hc hd => refuse ?_,
      fun ha hb hc hd hne he => refuse ?_, fun ha hb hc hd hne he hf => refuse ?_⟩
    · rw [hrule, checked_cons, if_pos (outside_of_bad ha), refuseField]
    · rw [hrule]
      simp [checked_cons, outside_of_good ha, outside_of_bad hb, refuseField]
    · rw [hrule]
      simp [checked_cons, outside_of_good ha, outside_of_good hb, outside_of_bad hc, refuseField]
    · have hmonth : (outside 1 12 d.toNat || d == a) = true :=
        hd.elim (fun h => by simp [outside_of_bad h]) (fun h => by simp [h])
      rw [hrule]
      simp [checked_cons, outside_of_good ha, outside_of_good hb, outside_of_good hc, hmonth, refuseField,
        -Bool.or_eq_true]
    · rw [hrule]
      simp [checked_cons, outside_of_good ha, outside_of_good hb, outside_of_good hc, outside_of_good hd, hne,
        outside_of_bad he, refuseField]
    · rw [hrule]
      simp [checked_cons, outside_of_good ha, outside_of_good hb, outside_of_good hc, outside_of_good hd, hne,
        outside_of_good he, outside_of_bad hf, refuseField]
  case zone => exact fun z src rp a b c d e f hz => exec_answered rfl rfl hl (reqZonePut_badZone hz) hq
  case ruleless =>
    intro z src a b c d e f hz1 hz2 hsrc hst
    refine exec_answered (act := reqZonePut z src 0 a b c d e f) rfl rfl hl ?_ hq
    rw [reqZonePut_ruleless ⟨hz1, hz2⟩ (Nat.lt_succ_of_le hsrc), sourceOf]
    by_cases h0 : src = 0
    · rw [if_pos h0, if_pos h0, setZone_rule (s := s.holding 0x32) hst hon, told_clock hon]
      simp [Clk.zoned, Clk.evaluated]
    · rw [if_neg h0, if_neg h0, setZone_broadcast, told_clock hon]
      rfl
  case rule =>
    intro z a b c d e f hz1 hz2 hst ha1 ha2 hb1 hb2 hc1 hc2 hd1 hd2 hne he1 he2 hf1 hf2 r m
    refine exec_answered (act := reqZonePut z 0 1 a b c d e f) rfl rfl hl ?_ hq
    have hreq := reqZonePut_taken (src := 0) (a := a) (b := b) (c := c) (d := d) (e := e) (f := f)
      (s := s.holding 0x32) ⟨hz1, hz2⟩ (by decide) (by omega) (by omega) (by omega) (by omega) hne (by omega) (by omega)
    rw [hreq, sourceOf, if_pos rfl, setZone_rule (s := s.holding 0x32) hst hon, told_clock hon]
    rfl
  case setting => exact fun b hb => exec_answered rfl rfl hl (reqSyncPut_bad hb) hq
  case disable => exact fun hr => exec_answered rfl rfl hl (reqSyncPut_disable hr) hq
  case enable => exact fun hs => exec_answered rfl rfl hl (reqSyncPut_enable hs) hq

end Sys2Proof.Proofs
end
